-- ==== Sys2Proof/Word.lean ====
section
/-! DEFINITION. The words of the SP316: the values the manual adds, masks or sends as bits. -/

namespace Sys2Proof

/-- A byte of a frame or of the profile image. -/
abbrev Byte := BitVec 8

/-- A line count: 16 bits, wrapping from 65535 to 0 (Section 0.5, R1). -/
abbrev LineCount := BitVec 16

/-- A run id: the train's address in the high byte, its run number in the low byte (Section 0.4). -/
abbrev RunId := BitVec 16

/-- A model code, 0..63 (63 is the EMPTY PITCH). -/
abbrev Variant := BitVec 6

/-- The number of a lane, 0..15. -/
abbrev LaneIx := Fin 16

end Sys2Proof
end

