-- ==== Sys2Proof/Syntax.lean ====
section
/-! DEFINITION. The commands of the SP316: one constructor for each row of spec/opcode_table.json, in the table's
order, with the operands a sender gives it. -/

namespace Sys2Proof

/-- The three sensors of a lane, in the order the SENSE chain gives them (R22). -/
inductive Sensor where
  | feed
  | empty
  | reserve
deriving DecidableEq, Repr

/-- A bank of eight lanes served at one stop: bank A is lanes 0..7, bank B lanes 8..15 (Section 0.4). -/
inductive Bank where
  | a
  | b
deriving DecidableEq, Repr

/-- One 20 ms sample of the input pins: RP0..RP11 (bit i is RPi, Section 0.6) and the 48 bits of one scan of the
SENSE chain (bit 0 is the first bit read, R22). -/
structure Pins where
  rp : BitVec 12
  sense : BitVec 48
deriving DecidableEq, Repr

/-- A command. A frame command (`unit`, `runNotice`, `manifestPart`, `claimset`, `arrive`, `depart`, `receipt`,
`query`) carries the frame's source byte and its payload bytes (R165, R167). -/
inductive Instr where
  /-- POWER_ON_START (R184) with the levels of the straps ROLE1:0 and ADDR6:0. -/
  | powerOnStart (role : BitVec 2) (addr : BitVec 7)
  /-- PIN_RESET (R184) with the levels of the straps. -/
  | pinReset (role : BitVec 2) (addr : BitVec 7)
  /-- RESETN_LOW (R184). -/
  | resetnLow
  /-- PROFILE_READ_END (R186) with the bytes of the CFG memory from address 0. -/
  | profileReadEnd (image : List Byte)
  /-- LISTEN_PERIOD_END (R196). -/
  | listenPeriodEnd
  /-- TAKT_EDGE (R3). -/
  | taktEdge
  /-- KEEPALIVE_TIMER_EXPIRY (R4). -/
  | keepaliveTimerExpiry
  /-- UNIT (R9). -/
  | unit (src : Byte) (payload : List Byte)
  /-- SILENCE_TIMER_EXPIRY (R14). -/
  | silenceTimerExpiry
  /-- FEED_EVENT (R26). -/
  | feedEvent (lane : LaneIx)
  /-- EMPTY_EVENT (R28). -/
  | emptyEvent (lane : LaneIx)
  /-- RESERVE_EVENT (R30). -/
  | reserveEvent (lane : LaneIx)
  /-- SENSOR_FALLING_CHANGE (R25). -/
  | sensorFallingChange (lane : LaneIx) (sensor : Sensor)
  /-- RUN_NOTICE (R58). -/
  | runNotice (src : Byte) (payload : List Byte)
  /-- RUN_AGEING_EXPIRY (R65) of the record of this run. -/
  | runAgeingExpiry (run : RunId)
  /-- MANIFEST_PART (R66). -/
  | manifestPart (src : Byte) (payload : List Byte)
  /-- MANIFEST_WAIT_EXPIRY (R70) of the record of this run. -/
  | manifestWaitExpiry (run : RunId)
  /-- CLAIMSET (R83). -/
  | claimset (src : Byte) (payload : List Byte)
  /-- BOOK_OPERATION_COMPLETION (R81). -/
  | bookOperationCompletion
  /-- PEER_ENTRY_AGEING_EXPIRY (R86) of the peer entry of this station and lane. -/
  | peerEntryAgeingExpiry (station : Nat) (lane : LaneIx)
  /-- REFRESH_TIMER_EXPIRY (R95). -/
  | refreshTimerExpiry
  /-- ARRIVE (R128). -/
  | arrive (src : Byte) (payload : List Byte)
  /-- DEPART (R134). -/
  | depart (src : Byte) (payload : List Byte)
  /-- RECEIPT (R141). -/
  | receipt (src : Byte) (payload : List Byte)
  /-- RECEIPT_TIMER_EXPIRY (R144) of the stop log entry at this place, 0 being the oldest. -/
  | receiptTimerExpiry (index : Fin 16)
  /-- LOAD_PRESS (R105). -/
  | loadPress
  /-- GO_PRESS (R103). -/
  | goPress
  /-- HOLD_PRESS (R113). -/
  | holdPress
  /-- ARRIVAL_STROBE (R108). -/
  | arrivalStrobe
  /-- TRAIN_REFRESH_EXPIRY (R122). -/
  | trainRefreshExpiry
  /-- ACK (R161). -/
  | ack
  /-- PRESENCE_RISE (R153) of the presence input of this bank. -/
  | presenceRise (bank : Bank)
  /-- PRESENCE_FALL (R153) of the presence input of this bank. -/
  | presenceFall (bank : Bank)
  /-- LAMP_FRAME (R146). -/
  | lampFrame
  /-- DISPLAY_FRAME (R156). -/
  | displayFrame
  /-- FRAME_COMPLETE (R171) with the received bytes after SYNC: LEN, KIND, SRC, payload and the two CRC bytes. -/
  | frameComplete (bytes : List Byte)
  /-- LENGTH_ABANDON (R169) with the LEN byte received. -/
  | lengthAbandon (len : Byte)
  /-- BYTE_GAP_TIMEOUT (R169). -/
  | byteGapTimeout
  /-- LOW_STOP_BIT (R169). -/
  | lowStopBit
  /-- QUERY (R197). -/
  | query (src : Byte) (payload : List Byte)
  /-- CARRIER_RISE (R179). -/
  | carrierRise
  /-- CARRIER_FALL (R179). -/
  | carrierFall
  /-- SEND_START (R179). -/
  | sendStart
  /-- SEND_END (R181). -/
  | sendEnd
  /-- TIMER_UNIT (R118). -/
  | timerUnit
  /-- SYNC_BYTE (R168). -/
  | syncByte
  /-- INPUT_SAMPLE (R2). -/
  | inputSample (pins : Pins)
deriving DecidableEq, Repr

end Sys2Proof
end

