-- ==== Sys2Proof/Decode.lean ====
section
/-! DEFINITION. The commands that a word of spec/opcode_table.json spells. -/

namespace Sys2Proof

/-- No row of the table has bits: every row is an operation or an event of a pin, a timer or the channel, so no word
spells a command (notes/assumptions/2.md). -/
def decodeTableWord (_nbits _w : Nat) : Option Instr := none

end Sys2Proof
end

