-- ==== Sys2Proof/Config.lean ====
section
/-! DEFINITION. The free values: what the manual leaves without a value. None has a body, so no proof can
see what it is. -/

namespace Sys2Proof

/-- The sequence of free values: the value the machine takes at an event for which the manual states no value,
applied to `State.free`, which each use advances (notes/assumptions/4.md). -/
opaque Config.freeValue : Nat → BitVec 32

/-- The bytes of REPORT page 1 of a TRAIN that stand for the state, the REVISIT mark and the served flags of a run
slot that is empty: R201 gives only the run id and the present stop there. The first argument is `State.free` when the
page is built, the second the place of the byte in the page (notes/assumptions/5.md). -/
opaque Config.emptySlotByte : Nat → Nat → Byte

end Sys2Proof
end

