-- ==== Sys2Proof/Machine/State.lean ====
section
/-! DEFINITION. The state of an SP316 as plain data, every piece of it named by the manual, block by block
(Section 0.3), and its value right after reset. The fields that are the model's own say so. -/

namespace Sys2Proof.Machine

/-! ## Names -/

/-- The role read from the straps (R185): `unknown` is the strap value 11, which names no role. -/
inductive Role where
  | rack
  | train
  | pacer
  | unknown
deriving DecidableEq, Repr

/-- The start states (Section 10.1). CHECK is entered and left within PROFILE_READ_END. -/
inductive StartState where
  | load
  | check
  | listen
  | active
  | fault
deriving DecidableEq, Repr

/-- The two causes of a start (R184). -/
inductive StartCause where
  | powerOn
  | pin
deriving DecidableEq, Repr

/-- The fault causes (R185 to R189). -/
inductive FaultCause where
  | noFault
  | badStraps
  | noProfile
  | badCheck
  | roleMismatch
deriving DecidableEq, Repr

/-- The clock states of the follower side (Section 1.4). -/
inductive ClockState where
  | unsynced
  | tracking
  | stale
deriving DecidableEq, Repr

/-- The pacer states (Section 1.3). -/
inductive PacerState where
  | listen
  | active
  | standby
deriving DecidableEq, Repr

/-- The six call states of a lane (Section 5.6). -/
inductive CallState where
  | quiet
  | calling
  | waiting
  | admitted
  | manifested
  | due
deriving DecidableEq, Repr

/-- The states of a run (R99). CLOSED is never held: it exists in notices alone. -/
inductive RunState where
  | planning
  | loading
  | enroute
  | atstop
  | held
  | detour
deriving DecidableEq, Repr

/-- The lamp patterns (R147). -/
inductive Pattern where
  | off
  | steady
  | slow
  | fast
deriving DecidableEq, Repr

/-- The nine frame kinds (R167). -/
inductive FrameKind where
  | unit
  | run
  | claimset
  | manifest
  | arrive
  | depart
  | receipt
  | query
  | report
deriving DecidableEq, Repr

/-- The status of a manifest entry (R117). -/
inductive EntryStatus where
  | pending
  | done
  | short
deriving DecidableEq, Repr

/-- The kind of a stop log entry (R124). -/
inductive VisitKind where
  | first
  | revisit
  | detour
deriving DecidableEq, Repr

/-- The notice kinds, highest priority first (R159). -/
inductive NoticeKind where
  | short
  | missing
  | late
  | offroute
  | refused
  | overflow
deriving DecidableEq, Repr

/-- A timer that can stand expired: the manifest wait (R61) and the receipt timer (R124). A running timer holds the
station clock value at which it expires. -/
inductive Timer where
  | stopped
  | running (deadline : Nat)
  | expired
deriving DecidableEq, Repr

/-- The receive side: hunting, or in a frame (R168). -/
inductive RxState where
  | hunting
  | inFrame
deriving DecidableEq, Repr

/-! ## Sampled inputs -/

/-- A sampled input: the last sample since the entry into LISTEN and the accepted level, each absent until there is
one (R2, R23, R102, R153). -/
structure Debounce (α : Type) where
  last : Option α
  acc : Option α
deriving DecidableEq, Repr

/-- An input that has not been sampled since the start. -/
def Debounce.unset {α : Type} : Debounce α := ⟨none, none⟩

/-- A sensor input of a lane: its debounce state and its change latch (R23, R24). -/
structure SensorIn where
  level : Debounce Bool
  latch : Bool
deriving DecidableEq, Repr

/-! ## The profile -/

/-- The four cart class capacities of a run, 0..63 slot units each. -/
structure Caps where
  c0 : Nat
  c1 : Nat
  c2 : Nat
  c3 : Nat
deriving DecidableEq, Repr

/-- A route stop with its travel time T_s (R101). -/
structure RouteStop where
  stop : Nat
  time : Nat
deriving DecidableEq, Repr

/-- The settings of the common block and of the role block, as clamped (Section 10.3). The lane records of the RACK
block stand in the lanes. -/
structure Profile where
  /-- Bit-rate divisor D. -/
  d : Nat
  /-- Quiet gap G in byte times. -/
  gap : Nat
  tRefresh : Nat
  tSilence : Nat
  /-- Line position P (RACK). -/
  p : Nat
  stopA : Nat
  stopB : Nat
  /-- Trigger source of bank A is LOCAL (R190). -/
  localA : Bool
  localB : Bool
  caps : Caps
  loadTime : Nat
  tReturn : Nat
  tReceipt : Nat
  /-- The route built from the TRAIN block (R101). -/
  route : List RouteStop
  taktNom : Nat
  taktMin : Nat
  taktMax : Nat
  tKeep : Nat
deriving DecidableEq, Repr

/-- No profile applied. -/
def Profile.blank : Profile :=
  { d := 0, gap := 0, tRefresh := 0, tSilence := 0, p := 0, stopA := 0, stopB := 0, localA := false, localB := false,
    caps := ⟨0, 0, 0, 0⟩, loadTime := 0, tReturn := 0, tReceipt := 0, route := [], taktNom := 0, taktMin := 0,
    taktMax := 0, tKeep := 0 }

/-- The profile part of a lane record (R20). -/
structure LaneCfg where
  /-- Parts per bin Q. -/
  q : Nat
  binsMax : Nat
  startBins : Nat
  cls : Nat
  /-- Slot units per bin. -/
  slot : Nat
  horizon : Nat
  safety : Nat
  /-- Default usage du. -/
  du : Nat
  /-- The usage table, entry v for variant v. -/
  usage : List Nat
deriving DecidableEq, Repr

/-- The profile part before a profile has been applied. -/
def LaneCfg.blank : LaneCfg :=
  { q := 0, binsMax := 0, startBins := 0, cls := 0, slot := 0, horizon := 0, safety := 0, du := 0, usage := [] }

/-! ## Lanes -/

/-- A forecast held by a lane: R, R_ref and BEYOND (R41). -/
structure Forecast where
  r : LineCount
  rref : LineCount
  beyond : Bool
deriving DecidableEq, Repr

/-- A lane record: its profile part and its runtime part (R20, R21), with the lamp driver's layers of its loading
face (Section 8.3) and its three sensor inputs. -/
structure LaneRec where
  cfg : LaneCfg
  /-- Present (R19): the presence mark of the retained area (R38). -/
  present : Bool
  /-- Bins present B. -/
  b : Nat
  /-- Estimated parts S. -/
  s : Nat
  uncounted : Bool
  starved : Bool
  drift : Int
  shortfall : Nat
  surplus : Nat
  shortBins : Nat
  call : CallState
  /-- Claim run id, in WAITING and ADMITTED. -/
  claimRun : Option RunId
  /-- The run of a MANIFESTED or DUE lane. -/
  onRun : Option RunId
  requested : Nat
  delivered : Nat
  /-- Short record: run id and outstanding bins (R136). -/
  short : Option (RunId × Nat)
  late : Bool
  atRisk : Bool
  provisional : Bool
  forecast : Option Forecast
  /-- The call condition holds (R50). -/
  cond : Bool
  /-- The model's own: another block has moved the lane since the book operation in progress started (R81). -/
  moved : Bool
  overfill : Bool
  staged : Pattern
  fresh : Bool
  shown : Pattern
  feedIn : SensorIn
  emptyIn : SensorIn
  reserveIn : SensorIn
deriving DecidableEq, Repr

/-- A lane of a cleared retained area (R184), with every other field at its value after a start. -/
def LaneRec.cleared : LaneRec :=
  { cfg := .blank, present := false, b := 0, s := 0, uncounted := false, starved := false, drift := 0, shortfall := 0,
    surplus := 0, shortBins := 0, call := .quiet, claimRun := none, onRun := none, requested := 0, delivered := 0,
    short := none, late := false, atRisk := false, provisional := false, forecast := none, cond := false,
    moved := false, overfill := false, staged := .off, fresh := false, shown := .off, feedIn := ⟨.unset, false⟩,
    emptyIn := ⟨.unset, false⟩, reserveIn := ⟨.unset, false⟩ }

/-! ## Line clock -/

/-- The follower side and the sequence window (R15, R16). The window lists the entries c..N, `none` for UNKNOWN. -/
structure LineClock where
  /-- Followed pacer F. -/
  followed : Option Byte
  state : ClockState
  n : LineCount
  takt : Nat
  /-- Station clock value at which the silence timer expires, when it runs. -/
  silence : Option Nat
  window : List (Option Variant)
deriving DecidableEq, Repr

/-- The variant record of a pacer: units N_local − 3, N_local − 2, N_local − 1 and N_local (R3). -/
structure VariantRecord where
  v3 : Variant
  v2 : Variant
  v1 : Variant
  v0 : Variant
deriving DecidableEq, Repr

/-- The pacer side (R8) and the accepted levels of the LINE port (R2). -/
structure Pacer where
  state : PacerState
  nLocal : LineCount
  record : VariantRecord
  measured : Nat
  /-- Station clock value of the previous takt edge. -/
  prevEdge : Option Nat
  /-- Station clock value at which the keepalive timer expires, when it runs. -/
  keepalive : Option Nat
  variantIn : Debounce (BitVec 6)
  validIn : Debounce Bool
  taktIn : Debounce Bool
deriving DecidableEq, Repr

/-! ## Run list -/

/-- An own stop entry of a run record (R56). -/
structure StopEntry where
  eta : LineCount
  served : Bool
deriving DecidableEq, Repr

/-- A run record of the run list (R56). -/
structure RunRec where
  id : RunId
  state : RunState
  caps : Caps
  stopA : Option StopEntry
  stopB : Option StopEntry
  lastHeard : Nat
  /-- Manifest parts mask: bit i is part index i. -/
  mask : BitVec 4
  partCount : Option Nat
  wait : Timer
  settled : Bool
deriving DecidableEq, Repr

/-! ## Claim book -/

/-- A claim entry (R73). -/
structure Entry where
  run : RunId
  station : Nat
  lane : LaneIx
  stop : Nat
  cls : Nat
  size : Nat
  bins : Nat
  rref : LineCount
  late : Bool
  heard : Nat
  own : Bool
  admitted : Bool
deriving DecidableEq, Repr

/-- An item of a CLAIMSET frame (R83, R167), its class byte taken apart. -/
structure ClaimItem where
  run : RunId
  lane : Nat
  stop : Nat
  cls : Nat
  late : Bool
  size : Nat
  bins : Nat
  rref : LineCount
deriving DecidableEq, Repr

/-- A CLAIMSET frame that carries a book operation: its sender and its items. -/
structure ClaimSet where
  sender : Nat
  items : List ClaimItem
deriving DecidableEq, Repr

/-- What an operation reads of an own lane at its start (R79). -/
structure LaneRead where
  call : CallState
  cond : Bool
  rref : Option LineCount
  b : Nat
  need : Nat
deriving DecidableEq, Repr

/-- A book operation in progress: the inputs it read at its start and the book as it stood then (R79, R80). -/
structure BookOp where
  claimset : Option ClaimSet
  /-- The operation took up a refresh. -/
  refresh : Bool
  n : LineCount
  runs : List RunRec
  /-- The own PLANNING run (TRAIN). -/
  planning : Option RunId
  lanes : Vector LaneRead 16
  entries : List Entry
deriving DecidableEq, Repr

/-- The claim book (R77). -/
structure Book where
  entries : List Entry
  /-- The operation in progress: the book is busy when there is one (R78). -/
  op : Option BookOp
  pendingMark : Bool
  refreshDue : Bool
  /-- The capacity copies (R79). -/
  copies : List (RunId × Caps)
  /-- The record of the last claim set queued (R97), in lane order. -/
  lastSet : List ClaimItem
  /-- Station clock value at which the refresh timer expires, when it runs (R95). -/
  refresh : Option Nat
  /-- The model's own: a request has been made in the event being taken. Clear between commands. -/
  asked : Bool
  /-- The model's own: a refresh request has been made in the event being taken. Clear between commands. -/
  askedRefresh : Bool
deriving DecidableEq, Repr

/-! ## Delivery and loading face, per bank -/

/-- An item of a visit's item list (R126). -/
structure Item where
  lane : LaneIx
  requested : Nat
  delivered : Nat
deriving DecidableEq, Repr

/-- The visit record (R126) and the face of a bank (R152, R153). -/
structure BankRec where
  /-- OPEN for this run, or CLOSED. -/
  visit : Option RunId
  /-- The visit kind is REVISIT. -/
  revisit : Bool
  recordRun : Option RunId
  items : List Item
  lastDeparted : Option RunId
  /-- The face state is OPEN. -/
  faceOpen : Bool
  presence : Debounce Bool
deriving DecidableEq, Repr

/-- A bank after a start: CLOSED, with nothing recorded (R126, R154). -/
def BankRec.closed : BankRec :=
  { visit := none, revisit := false, recordRun := none, items := [], lastDeparted := none, faceOpen := false,
    presence := .unset }

/-! ## Run planner -/

/-- A run held in a slot of the run planner (R99). -/
structure Run where
  id : RunId
  state : RunState
  /-- Served flag of each route stop, in route order. -/
  served : List Bool
  present : Option Nat
  revisit : Bool
  loadMark : Nat
  holdStart : Option Nat
  /-- Station clock value at which the run was opened, read by the departure estimate (R119). -/
  opened : Nat
deriving DecidableEq, Repr

/-- A manifest entry (R117). -/
structure ManifestEntry where
  station : Nat
  lane : LaneIx
  stop : Nat
  cls : Nat
  size : Nat
  bins : Nat
  late : Bool
  delivered : Nat
  status : EntryStatus
deriving DecidableEq, Repr

/-- A stop log entry (R124). The expected and heard stations are lists without repeats, in ascending order. -/
structure LogEntry where
  runNumber : Byte
  stop : Nat
  kind : VisitKind
  departed : Option Nat
  expected : List Nat
  heard : List Nat
  timer : Timer
deriving DecidableEq, Repr

/-- The run planner (R99, R100) and its accepted inputs (R102). -/
structure Planner where
  current : Option Run
  planning : Option Run
  nextRun : Byte
  /-- Elapsed travel E. -/
  e : Nat
  closeTime : Option Nat
  manifest : List ManifestEntry
  /-- The stop log, oldest entry first. -/
  log : List LogEntry
  refresh : Option Nat
  stopIn : Debounce (BitVec 5)
  strobeIn : Debounce Bool
  loadIn : Debounce Bool
  goIn : Debounce Bool
  holdIn : Debounce Bool
  ackIn : Debounce Bool
deriving DecidableEq, Repr

/-- A run planner holding nothing but this next run number (R100). -/
def Planner.fresh (nextRun : Byte) : Planner :=
  { current := none, planning := none, nextRun, e := 0, closeTime := none, manifest := [], log := [], refresh := none,
    stopIn := .unset, strobeIn := .unset, loadIn := .unset, goIn := .unset, holdIn := .unset, ackIn := .unset }

/-! ## Lamps and panel -/

/-- A notice (R159). -/
structure Notice where
  kind : NoticeKind
  station : Nat
  lane : Nat
  count : Nat
  time : Nat
deriving DecidableEq, Repr

/-- The LAMP port and the driver panel: the blink phase of the next lamp frame (R147), the frame last moved to the
outputs of the lamp chain (R146) or of the display module (R156), the two display indices (R158) and the notice
list (R159). -/
structure Panel where
  phase : Nat
  chain : List Bool
  display : List Byte
  pick : Nat
  stopIx : Nat
  notices : List Notice
  lost : Nat
deriving DecidableEq, Repr

/-! ## Air port -/

/-- A checked frame of the receive queue (R173). -/
structure RxFrame where
  kind : FrameKind
  src : Byte
  payload : List Byte
deriving DecidableEq, Repr

/-- A frame of the transmit queue (R177). SRC, LEN and CRC are formed when it is sent (R181). -/
structure TxFrame where
  kind : FrameKind
  payload : List Byte
deriving DecidableEq, Repr

/-- The frame being sent: the bytes on TXD (R165), and the byte times left until KEY falls, the key-up lead
included (R181). -/
structure Sending where
  bytes : List Byte
  left : Nat
deriving DecidableEq, Repr

/-- The air port (Section 9). KEY is high while a frame is being sent. -/
structure Air where
  /-- Level of the CARRIER pin. -/
  carrier : Bool
  /-- Quiet time in byte times, when it runs (R179). -/
  quiet : Option Nat
  rx : RxState
  rxq : List RxFrame
  txq : List TxFrame
  /-- The backoff count of the head of the transmit queue (R178). -/
  backoff : Nat
  tx : Option Sending
  /-- The random register: bit k − 1 is stage k (R182). -/
  random : BitVec 16
  clash : Bool
deriving DecidableEq, Repr

/-! ## Counters and start-up -/

/-- The station counters (R15, R36, R57, R77, R183), 0..65535 each, all in the retained area. -/
structure Counters where
  resync : Nat
  gap : Nat
  conflict : Nat
  crc : Nat
  broken : Nat
  length : Nat
  source : Nat
  kind : Nat
  overrun : Nat
  txdrop : Nat
  clash : Nat
  bookfull : Nat
  rundrop : Nat
  double : Nat
  phantom : Nat
deriving DecidableEq, Repr

/-- Cleared counters. -/
def Counters.zero : Counters :=
  { resync := 0, gap := 0, conflict := 0, crc := 0, broken := 0, length := 0, source := 0, kind := 0, overrun := 0,
    txdrop := 0, clash := 0, bookfull := 0, rundrop := 0, double := 0, phantom := 0 }

/-- The start-up unit (Section 10.6) with the role and the address sampled from the straps (R185). -/
structure StartUnit where
  /-- RESETn is low. -/
  resetLow : Bool
  state : StartState
  cause : StartCause
  faultCause : FaultCause
  clamped : Nat
  /-- The station clock in timer units (Section 0.5). -/
  clock : Nat
  role : Role
  own : BitVec 7
  /-- Station clock value at which the listen period ends, in LISTEN (R195). -/
  listenEnd : Option Nat
deriving DecidableEq, Repr

/-! ## The state -/

/-- The state of one SP316. `pending` is the queue of waiting commands, first in, first out; `free` counts the free
values used so far (the model's own). -/
structure State where
  start : StartUnit
  prof : Profile
  cnt : Counters
  air : Air
  line : LineClock
  pacer : Pacer
  lanes : Vector LaneRec 16
  bankA : BankRec
  bankB : BankRec
  runs : List RunRec
  book : Book
  planner : Planner
  panel : Panel
  free : Nat
  pending : List Instr
deriving DecidableEq, Repr

/-- A command never faults: the manual describes no event that stops the station without an effect, so there is no
fault to name (safe: nothing is left out by it). -/
inductive Fault where
deriving DecidableEq, Repr

/-- Why a command has no meaning. -/
inductive Refusal where
  /-- Raised by `exec`'s arm of a command that has no meaning yet; no arm raises it (safe). -/
  | notModelled (mnemonic : String)
deriving DecidableEq, Repr

/-! ## The values after a start -/

/-- The follower side after a start (R15). -/
def LineClock.fresh : LineClock :=
  { followed := none, state := .unsynced, n := 0, takt := 0, silence := none, window := [] }

/-- The pacer side after a start that leaves this N_local (R8). -/
def Pacer.fresh (nLocal : LineCount) : Pacer :=
  { state := .listen, nLocal, record := ⟨63, 63, 63, 63⟩, measured := 0, prevEdge := none, keepalive := none,
    variantIn := .unset, validIn := .unset, taktIn := .unset }

/-- The claim book after a start (R77). -/
def Book.fresh : Book :=
  { entries := [], op := none, pendingMark := false, refreshDue := false, copies := [], lastSet := [], refresh := none,
    asked := false, askedRefresh := false }

/-- A blank display: 40 spaces (R156). -/
def blankDisplay : List Byte := List.replicate 40 0x20

/-- The LAMP port and panel after a start (R154, R162): the display is blank, and the lamp chain keeps the frame at its
outputs until the next one (notes/assumptions/22.md). -/
def Panel.fresh (chain : List Bool) : Panel :=
  { phase := 0, chain, display := blankDisplay, pick := 1, stopIx := 1, notices := [], lost := 0 }

/-- The air port after a start (R183): `carrier` is the level of the pin, `own` the sampled address. -/
def Air.fresh (carrier : Bool) (own : BitVec 7) : Air :=
  { carrier, quiet := none, rx := .hunting, rxq := [], txq := [], backoff := 0, tx := none,
    random := own.setWidth 16 * 257, clash := false }

/-- The machine right after reset: the supply has risen, RESETn is still low, the retained area is cleared and every
block stands at its power-on values. The start itself begins with POWER_ON_START or PIN_RESET, which sample the
straps (R184, R185; notes/assumptions/1.md). -/
def State.reset : State :=
  { start := { resetLow := true, state := .load, cause := .powerOn, faultCause := .noFault, clamped := 0, clock := 0,
               role := .unknown, own := 0, listenEnd := none }
    prof := .blank
    cnt := .zero
    air := .fresh false 0
    line := .fresh
    pacer := .fresh 0
    lanes := Vector.replicate 16 .cleared
    bankA := .closed
    bankB := .closed
    runs := []
    book := .fresh
    planner := .fresh 0
    panel := .fresh []
    free := 0
    pending := [] }

end Sys2Proof.Machine
end

