-- ==== Sys2Proof/Machine/Ops.lean ====
section
/-! DEFINITION. The named operations that every block uses: line-count arithmetic, counters and timers, debounce,
lanes, banks, requests to the claim book and free values. -/

namespace Sys2Proof.Machine

/-! ## Line counts (R1) -/

/-- The offset of `x` from `n`: (x − n) mod 65536 read as a signed number (R1). -/
def offset (n x : LineCount) : Int := (x - n).toInt

/-- `a` is before `b`: (b − a) mod 65536 lies in 1..32767 (R1). -/
def before (a b : LineCount) : Bool := decide (1 ≤ (b - a).toNat ∧ (b - a).toNat ≤ 32767)

/-- `a` is after `b` when `b` is before `a` (R1). -/
def after (a b : LineCount) : Bool := before b a

/-! ## Counters and limits -/

/-- A 16-bit counter saturates at 65535 (Section 0.5). -/
def sat16 (n : Nat) : Nat := min n 65535

/-- A 16-bit counter rises by one (Section 0.5). -/
def bump16 (n : Nat) : Nat := sat16 (n + 1)

/-- Drift is held to −32767..32767 (R35). -/
def clampDrift (d : Int) : Int := max (-32767) (min 32767 d)

/-- The byte of a word's low half. -/
def loByte (w : BitVec 16) : Byte := w.setWidth 8

/-- The byte of a word's high half. -/
def hiByte (w : BitVec 16) : Byte := (w >>> 8).setWidth 8

/-- A little-endian pair of bytes (Section 0.5, byte order). -/
def word (lo hi : Byte) : BitVec 16 := hi ++ lo

/-- The bits of a byte given most significant bit first (R156, R186). -/
def msbFirst (x : Byte) : List Bool := (List.range 8).map fun i => x.getMsbD i

/-- The capacity of a cart class. -/
def Caps.get (c : Caps) : Nat → Nat
  | 0 => c.c0
  | 1 => c.c1
  | 2 => c.c2
  | 3 => c.c3
  | _ => 0

/-- Each capacity above 63 is taken as 63 (R58). -/
def Caps.clamp (c : Caps) : Caps := ⟨min c.c0 63, min c.c1 63, min c.c2 63, min c.c3 63⟩

/-- The first element that passes the test is replaced. -/
def replaceFirst {α : Type} (p : α → Bool) (x : α) : List α → List α
  | [] => []
  | y :: ys => if p y then x :: ys else y :: replaceFirst p x ys

/-! ## Sampled inputs (R2, R23, R102, R153) -/

/-- One sample: the accepted level takes a value that two successive samples agree on. The second component is set
when that changes an accepted level that was already there; the first two equal samples set it without a change. -/
def Debounce.sample {α : Type} [DecidableEq α] (d : Debounce α) (x : α) : Debounce α × Bool :=
  if d.last = some x then (⟨some x, some x⟩, d.acc.isSome && d.acc != some x) else (⟨some x, d.acc⟩, false)

/-- The input after an accepted change to `x` that a command brings by itself: the last two samples read `x`. -/
def Debounce.accept {α : Type} (x : α) : Debounce α := ⟨some x, some x⟩

/-! ## Start state and timers -/

/-- The role's blocks work: LISTEN or ACTIVE with RESETn high (Section 10.1, R184). -/
def State.working (s : State) : Bool :=
  !s.start.resetLow && (s.start.state == .listen || s.start.state == .active)

/-- The role's blocks work in this role. -/
def State.worksAs (s : State) (r : Role) : Bool := s.working && s.start.role == r

/-- A start state in which frames other than REPORT are accepted for sending (R176). -/
def State.isActive (s : State) : Bool := s.start.state == .active

/-- The line clock has left UNSYNCED. -/
def State.synced (s : State) : Bool := s.line.state != .unsynced

/-- The station clock value at which a timer started now with this duration expires. -/
def State.deadline (s : State) (duration : Nat) : Nat := s.start.clock + duration

/-- A running timer has run its length: only then has it an expiry to take (notes/assumptions/7.md). -/
def State.due (s : State) (t : Option Nat) : Bool :=
  match t with
  | some d => decide (d ≤ s.start.clock)
  | none => false

/-- The own address as a number. -/
def State.own (s : State) : Nat := s.start.own.toNat

/-- The own address as the SRC byte of a frame. -/
def State.ownByte (s : State) : Byte := s.start.own.setWidth 8

/-- The next unused free value, and the state that has used it (notes/assumptions/4.md). -/
def State.takeFree (s : State) : BitVec 32 × State := (Config.freeValue s.free, { s with free := s.free + 1 })

/-! ## Lanes and banks -/

/-- All lanes, in ascending order. -/
def allLanes : List LaneIx := List.finRange 16

/-- The record of a lane. -/
def State.lane (s : State) (l : LaneIx) : LaneRec := s.lanes[l]

/-- The record of a lane is replaced. -/
def State.setLane (s : State) (l : LaneIx) (r : LaneRec) : State := { s with lanes := s.lanes.set l r }

/-- The record of a lane is changed. -/
def State.modLane (s : State) (l : LaneIx) (f : LaneRec → LaneRec) : State := s.setLane l (f (s.lane l))

/-- Every lane's record is changed. -/
def State.mapLanes (s : State) (f : LaneIx → LaneRec → LaneRec) : State :=
  { s with lanes := Vector.ofFn fun l => f l s.lanes[l] }

/-- The bank of a lane: bank A is lanes 0..7 and bank B lanes 8..15 (Section 0.5). -/
def bankOf (l : LaneIx) : Bank := if l.val < 8 then .a else .b

/-- The lanes of a bank, in ascending order. -/
def bankLanes (k : Bank) : List LaneIx := allLanes.filter fun l => bankOf l == k

/-- The record of a bank. -/
def State.bank (s : State) : Bank → BankRec
  | .a => s.bankA
  | .b => s.bankB

/-- The record of a bank is replaced. -/
def State.setBank (s : State) (k : Bank) (r : BankRec) : State :=
  match k with
  | .a => { s with bankA := r }
  | .b => { s with bankB := r }

/-- The record of a bank is changed. -/
def State.modBank (s : State) (k : Bank) (f : BankRec → BankRec) : State := s.setBank k (f (s.bank k))

/-- The stop id of a bank, 0 for none. -/
def Profile.stopOf (p : Profile) : Bank → Nat
  | .a => p.stopA
  | .b => p.stopB

/-- The trigger source of a bank is LOCAL (R153, R190). -/
def Profile.isLocal (p : Profile) : Bank → Bool
  | .a => p.localA
  | .b => p.localB

/-- The own stop entry of a run record for a bank (R56). -/
def RunRec.stopOf (r : RunRec) : Bank → Option StopEntry
  | .a => r.stopA
  | .b => r.stopB

/-- The banks whose stop id is this one, bank A first (R127, R137). -/
def State.banksAt (s : State) (stop : Nat) : List Bank := [Bank.a, Bank.b].filter fun k => s.prof.stopOf k == stop

/-- The lane has a claim: WAITING or ADMITTED. -/
def CallState.claims (c : CallState) : Bool := c == .waiting || c == .admitted

/-- The lane is promised a delivery: MANIFESTED or DUE. -/
def CallState.promised (c : CallState) : Bool := c == .manifested || c == .due

/-- Two 8-bit halves: the train address of a run id. -/
def trainOf (r : RunId) : Byte := hiByte r

/-! ## Requests to the claim book (R78) -/

/-- A request for a book operation is made in the event being taken (R51, R72, R82, R86). -/
def State.ask (s : State) : State := { s with book.asked := true }

/-- A refresh request is made in the event being taken (R95). -/
def State.askRefresh (s : State) : State := { s with book.askedRefresh := true }

/-- The own entry of a lane leaves the claim book in the event of another block (R82). -/
def State.dropOwnEntry (s : State) (l : LaneIx) : State :=
  { s with book.entries := s.book.entries.filter fun e => !(e.own && e.lane == l) }

/-- The run record of this id, if the run list holds one. -/
def State.runRec (s : State) (r : RunId) : Option RunRec := s.runs.find? fun x => x.id == r

/-- The run record of this id is changed. -/
def State.modRun (s : State) (r : RunId) (f : RunRec → RunRec) : State :=
  { s with runs := s.runs.map fun x => if x.id = r then f x else x }

end Sys2Proof.Machine
end

