-- ==== Sys2Proof/Machine/Operands.lean ====
section
/-! DEFINITION. The frames of the aisle channel as the commands carry them: kinds, CRC, shape test, the reading of
every payload and the writing of every payload (Section 9.2). -/

namespace Sys2Proof.Machine

/-! ## Kinds and frames on the channel -/

/-- The code of a frame kind (R167). -/
def FrameKind.code : FrameKind → Byte
  | .unit => 0x21
  | .run => 0x22
  | .claimset => 0x23
  | .manifest => 0x24
  | .arrive => 0x25
  | .depart => 0x26
  | .receipt => 0x27
  | .query => 0x2E
  | .report => 0x2F

/-- The nine frame kinds. -/
def allKinds : List FrameKind :=
  [.unit, .run, .claimset, .manifest, .arrive, .depart, .receipt, .query, .report]

/-- The kind with this code, if it is one of the nine (R171). -/
def kindOfCode (c : Byte) : Option FrameKind := allKinds.find? fun k => k.code == c

/-- One shift of the check register (R166). -/
def crcShift (c : BitVec 16) : BitVec 16 := if c.msb then (c <<< 1) ^^^ 0x1021 else c <<< 1

/-- One byte taken into the check register: exclusive-or into the upper eight bits, then eight shifts (R166). -/
def crcByte (c : BitVec 16) (x : Byte) : BitVec 16 :=
  Nat.repeat crcShift 8 (c ^^^ (x.setWidth 16 <<< 8))

/-- The frame CRC over these bytes: the register begins at 0xFFFF (R166). -/
def crc (bytes : List Byte) : BitVec 16 := bytes.foldl crcByte 0xFFFF

/-- The bytes of a frame on the channel, SYNC first (R165): SRC is the own address, LEN counts the bytes from KIND
through the payload, and the CRC over LEN to the payload is sent low byte first (R166). -/
def wireBytes (own : Byte) (f : TxFrame) : List Byte :=
  let body := BitVec.ofNat 8 (f.payload.length + 2) :: f.kind.code :: own :: f.payload
  0xB5 :: body ++ [loByte (crc body), hiByte (crc body)]

/-- The shape test (R170), with LEN the payload's length plus 2. -/
def shapeFits (k : FrameKind) (payload : List Byte) : Bool :=
  let len := payload.length + 2
  match k with
  | .unit => len == 10
  | .run => len == 10 + 3 * (payload.getD 7 0).toNat
  | .claimset => decide (3 ≤ len)
  | .manifest =>
    let count := (payload.getD 2 0).toNat % 16
    let e := (payload.getD 3 0).toNat
    decide (1 ≤ count ∧ count ≤ 4 ∧ e ≤ 8) && len == 6 + 4 * e
  | .arrive => len == 6
  | .depart => len == 5
  | .receipt => decide (6 ≤ len)
  | .query => len == 4
  | .report => decide (5 ≤ len ∧ len ≤ 101)

/-- The replacement key of a frame (R177): its kind with the payload bytes that the key names. -/
def TxFrame.key (f : TxFrame) : FrameKind × List Byte :=
  (f.kind,
    match f.kind with
    | .unit | .claimset | .query => []
    | .run | .report => f.payload.take 2
    | .manifest => f.payload.take 2 ++ [f.payload.getD 2 0 >>> 4]
    | .arrive | .depart | .receipt => f.payload.take 3)

/-- The backoff window W of a frame kind (R178). -/
def FrameKind.window : FrameKind → Nat
  | .unit => 2
  | .arrive | .depart => 4
  | .run | .manifest | .receipt => 8
  | .claimset | .report | .query => 16

/-! ## Payloads read -/

/-- A UNIT notice: N, the takt period and the four variant bytes, oldest first (R167). -/
structure UnitNotice where
  n : LineCount
  takt : BitVec 16
  v3 : Byte
  v2 : Byte
  v1 : Byte
  v0 : Byte
deriving DecidableEq, Repr

/-- The payload of a UNIT frame read (R167). -/
def readUnit : List Byte → Option UnitNotice
  | [n0, n1, t0, t1, a3, a2, a1, a0] => some ⟨word n0 n1, word t0 t1, a3, a2, a1, a0⟩
  | _ => none

/-- A stop item of a RUN notice: stop id, served flag and ETA_LC (R167). -/
structure StopItem where
  stop : Nat
  served : Bool
  eta : LineCount
deriving DecidableEq, Repr

/-- The state field of a RUN notice: a held state, or CLOSED (R167). -/
inductive NoticeState where
  | heldAs (st : RunState)
  | closed
deriving DecidableEq, Repr

/-- The state named by a state code (R167): 7..255 name none. -/
def noticeState : Nat → Option NoticeState
  | 0 => some (.heldAs .planning)
  | 1 => some (.heldAs .loading)
  | 2 => some (.heldAs .enroute)
  | 3 => some (.heldAs .atstop)
  | 4 => some (.heldAs .held)
  | 5 => some (.heldAs .detour)
  | 6 => some .closed
  | _ => none

/-- The code of a run state (R167). -/
def RunState.code : RunState → Nat
  | .planning => 0
  | .loading => 1
  | .enroute => 2
  | .atstop => 3
  | .held => 4
  | .detour => 5

/-- The code of a notice's state (R167). -/
def NoticeState.code : NoticeState → Nat
  | .heldAs st => st.code
  | .closed => 6

/-- A RUN notice (R167). -/
structure RunNotice where
  id : RunId
  state : NoticeState
  caps : Caps
  stops : List StopItem
deriving DecidableEq, Repr

/-- Bit 7 of a byte is a flag taken apart from bits 0..6 (R167: stop byte, class byte). -/
def flag7 (x : Byte) : Bool := x.msb

/-- Bits 0..6 of a byte. -/
def low7 (x : Byte) : Nat := x.toNat % 128

/-- The stop items of a RUN payload: three bytes each. -/
def readStops : List Byte → List StopItem
  | sb :: e0 :: e1 :: rest => ⟨low7 sb, flag7 sb, word e0 e1⟩ :: readStops rest
  | _ => []

/-- The payload of a RUN frame read (R58, R167); none when the state code names no state. -/
def readRun : List Byte → Option RunNotice
  | r0 :: r1 :: st :: c0 :: c1 :: c2 :: c3 :: _ :: stops =>
    (noticeState st.toNat).map fun ns =>
      ⟨word r0 r1, ns, ⟨c0.toNat, c1.toNat, c2.toNat, c3.toNat⟩, readStops stops⟩
  | _ => none

/-- The items of a CLAIMSET payload: nine bytes each. -/
def readClaims : List Byte → List ClaimItem
  | r0 :: r1 :: lane :: stop :: cls :: size :: bins :: f0 :: f1 :: rest =>
    ⟨word r0 r1, lane.toNat, stop.toNat, low7 cls, flag7 cls, size.toNat, bins.toNat, word f0 f1⟩ :: readClaims rest
  | _ => []

/-- The payload of a CLAIMSET frame read (R83): none when the item count exceeds 16 or the length does not match it. -/
def readClaimset (src : Byte) : List Byte → Option ClaimSet
  | m :: rest =>
    if m.toNat ≤ 16 ∧ rest.length = 9 * m.toNat then some ⟨src.toNat, readClaims rest⟩ else none
  | [] => none

/-- An entry of a MANIFEST part (R167). -/
structure PartEntry where
  station : Nat
  lane : Nat
  stop : Nat
  bins : Nat
deriving DecidableEq, Repr

/-- A MANIFEST part (R167). -/
structure ManifestPart where
  id : RunId
  index : Nat
  count : Nat
  entries : List PartEntry
deriving DecidableEq, Repr

/-- The entries of a MANIFEST payload: four bytes each. -/
def readPartEntries : List Byte → List PartEntry
  | st :: lane :: stop :: bins :: rest => ⟨st.toNat, lane.toNat, stop.toNat, bins.toNat⟩ :: readPartEntries rest
  | _ => []

/-- The payload of a MANIFEST frame read (R167). -/
def readPart : List Byte → Option ManifestPart
  | r0 :: r1 :: ic :: _ :: rest => some ⟨word r0 r1, ic.toNat / 16, ic.toNat % 16, readPartEntries rest⟩
  | _ => none

/-- An ARRIVE (R167): run id, stop id, DETOUR and REVISIT; bits 2..7 of the flags are ignored. -/
structure Arrival where
  id : RunId
  stop : Nat
  detour : Bool
  revisit : Bool
deriving DecidableEq, Repr

/-- The payload of an ARRIVE frame read (R167). -/
def readArrive : List Byte → Option Arrival
  | [r0, r1, stop, flags] => some ⟨word r0 r1, stop.toNat, flags.getLsbD 0, flags.getLsbD 1⟩
  | _ => none

/-- A DEPART (R167). -/
structure Departure where
  id : RunId
  stop : Nat
deriving DecidableEq, Repr

/-- The payload of a DEPART frame read (R167). -/
def readDepart : List Byte → Option Departure
  | [r0, r1, stop] => some ⟨word r0 r1, stop.toNat⟩
  | _ => none

/-- An item of a RECEIPT (R167). -/
structure ReceiptItem where
  lane : Nat
  delivered : Nat
  requested : Nat
deriving DecidableEq, Repr

/-- A RECEIPT (R167). -/
structure Receipt where
  id : RunId
  stop : Nat
  items : List ReceiptItem
deriving DecidableEq, Repr

/-- The items of a RECEIPT payload: three bytes each. -/
def readReceiptItems : List Byte → List ReceiptItem
  | lane :: d :: q :: rest => ⟨lane.toNat, d.toNat, q.toNat⟩ :: readReceiptItems rest
  | _ => []

/-- The payload of a RECEIPT frame read (R141): none when the item count exceeds 8 or the length does not match it. -/
def readReceipt : List Byte → Option Receipt
  | r0 :: r1 :: stop :: m :: rest =>
    if m.toNat ≤ 8 ∧ rest.length = 3 * m.toNat then some ⟨word r0 r1, stop.toNat, readReceiptItems rest⟩ else none
  | _ => none

/-! ## Payloads written -/

/-- A number as one byte. -/
def byte (n : Nat) : Byte := BitVec.ofNat 8 n

/-- A 16-bit word, low byte first. -/
def bytes2 (w : BitVec 16) : List Byte := [loByte w, hiByte w]

/-- A number in two bytes, low byte first. -/
def le2 (n : Nat) : List Byte := bytes2 (BitVec.ofNat 16 n)

/-- A flag as one byte. -/
def boolByte (x : Bool) : Byte := if x then 1 else 0

/-- A number in bits 0..6 with a flag in bit 7. -/
def withFlag7 (n : Nat) (x : Bool) : Byte := byte (n % 128 + if x then 128 else 0)

/-- Flags one bit each from bit 0, in the fewest whole bytes (R198); the bits above the last flag are 0
(notes/assumptions/19.md). -/
def packFlags : List Bool → List Byte
  | a0 :: a1 :: a2 :: a3 :: a4 :: a5 :: a6 :: a7 :: rest =>
    BitVec.ofBoolListLE [a0, a1, a2, a3, a4, a5, a6, a7] :: packFlags rest
  | [] => []
  | xs => [(BitVec.ofBoolListLE xs).setWidth 8]

/-- The payload of a UNIT frame (R4, R167). -/
def writeUnit (u : UnitNotice) : List Byte := bytes2 u.n ++ bytes2 u.takt ++ [u.v3, u.v2, u.v1, u.v0]

/-- A stop item of a RUN frame (R167). -/
def writeStop (i : StopItem) : List Byte := withFlag7 i.stop i.served :: bytes2 i.eta

/-- The payload of a RUN frame (R121, R167). -/
def writeRun (r : RunNotice) : List Byte :=
  bytes2 r.id ++ [byte r.state.code, byte r.caps.c0, byte r.caps.c1, byte r.caps.c2, byte r.caps.c3,
    byte r.stops.length] ++ r.stops.flatMap writeStop

/-- An item of a CLAIMSET frame (R167). -/
def writeClaim (c : ClaimItem) : List Byte :=
  bytes2 c.run ++ [byte c.lane, byte c.stop, withFlag7 c.cls c.late, byte c.size, byte c.bins] ++ bytes2 c.rref

/-- The payload of a CLAIMSET frame (R97, R167). -/
def writeClaimset (items : List ClaimItem) : List Byte := byte items.length :: items.flatMap writeClaim

/-- An entry of a MANIFEST frame (R123, R167). -/
def writePartEntry (e : PartEntry) : List Byte := [byte e.station, byte e.lane, byte e.stop, byte e.bins]

/-- The payload of a MANIFEST frame (R123, R167): the index in bits 4..7, the count in bits 0..3. -/
def writePart (p : ManifestPart) : List Byte :=
  bytes2 p.id ++ [byte (p.index * 16 + p.count), byte p.entries.length] ++ p.entries.flatMap writePartEntry

/-- The payload of an ARRIVE frame (R167). -/
def writeArrive (a : Arrival) : List Byte :=
  bytes2 a.id ++ [byte a.stop, byte ((if a.detour then 1 else 0) + if a.revisit then 2 else 0)]

/-- The payload of a DEPART frame (R167). -/
def writeDepart (d : Departure) : List Byte := bytes2 d.id ++ [byte d.stop]

/-- An item of a RECEIPT frame (R167). -/
def writeReceiptItem (i : ReceiptItem) : List Byte := [byte i.lane, byte i.delivered, byte i.requested]

/-- The payload of a RECEIPT frame (R137, R167). -/
def writeReceipt (r : Receipt) : List Byte :=
  bytes2 r.id ++ [byte r.stop, byte r.items.length] ++ r.items.flatMap writeReceiptItem

end Sys2Proof.Machine
end

