-- ==== Sys2Proof/Machine/Air.lean ====
section
/-! DEFINITION. The air port (Section 9): the random register, the transmit queue with its replacement keys and
backoff counts, channel access, the transmitter and the receive side up to the receive queue. -/

namespace Sys2Proof.Machine

/-! ## Operation by start state -/

/-- The air port works in this start state with this fault cause (R164). -/
def portWorksIn : StartState → FaultCause → Bool
  | .listen, _ | .active, _ => true
  | .fault, .roleMismatch | .fault, .noProfile | .fault, .badCheck => true
  | _, _ => false

/-- The air port works (R164); with RESETn low the station does nothing (R184). -/
def State.portWorks (s : State) : Bool := !s.start.resetLow && portWorksIn s.start.state s.start.faultCause

/-- The air port is on the fallback settings: FAULT with NO-PROFILE or BAD-CHECK (R164). -/
def State.onFallback (s : State) : Bool :=
  s.start.state == .fault && (s.start.faultCause == .noProfile || s.start.faultCause == .badCheck)

/-- The quiet gap G in use, in byte times (R164). -/
def State.gap (s : State) : Nat := if s.onFallback then 4 else s.prof.gap

/-- The bit-rate divisor D in use (R164). -/
def State.divisor (s : State) : Nat := if s.onFallback then 96 else s.prof.d

/-- KEY is high while a frame is being sent (R181). -/
def State.key (s : State) : Bool := s.air.tx.isSome

/-- The ten bit levels of a byte on TXD: a start bit low, the eight data bits least significant first, a stop bit high
(R163). -/
def txdByte (x : Byte) : List Bool := false :: (List.range 8).map (fun i => x.getLsbD i) ++ [true]

/-- The byte on TXD in the present byte time: none in the key-up lead and once the last byte has gone (R181). -/
def Sending.current (t : Sending) : Option Byte :=
  if t.left = 0 ∨ t.bytes.length < t.left then none else t.bytes[t.bytes.length - t.left]?

/-- The ten bit levels on TXD in the present byte time, high where no byte is sent (R163). -/
def State.txdBits (s : State) : List Bool :=
  match s.air.tx.bind Sending.current with
  | some x => txdByte x
  | none => List.replicate 10 true

/-- The air port begins to work: the quiet time starts from zero unless CARRIER is high (R183, R179;
notes/assumptions/16.md). -/
def State.openPort (s : State) : State := { s with air.quiet := if s.air.carrier then none else some 0 }

/-! ## The random register (R182) -/

/-- One step: stages 16, 14, 13 and 11 give the new stage 1 and every other stage takes the stage below it. -/
def randomStep (r : BitVec 16) : BitVec 16 :=
  let new := ((r.getLsbD 15 ^^ r.getLsbD 13) ^^ r.getLsbD 12) ^^ r.getLsbD 10
  (r <<< 1) ||| (if new then 1 else 0)

/-- The register after a draw: four steps (R182). -/
def randomDraw (r : BitVec 16) : BitVec 16 := Nat.repeat randomStep 4 r

/-! ## The transmit queue -/

/-- The frame at the front has just become the head: the register draws and the backoff count is the draw modulo the
window of the head's kind (R178). With no frame there is no head and no draw. -/
def State.drawHead (s : State) : State :=
  match s.air.txq with
  | [] => { s with air.backoff := 0 }
  | f :: _ =>
    let r := randomDraw s.air.random
    { s with air.random := r, air.backoff := r.toNat % f.kind.window }

/-- The transmit queue accepts a frame of this kind: a REPORT in LISTEN, ACTIVE and FAULT, any other kind in ACTIVE, and
a UNIT only while the pacer state is ACTIVE as well (R176). -/
def State.accepts (s : State) (k : FrameKind) : Bool :=
  match k with
  | .report => s.portWorks
  | .unit => s.isActive && s.pacer.state == .active
  | _ => s.isActive

/-- A waiting frame of the same key gives up its place to the new frame (R177). -/
def replaceByKey (f : TxFrame) (q : List TxFrame) : List TxFrame := replaceFirst (fun g => g.key == f.key) f q

/-- An accepted frame is placed: it replaces the waiting frame of its key in its position, or joins the tail, or is
dropped and counted in TXDROP when the queue holds 8 frames (R177). A frame that joins an empty queue becomes the
head (R178). -/
def State.place (s : State) (f : TxFrame) : State :=
  if s.air.txq.any fun g => g.key == f.key then
    { s with air.txq := replaceByKey f s.air.txq }
  else if s.air.txq.length < 8 then
    let t := { s with air.txq := s.air.txq ++ [f] }
    if s.air.txq.isEmpty then t.drawHead else t
  else { s with cnt.txdrop := bump16 s.cnt.txdrop }

/-- An owner block offers a frame: a frame that is not accepted is neither queued nor counted (R176). -/
def State.offer (s : State) (f : TxFrame) : State := if s.accepts f.kind then s.place f else s

/-- A UNIT waiting in the transmit queue is removed at a stand-down; if it was the head, the next frame becomes the
head (R176). -/
def State.removeUnit (s : State) : State :=
  match s.air.txq with
  | [] => s
  | f :: rest =>
    let kept := rest.filter fun g => g.kind != .unit
    if f.kind = .unit then ({ s with air.txq := kept } : State).drawHead else { s with air.txq := f :: kept }

/-! ## Channel access and the transmitter -/

/-- A rise of CARRIER stops the quiet time, which freezes the head's backoff count; CARRIER is not read while KEY is
high, but the pin has its level when KEY falls (R179). -/
def State.carrierRise (s : State) : State := { s with air.carrier := true, air.quiet := none }

/-- A fall of CARRIER starts the quiet time again from zero; it runs while KEY is low and the port works (R179). -/
def State.carrierFall (s : State) : State :=
  { s with air.carrier := false, air.quiet := if s.portWorks && !s.key then some 0 else none }

/-- The channel is quiet: the quiet time has reached the quiet gap (R179). -/
def State.channelQuiet (s : State) : Bool :=
  match s.air.quiet with
  | some q => decide (s.gap ≤ q)
  | none => false

/-- Sending may begin: a head waits with its backoff count at 0, the channel is quiet and nothing is being sent (R179). -/
def State.maySend (s : State) : Bool :=
  s.portWorks && !s.key && !s.air.txq.isEmpty && s.air.backoff == 0 && s.channelQuiet

/-- A frame in reception is abandoned as BROKEN (R169). -/
def State.abandonBroken (s : State) : State :=
  match s.air.rx with
  | .hunting => s
  | .inFrame => { s with air.rx := .hunting, cnt.broken := bump16 s.cnt.broken }

/-- The head begins to be sent: KEY rises, a frame in reception is abandoned as BROKEN (R168), the frame leaves the
queue for the transmitter, one byte time of key-up lead before its bytes (R181), and the next frame becomes the head
(R178). -/
def State.beginSend (s : State) : State :=
  match s.air.txq with
  | [] => s
  | f :: rest =>
    let bytes := wireBytes s.ownByte f
    let t := s.abandonBroken
    ({ t with air.txq := rest, air.quiet := none, air.tx := some ⟨bytes, bytes.length + 1⟩ } : State).drawHead

/-- KEY falls at the end of the last stop bit: the frame leaves the transmitter, reception hunts afresh, and the
quiet time starts again unless CARRIER is high (R179, R181; notes/assumptions/16.md). -/
def State.finishSend (s : State) : State :=
  { s with air.tx := none, air.rx := .hunting, air.quiet := if s.air.carrier then none else some 0 }

/-- One byte time passes on the channel: a frame being sent comes a byte time nearer its end; otherwise the quiet time
rises while it runs, and the head's backoff count falls at the end of a byte time of quiet time past the gap (R179).
The table has no row for it: `step` takes it on an empty queue (notes/assumptions/3.md). -/
def State.byteTime (s : State) : State :=
  if s.portWorks then
    match s.air.tx with
    | some t => { s with air.tx := some { t with left := t.left - 1 } }
    | none =>
      match s.air.quiet with
      | none => s
      | some q =>
        { s with air.quiet := some (q + 1), air.backoff := if s.gap ≤ q then s.air.backoff - 1 else s.air.backoff }
  else s

/-! ## The receive side -/

/-- The receive side reads RXD: the port works and KEY is low (R168). -/
def State.receiving (s : State) : Bool := s.portWorks && !s.key

/-- The result of the tests of R171 on a frame whose CRC matched, in the table's order: SRC, KIND and shape are tested
before the room in the receive queue. -/
inductive Fate where
  | clash
  | badSource
  | badKind
  | badShape
  | overrun
  | joins (kind : FrameKind)
deriving DecidableEq, Repr

/-- The fate of a frame whose CRC matched (R171). -/
def State.fate (s : State) (code src : Byte) (payload : List Byte) : Fate :=
  if src = s.ownByte then .clash
  else if src = 0 ∨ 128 ≤ src.toNat ∨ (src.toNat = 127 ∧ code ≠ FrameKind.query.code) then .badSource
  else
    match kindOfCode code with
    | none => .badKind
    | some k =>
      if !shapeFits k payload then .badShape
      else if 8 ≤ s.air.rxq.length then .overrun
      else .joins k

end Sys2Proof.Machine
end

