-- ==== Sys2Proof/Machine/Flags.lean ====
section
/-! DEFINITION. The flags and derived values the blocks read: usage, bin need and claim size, the deadline, AT-RISK,
ETA at own stops and references of the run list, and the lamp of the station's status. -/

namespace Sys2Proof.Machine

/-! ## Lanes -/

/-- The usage of a unit for a lane (R20): 0 for variant 63, the default usage for an UNKNOWN unit. -/
def LaneCfg.usageOf (c : LaneCfg) : Option Variant → Nat
  | none => c.du
  | some v => if v = 63 then 0 else c.usage.getD v.toNat 0

/-- The bin need: the larger of 1 and binsMax − B (R52). -/
def LaneRec.need (r : LaneRec) : Nat := max 1 (r.cfg.binsMax - r.b)

/-- The lane is on this run: MANIFESTED or DUE (Section 5.6). -/
def LaneRec.promisedOn (r : LaneRec) (id : RunId) : Bool := r.call.promised && r.onRun == some id

/-- The lane has a claim on this run: WAITING or ADMITTED (Section 5.6). -/
def LaneRec.claimsOn (r : LaneRec) (id : RunId) : Bool := r.call.claims && r.claimRun == some id

/-- A run with this own stop entry at the lane's bank meets the deadline of a lane with this R_ref and safety: its
ETA_LC is not after R_ref − safety (R53). Without an own stop entry or a forecast it does not. -/
def meetsDeadline (stop : Option StopEntry) (rref : Option LineCount) (safety : Nat) : Bool :=
  match stop, rref with
  | some e, some r => !after e.eta (r - BitVec.ofNat 16 safety)
  | _, _ => false

/-- The offset of a lane's R_ref from N: 0 for a record that holds no forecast (R41). -/
def State.rrefOffset (s : State) (r : LaneRec) : Int :=
  match r.forecast with
  | some f => offset s.line.n f.rref
  | none => 0

/-- AT-RISK of a lane by the three cases of R149; clear for an absent lane. -/
def State.riskOf (s : State) (l : LaneIx) : Bool :=
  let r := s.lane l
  r.present &&
    match r.call with
    | .quiet => false
    | .calling =>
      match r.forecast with
      | some f => decide (offset s.line.n f.rref ≤ r.cfg.safety)
      | none => false
    | .waiting | .admitted => r.late
    | .manifested | .due =>
      match r.forecast, r.onRun.bind s.runRec with
      | some f, some run =>
        match run.stopOf (bankOf l) with
        | some e => !e.served && after e.eta f.rref
        | none => false
      | _, _ => false

/-- AT-RISK of every lane is derived again (R149). Nothing else reads the flag within an event, so once at the end of
each event is enough. -/
def State.refreshRisk (s : State) : State := s.mapLanes fun l r => { r with atRisk := s.riskOf l }

/-- The line-face lamp of a lane (R148). -/
def LaneRec.lineFace (r : LaneRec) : Pattern :=
  if !r.present then .off else if r.starved then .fast else if r.atRisk then .slow else .off

/-! ## Run list -/

/-- A run's ETA at own stops: the earliest ETA_LC, by offset from N, among its present own stop entries whose served
flag is clear (R56). -/
def RunRec.etaOffset (n : LineCount) (r : RunRec) : Option Int :=
  let live := (r.stopA.toList ++ r.stopB.toList).filter fun e => !e.served
  (live.map fun e => offset n e.eta).min?

/-- A record is referenced by a lane or by an OPEN visit (R59). -/
def State.referenced (s : State) (id : RunId) : Bool :=
  (allLanes.any fun l => (s.lane l).claimsOn id || (s.lane l).promisedOn id) ||
    s.bankA.visit == some id || s.bankB.visit == some id

/-- `a` leaves before `b` at an eviction: a later ETA at own stops first, none counting as latest, and between equal
ETAs the larger run id (R59); between two with no ETA the larger run id too (notes/assumptions/26.md). -/
def leavesBefore (n : LineCount) (a b : RunRec) : Bool :=
  match a.etaOffset n, b.etaOffset n with
  | none, some _ => true
  | some _, none => false
  | none, none => decide (b.id.toNat < a.id.toNat)
  | some x, some y => decide (y < x) || (decide (x = y) && decide (b.id.toNat < a.id.toNat))

/-! ## Claim book -/

/-- The book is busy: an operation is in progress (R78). -/
def State.busy (s : State) : Bool := s.book.op.isSome

/-- The capacity of the claim book in the strapped role (R74). -/
def Role.bookCapacity : Role → Nat
  | .rack => 48
  | .train => 64
  | _ => 0

/-! ## Status lamp -/

/-- The station status lamp: the first line of the table that applies (R155). -/
def State.statusLamp (s : State) : Pattern :=
  match s.start.state with
  | .load | .check => .off
  | .fault => .fast
  | .listen => if s.air.clash then .fast else .slow
  | .active =>
    if s.air.clash then .fast else if s.line.state = .tracking then .steady else .slow

end Sys2Proof.Machine
end

