-- ==== Sys2Proof/Machine/Lamps.lean ====
section
/-! DEFINITION. The lamp driver: the loading face with its staged, fresh and shown layers, triggers and closes, and
the lamp frame (Sections 8.1 to 8.4). -/

namespace Sys2Proof.Machine

/-! ## The loading face -/

/-- The staged value a lane ought to have: FAST with the overfill mark, STEADY when DUE, OFF otherwise (R150). -/
def LaneRec.stagedFor (r : LaneRec) : Pattern :=
  if r.overfill then .fast else if r.call = .due then .steady else .off

/-- A fresh staged value is shown and its mark cleared (R152). -/
def LaneRec.commit (r : LaneRec) : LaneRec := if r.fresh then { r with shown := r.staged, fresh := false } else r

/-- A trigger for a bank shows each fresh staged value of its lanes and opens the face (R152). -/
def State.trigger (s : State) (k : Bank) : State :=
  (s.mapLanes fun l r => if bankOf l = k then r.commit else r).modBank k fun b => { b with faceOpen := true }

/-- The staged value of a present lane is formed again: a changed value is written with its fresh mark (R150), and is
shown at once when the face is OPEN, or acts as a trigger when a LOCAL bank's presence level is high, or waits (R151,
R153). -/
def State.restage (s : State) (l : LaneIx) : State :=
  let r := s.lane l
  if !r.present || r.stagedFor == r.staged then s
  else
    let k := bankOf l
    let written := s.setLane l { r with staged := r.stagedFor, fresh := true }
    if (s.bank k).faceOpen then s.setLane l { r with staged := r.stagedFor, shown := r.stagedFor, fresh := false }
    else if s.prof.isLocal k && (s.bank k).presence.acc == some true then written.trigger k
    else written

/-- A lane at a close of its bank's face: the overfill mark is cleared, the staged value formed again and written when
it changed, the shown value dark, and the fresh mark set when the staged value is not OFF (R154). -/
def LaneRec.darken (faceOpen : Bool) (r : LaneRec) : LaneRec :=
  let value := LaneRec.stagedFor { r with overfill := false }
  let mark := if value = r.staged then r.fresh else !faceOpen
  { r with overfill := false, staged := value, shown := .off, fresh := mark || value != .off }

/-- The face of a bank closes (R154). -/
def State.closeFace (s : State) (k : Bank) : State :=
  (s.mapLanes fun l r => if bankOf l = k then r.darken (s.bank k).faceOpen else r).modBank k
    fun b => { b with faceOpen := false }

/-- Another block moves a lane: the record changes, the lamp driver forms its staged value again (R150), and the lane
counts as moved for an operation in progress, at which the block makes a request to the book (R81, R140;
notes/assumptions/30.md). -/
def State.moveLane (s : State) (l : LaneIx) (f : LaneRec → LaneRec) : State :=
  let t := (s.modLane l fun r => { f r with moved := true }).restage l
  if s.busy then t.ask else t

/-- An accepted rising presence level triggers a LOCAL bank; on a FRAME bank it has no effect (R153). -/
def State.presenceUp (s : State) (k : Bank) : State := if s.prof.isLocal k then s.trigger k else s

/-- An accepted falling presence level closes the face of a LOCAL bank (R153). -/
def State.presenceDown (s : State) (k : Bank) : State := if s.prof.isLocal k then s.closeFace k else s

/-! ## The lamp frame -/

/-- The pattern is lit in the frame with this blink phase (R147). -/
def Pattern.lit (p : Pattern) (phase : Nat) : Bool :=
  match p with
  | .off => false
  | .steady => true
  | .slow => decide (phase ≤ 24)
  | .fast =>
    decide (phase ≤ 5 ∨ (12 ≤ phase ∧ phase ≤ 17) ∨ (25 ≤ phase ∧ phase ≤ 30) ∨ (37 ≤ phase ∧ phase ≤ 42))

/-- The lane lamps are worked: RACK role in LISTEN or ACTIVE (R146). -/
def State.laneLamps (s : State) : Bool :=
  s.start.role == .rack && (s.start.state == .listen || s.start.state == .active)

/-- The 33 bits of a lamp frame: the status lamp, the line faces and the loading faces of lanes 0 to 15 (R146). -/
def State.lampBits (s : State) : List Bool :=
  let on := fun (p : Pattern) => p.lit s.panel.phase
  on s.statusLamp ::
    ((allLanes.map fun l => s.laneLamps && on (s.lane l).lineFace) ++
      allLanes.map fun l => s.laneLamps && on (s.lane l).shown)

/-- A lamp frame is shifted out and the blink phase rises, wrapping from 49 to 0 (R146, R147). In TRAIN role the port
drives the display module instead (R156). -/
def State.shiftLamps (s : State) : State :=
  if s.start.resetLow || s.start.role == .train then s
  else { s with panel.chain := s.lampBits, panel.phase := (s.panel.phase + 1) % 50 }

end Sys2Proof.Machine
end

