-- ==== Sys2Proof/Machine/Forecast.lean ====
section
/-! DEFINITION. The forecast unit (Section 3): the walk of the window, extrapolation and the cap, the reference
run-out, the call condition and the lane need change. -/

namespace Sys2Proof.Machine

/-- The walk: the place k of the first usage at which the cumulative demand is greater than the stock (R46). -/
def walk (stock : Nat) : List Nat → Option Nat
  | [] => none
  | u :: us => if stock < u then some 0 else (walk (stock - u) us).map (· + 1)

/-- The run-out line count and BEYOND of a stock against a usage sequence that begins at `c` (R46 to R48). -/
def runOut (c : LineCount) (stock du : Nat) (usages : List Nat) : LineCount × Bool :=
  match walk stock usages with
  | some k => (c + BitVec.ofNat 16 k, false)
  | none =>
    let cap := c + 1023
    if du = 0 then (cap, true)
    else
      let h := c + BitVec.ofNat 16 usages.length - 1
      let r := h + BitVec.ofNat 16 ((stock - usages.sum) / du + 1)
      if after r cap then (cap, true) else (r, false)

/-- The next unconsumed unit c = N − P + 1 (R16). -/
def State.nextUnit (s : State) : LineCount := s.line.n - BitVec.ofNat 16 s.prof.p + 1

/-- The forecast of a lane on the window as it stands, with R_ref = R + P (R45, R49). -/
def State.forecastOf (s : State) (r : LaneRec) : Forecast :=
  let out := runOut s.nextUnit r.s r.cfg.du (s.line.window.map r.cfg.usageOf)
  { r := out.1, rref := out.1 + BitVec.ofNat 16 s.prof.p, beyond := out.2 }

/-- The call condition: the offset of R_ref from N is at most the horizon (R50). -/
def State.condOf (s : State) (r : LaneRec) (f : Forecast) : Bool := decide (offset s.line.n f.rref ≤ r.cfg.horizon)

/-- The lane need change: the condition turns on for a QUIET lane, or off for a lane of the claim book (R51). -/
def needsChange (call : CallState) (cond : Bool) : Bool :=
  match call with
  | .quiet => cond
  | .calling | .waiting | .admitted => !cond
  | .manifested | .due => false

/-- A lane is forecast: absent lanes and an UNSYNCED clock leave the record as it stands (R43, R44). -/
def State.forecastLane (s : State) (l : LaneIx) : State :=
  let r := s.lane l
  if r.present && s.synced then
    let f := s.forecastOf r
    let cond := s.condOf r f
    let t := s.setLane l { r with forecast := some f, cond := cond }
    if needsChange r.call cond then t.ask else t
  else s

/-- Every present lane is forecast (R34, R43). -/
def State.forecastAll (s : State) : State := allLanes.foldl State.forecastLane s

end Sys2Proof.Machine
end

