-- ==== Sys2Proof/Machine/Delivery.lean ====
section
/-! DEFINITION. The delivery unit of a RACK station (Sections 7.1 to 7.4): visits, counting, completion, settlement
and the RECEIPT. -/

namespace Sys2Proof.Machine

/-! ## The item list (R131) -/

/-- An item joins the list, or the lane's item is updated (R131). -/
def putItem (items : List Item) (it : Item) : List Item :=
  if items.any fun x => x.lane == it.lane then items.map fun x => if x.lane = it.lane then it else x
  else items ++ [it]

/-- The item of a lane: its requested and delivered bins (R131). -/
def LaneRec.item (r : LaneRec) (l : LaneIx) : Item := ⟨l, r.requested, r.delivered⟩

/-- The lane joins the item list of its bank (R131). -/
def State.joinItems (s : State) (l : LaneIx) : State :=
  s.modBank (bankOf l) fun b => { b with items := putItem b.items ((s.lane l).item l) }

/-- A change of a DUE lane's requested or delivered bins is copied to its item while its run is the record run (R131). -/
def State.followItem (s : State) (l : LaneIx) : State :=
  let r := s.lane l
  if r.call = .due ∧ r.onRun.isSome ∧ (s.bank (bankOf l)).recordRun = r.onRun then s.joinItems l else s

/-! ## Completion and counting (R132, R133) -/

/-- A lane with all its bins: QUIET, its delivery fields cleared (R133). -/
def LaneRec.completed (r : LaneRec) : LaneRec :=
  { r with call := .quiet, claimRun := none, onRun := none, requested := 0, delivered := 0, provisional := false,
           short := none, late := false }

/-- The lane is complete: it joins its bank's item list when the record run is none or its own run, becomes QUIET and
is forecast (R133). On an idle book the turn-on request of that forecast is the only one (notes/assumptions/30.md). -/
def State.complete (s : State) (l : LaneIx) : State :=
  let k := bankOf l
  let run := (s.lane l).onRun
  let t := if (s.bank k).recordRun.isNone then s.modBank k fun b => { b with recordRun := run } else s
  let u := if (t.bank k).recordRun = run then t.joinItems l else t
  (u.moveLane l LaneRec.completed).forecastLane l

/-- A MANIFESTED or DUE lane whose delivered count equals its requested bins is complete (R133). -/
def State.completeIfDone (s : State) (l : LaneIx) : State :=
  let r := s.lane l
  if r.call.promised && r.delivered == r.requested then s.complete l else s

/-- A FEED passed on for a MANIFESTED or DUE lane is counted (R132). -/
def State.countFeed (s : State) (l : LaneIx) : State :=
  if (s.lane l).call.promised then
    ((s.modLane l fun r => { r with delivered := r.delivered + 1 }).followItem l).completeIfDone l
  else s

/-! ## Settlement (R136, R138) -/

/-- A lane settled short: its outstanding bins are totalled and recorded, and it calls again (R136). -/
def LaneRec.settledShort (run : RunId) (r : LaneRec) : LaneRec :=
  let out := r.requested - r.delivered
  { r with shortBins := sat16 (r.shortBins + out), short := some (run, out), call := .calling, claimRun := none,
           onRun := none, requested := 0, delivered := 0, provisional := false }

/-- One short lane of a settlement for `run`: it joins the item list when the record run is none, which then becomes
`run`, or is `run` already; then it is settled short, with a request to the book (R136). -/
def State.settleLane (run : RunId) (s : State) (l : LaneIx) : State :=
  let k := bankOf l
  let t := if (s.bank k).recordRun.isNone then s.modBank k fun b => { b with recordRun := some run } else s
  let u := if (t.bank k).recordRun = some run then t.joinItems l else t
  (u.moveLane l (LaneRec.settledShort run)).ask

/-- The present lanes of a bank that a settlement for `run` finds owed bins: MANIFESTED or DUE on it (R136). -/
def State.owedLanes (s : State) (k : Bank) (run : RunId) : List LaneIx :=
  (bankLanes k).filter fun l => (s.lane l).present && (s.lane l).promisedOn run

/-- The items a settlement of the bank for `run` reports: the item list once the short lanes have joined it, or the
short lanes' own items when the record run is another run (R136, R137). -/
def State.reportedItems (s : State) (k : Bank) (run : RunId) : List Item :=
  let owed := (s.owedLanes k run).map fun l => (s.lane l).item l
  if (s.bank k).recordRun = some run then owed.foldl putItem (s.bank k).items
  else if (s.bank k).recordRun.isNone then owed.foldl putItem (s.bank k).items
  else owed

/-- The bank's business with `run` is closed: the list is emptied when its record run is `run`, and a visit OPEN for
`run` closes, with the face (R138). -/
def State.closeBusiness (s : State) (k : Bank) (run : RunId) : State :=
  let t := if (s.bank k).recordRun = some run then s.modBank k fun b => { b with items := [], recordRun := none } else s
  if (t.bank k).visit = some run then (t.modBank k fun b => { b with visit := none, revisit := false }).closeFace k else t

/-- A bank is settled for a run (R136, R138). -/
def State.settleBank (s : State) (k : Bank) (run : RunId) : State :=
  ((s.owedLanes k run).foldl (State.settleLane run) s).closeBusiness k run

/-- A settlement by departure or served flag acts on the bank (R135). -/
def State.departureActs (s : State) (k : Bank) (run : RunId) : Bool :=
  (s.bank k).visit == some run || (s.bank k).lastDeparted != some run

/-- A bank settled by departure or served flag: the run becomes its last departed run (R138). -/
def State.settleDeparted (s : State) (k : Bank) (run : RunId) : State :=
  (s.settleBank k run).modBank k fun b => { b with lastDeparted := some run }

/-- Both banks are settled for a run without a RECEIPT: removal and regression (R62, R64, R134). -/
def State.settleRun (s : State) (run : RunId) : State := (s.settleBank .a run).settleBank .b run

/-- Ascending lane order. -/
abbrev laneOrder (x y : Item) : Prop := x.lane.val ≤ y.lane.val

/-- The RECEIPT for a run at a stop with these items: ascending lane order, the first 8 carried (R137). -/
def receiptFrame (run : RunId) (stop : Nat) (items : List Item) : TxFrame :=
  ⟨.receipt, writeReceipt
    ⟨run, stop, ((items.insertionSort laneOrder).take 8).map fun i => ⟨i.lane.val, i.delivered, i.requested⟩⟩⟩

/-- The bank at this place of the frame's banks is settled when R135 lets the departure act; its items are kept for the
RECEIPT. -/
def departBank (run : RunId) (acc : State × List Item) (k : Bank) : State × List Item :=
  if acc.1.departureActs k run then (acc.1.settleDeparted k run, acc.2 ++ acc.1.reportedItems k run) else acc

/-- A DEPART or a newly served flag for a run at a stop: every bank at the stop is settled subject to R135, bank A first,
and one RECEIPT with at least one item is offered (R134, R137). -/
def State.departStop (s : State) (run : RunId) (stop : Nat) : State :=
  let out := (s.banksAt stop).foldl (departBank run) (s, [])
  if out.2.isEmpty then out.1 else out.1.offer (receiptFrame run stop out.2)

/-! ## Arrival (R127 to R130) -/

/-- A lane becomes DUE on a run: its claim, if it had one, is gone, and so is its short record (R129, R130). -/
def LaneRec.becomeDue (run : RunId) (requested delivered : Nat) (provisional : Bool) (r : LaneRec) : LaneRec :=
  { r with call := .due, onRun := some run, requested, delivered, provisional, short := none, claimRun := none,
           late := r.late && !r.call.claims }

/-- A lane leaves WAITING or ADMITTED in another block's event: its own entry leaves the book and a request is made
(R82). -/
def State.releaseClaim (s : State) (l : LaneIx) : State :=
  if (s.lane l).call.claims then (s.dropOwnEntry l).ask else s

/-- The move of a lane at an ARRIVE for `run` by its call state (R129). To an idle book only the loss of an own entry is a
request (R82; notes/assumptions/30.md). -/
def State.arriveLane (run : RunId) (s : State) (l : LaneIx) : State :=
  let r := s.lane l
  if !r.present then s
  else if r.call = .manifested ∧ r.onRun = some run then
    (s.moveLane l (LaneRec.becomeDue run r.requested r.delivered false)).joinItems l
  else if r.claimsOn run then
    ((s.releaseClaim l).moveLane l (LaneRec.becomeDue run r.requested 0 true)).joinItems l
  else s

/-- The revisit move of a lane: a short-recorded lane that is CALLING, WAITING or ADMITTED becomes DUE for its
outstanding bins (R130). To an idle book only the loss of an own entry is a request (R82; notes/assumptions/30.md). -/
def State.revisitLane (run : RunId) (s : State) (l : LaneIx) : State :=
  let r := s.lane l
  match r.short with
  | some (id, out) =>
    if r.present && id == run && (r.call == .calling || r.call.claims) then
      ((s.releaseClaim l).moveLane l (LaneRec.becomeDue run out 0 false)).joinItems l
    else s
  | none => s

/-- A bank takes an ARRIVE: any other run's business is settled without a RECEIPT, the visit opens, the lanes move,
and the frame trigger commits (R128; notes/assumptions/11.md). -/
def State.arriveBank (run : RunId) (revisit : Bool) (s : State) (k : Bank) : State :=
  let t :=
    match (s.bank k).recordRun with
    | some other => if other = run then s else s.settleBank k other
    | none => s
  let u := t.modBank k fun b => { b with visit := some run, recordRun := some run, revisit := revisit }
  let v := (bankLanes k).foldl (State.arriveLane run) u
  let w := if revisit && (v.runRec run).isSome then (bankLanes k).foldl (State.revisitLane run) v else v
  w.trigger k

/-- A stop id a rack frame may name (R127, R134). -/
def validStop (stop : Nat) : Bool := decide (1 ≤ stop ∧ stop ≤ 32)

/-- An ARRIVE handed to the delivery unit (R127, R128). -/
def State.takeArrive (s : State) (src : Byte) (payload : List Byte) : State :=
  match readArrive payload with
  | some a =>
    if trainOf a.id = src ∧ validStop a.stop then (s.banksAt a.stop).foldl (State.arriveBank a.id a.revisit) s else s
  | none => s

/-- A DEPART handed to the delivery unit (R134). -/
def State.takeDepart (s : State) (src : Byte) (payload : List Byte) : State :=
  match readDepart payload with
  | some d => if trainOf d.id = src ∧ validStop d.stop then s.departStop d.id d.stop else s
  | none => s

end Sys2Proof.Machine
end

