-- ==== Sys2Proof/Machine/Stock.lean ====
section
/-! DEFINITION. The stock tracker (Section 2): FEED, EMPTY and RESERVE events, consumption, and the sensor inputs with
their change latches. -/

namespace Sys2Proof.Machine

/-! ## Sensor inputs (R23 to R25) -/

/-- The input of a sensor of a lane. -/
def LaneRec.sensor (r : LaneRec) : Sensor → SensorIn
  | .feed => r.feedIn
  | .empty => r.emptyIn
  | .reserve => r.reserveIn

/-- The input of a sensor of a lane is replaced. -/
def LaneRec.setSensor (r : LaneRec) (k : Sensor) (x : SensorIn) : LaneRec :=
  match k with
  | .feed => { r with feedIn := x }
  | .empty => { r with emptyIn := x }
  | .reserve => { r with reserveIn := x }

/-- An accepted change to this level that a command brings by itself: the level is accepted and the change latch set
(R24; notes/assumptions/17.md). -/
def State.acceptSensor (s : State) (l : LaneIx) (k : Sensor) (level : Bool) : State :=
  s.modLane l fun r => r.setSensor k ⟨.accept level, true⟩

/-- The stock tracker takes the event of an input, which clears its change latch (R24). -/
def State.clearLatch (s : State) (l : LaneIx) (k : Sensor) : State :=
  s.modLane l fun r => r.setSensor k ⟨(r.sensor k).level, false⟩

/-! ## FEED (R26, R27) -/

/-- The stock of a lane after a FEED: a bin is added, or at binsMax the surplus bins total rises; STARVED is cleared
when parts are there after it (R26). -/
def LaneRec.fed (r : LaneRec) : LaneRec :=
  if r.b < r.cfg.binsMax then
    let stock := min (r.s + r.cfg.q) (r.cfg.binsMax * r.cfg.q)
    { r with b := r.b + 1, s := stock, starved := r.starved && stock == 0 }
  else { r with surplus := sat16 (r.surplus + 1), starved := r.starved && r.s == 0 }

/-- The lamp driver's share of an overfill: the overfill mark is set while the bank's face is OPEN (R150). -/
def State.markOverfill (s : State) (l : LaneIx) : State :=
  if (s.bank (bankOf l)).faceOpen then (s.modLane l fun r => { r with overfill := true }).restage l else s

/-- A FEED event taken for a present lane (R26, R27, R34). -/
def State.takeFeed (s : State) (l : LaneIx) : State :=
  let full := (s.lane l).cfg.binsMax ≤ (s.lane l).b
  let t := s.modLane l LaneRec.fed
  let u := if full then t.markOverfill l else t.forecastLane l
  u.countFeed l

/-! ## EMPTY and RESERVE (R28 to R30) -/

/-- The stock of a lane after an EMPTY with B above 0: every bin still there is full (R28). -/
def LaneRec.emptied (r : LaneRec) : LaneRec :=
  let stock := (r.b - 1) * r.cfg.q
  { r with b := r.b - 1, s := stock, drift := clampDrift (r.drift + (r.s - stock : Int)), uncounted := false,
           starved := r.starved && stock == 0 }

/-- An EMPTY event taken for a present lane: a phantom empty with B = 0 (R28, R29). -/
def State.takeEmpty (s : State) (l : LaneIx) : State :=
  if (s.lane l).b = 0 then
    { s.modLane l fun r => { r with s := 0 } with cnt.phantom := bump16 s.cnt.phantom }
  else (s.modLane l LaneRec.emptied).forecastLane l

/-- The stock of a lane capped at one bin (R30). -/
def LaneRec.reserved (r : LaneRec) : LaneRec :=
  let stock := min r.s r.cfg.q
  { r with b := 1, s := stock, drift := clampDrift (r.drift + (r.s - stock : Int)) }

/-- A RESERVE event taken for a present lane: nothing changes with B of 1 or 0 (R30). -/
def State.takeReserve (s : State) (l : LaneIx) : State :=
  if 1 < (s.lane l).b then (s.modLane l LaneRec.reserved).forecastLane l else s

/-- The event of a rising change of an input of a present lane (R25). -/
def State.takeRising (s : State) (l : LaneIx) (k : Sensor) : State :=
  match k with
  | .feed => s.takeFeed l
  | .empty => s.takeEmpty l
  | .reserve => s.takeReserve l

/-- An accepted change is taken: a present lane's latch is cleared and a rising change has its event; a falling change
has no further effect, and the events of an absent lane are not taken (R24, R25). -/
def State.takeChange (s : State) (l : LaneIx) (k : Sensor) (rising : Bool) : State :=
  if (s.lane l).present then
    let t := s.clearLatch l k
    if rising then t.takeRising l k else t
  else s

/-! ## Consumption (R31) -/

/-- One unit consumed against a lane; nothing is consumed against an absent lane (R19, R31). -/
def LaneRec.consume (e : Option Variant) (r : LaneRec) : LaneRec :=
  let u := r.cfg.usageOf e
  if !r.present then r
  else if r.s < u then { r with shortfall := sat16 (r.shortfall + (u - r.s)), s := 0, starved := true }
  else { r with s := r.s - u }

/-- The leaving units are consumed one by one against every lane (R18, R31). -/
def State.consumeUnits (s : State) (units : List (Option Variant)) : State :=
  units.foldl (fun t e => t.mapLanes fun _ r => r.consume e) s

end Sys2Proof.Machine
end

