-- ==== Sys2Proof/Machine/RunList.lean ====
section
/-! DEFINITION. The run list of a RACK station (Section 4): RUN notices, regression, removal and ageing, MANIFEST
parts and the manifest wait. -/

namespace Sys2Proof.Machine

/-! ## Notices decoded -/

/-- The own stop entry a stop list gives a bank: its first item with the bank's stop id (R56, R58). -/
def RunNotice.entryFor (n : RunNotice) (stop : Nat) : Option StopEntry :=
  if stop = 0 then none else (n.stops.find? fun i => i.stop == stop).map fun i => ⟨i.eta, i.served⟩

/-- The own stop entry of a notice at a bank of the station. -/
def State.entryAt (s : State) (n : RunNotice) (k : Bank) : Option StopEntry := n.entryFor (s.prof.stopOf k)

/-- The notice names none of the station's own stops (R58). -/
def State.foreign (s : State) (n : RunNotice) : Bool := (s.entryAt n .a).isNone && (s.entryAt n .b).isNone

/-- A manifest wait started now: 2 × T_refresh (R61). -/
def State.waitFromNow (s : State) : Timer := .running (s.deadline (2 * s.prof.tRefresh))

/-! ## Removal (R64) -/

/-- The claim of a WAITING or ADMITTED lane falls: CALLING without run, bins or LATE (R64). -/
def LaneRec.fallBack (r : LaneRec) : LaneRec :=
  { r with call := .calling, claimRun := none, requested := 0, late := false }

/-- The claim of a lane on this run falls and its own entry leaves the book (R64, R70). -/
def State.dropClaim (run : RunId) (s : State) (l : LaneIx) : State :=
  if (s.lane l).claimsOn run then (s.releaseClaim l).moveLane l LaneRec.fallBack else s

/-- A run is removed: its lanes and visits are settled without a RECEIPT, its claims fall, the record leaves and the
book is asked (R64, R72). -/
def State.removeRun (s : State) (run : RunId) : State :=
  let t := allLanes.foldl (State.dropClaim run) (s.settleRun run)
  ({ t with runs := t.runs.filter fun x => x.id != run } : State).ask

/-! ## Insertion (R59) -/

/-- The record of a newly heard run (R59, R61). -/
def State.newRecord (s : State) (n : RunNotice) (st : RunState) : RunRec :=
  { id := n.id, state := st, caps := n.caps.clamp, stopA := s.entryAt n .a, stopB := s.entryAt n .b,
    lastHeard := s.start.clock, mask := 0, partCount := none,
    wait := if st = .planning then .stopped else s.waitFromNow, settled := false }

/-- The record that leaves a full list: among the records that are not referenced, the one that leaves before every
other (R59). -/
def State.evictee (s : State) : Option RunRec :=
  (s.runs.filter fun r => !s.referenced r.id).foldl
    (fun best r =>
      match best with
      | none => some r
      | some x => if leavesBefore s.line.n r x then some r else some x)
    none

/-- A notice of an unknown run is inserted: a full list evicts an unreferenced record or drops the run with RUNDROP
(R59, R72). -/
def State.insertRun (s : State) (n : RunNotice) (st : RunState) : State :=
  let rec0 := s.newRecord n st
  if s.runs.length < 6 then ({ s with runs := s.runs ++ [rec0] } : State).ask
  else
    match s.evictee with
    | some out => ({ s with runs := (s.runs.filter fun x => x.id != out.id) ++ [rec0] } : State).ask
    | none => { s with cnt.rundrop := bump16 s.cnt.rundrop }

/-! ## Replacement (R60 to R63) -/

/-- The record after a replacement: the heard fields, and the manifest reception as R61 and R62 change it. -/
def State.replaced (s : State) (old : RunRec) (n : RunNotice) (st : RunState) : RunRec :=
  let heard : RunRec :=
    { old with state := st, caps := n.caps.clamp, stopA := s.entryAt n .a, stopB := s.entryAt n .b,
               lastHeard := s.start.clock }
  if old.state ≠ .planning ∧ st = .planning then
    { heard with mask := 0, partCount := none, wait := .stopped, settled := false }
  else if old.state = .planning ∧ st ≠ .planning then { heard with wait := s.waitFromNow }
  else heard

/-- The replacement is a run list change: state, a capacity, an own ETA_LC, or the presence of an own stop entry
changed (R60). -/
def changesList (old new : RunRec) : Bool :=
  old.state != new.state || old.caps != new.caps || old.stopA.map StopEntry.eta != new.stopA.map StopEntry.eta ||
    old.stopB.map StopEntry.eta != new.stopB.map StopEntry.eta

/-- The served flag of an own stop entry is newly set: it was present and clear in the record (R63). -/
def newlyServed (old new : Option StopEntry) : Bool :=
  match old, new with
  | some x, some y => !x.served && y.served
  | _, _ => false

/-- The stops whose served flag a replacement newly sets, bank A's first and a shared stop once (R63). -/
def State.servedStops (s : State) (old new : RunRec) : List Nat :=
  ((if newlyServed old.stopA new.stopA then [s.prof.stopA] else []) ++
    if newlyServed old.stopB new.stopB then [s.prof.stopB] else []).dedup

/-- A notice of a listed run replaces its record: a regression first settles the run without a RECEIPT (R62), and a
newly served stop is settled as a DEPART settles it (R63). -/
def State.replaceRun (s : State) (old : RunRec) (n : RunNotice) (st : RunState) : State :=
  let new := s.replaced old n st
  let t := if old.state ≠ .planning ∧ st = .planning then s.settleRun n.id else s
  let u := t.modRun n.id fun _ => new
  let v := if changesList old new then u.ask else u
  (s.servedStops old new).foldl (fun w stop => w.departStop n.id stop) v

/-- A RUN frame handed to the run list (R58 to R64). -/
def State.takeRun (s : State) (src : Byte) (payload : List Byte) : State :=
  match readRun payload with
  | none => s
  | some n =>
    if trainOf n.id ≠ src then s
    else
      match s.runRec n.id with
      | none =>
        if s.foreign n then s
        else
          match n.state with
          | .closed => s
          | .heldAs st => s.insertRun n st
      | some old =>
        if s.foreign n then s.removeRun n.id
        else
          match n.state with
          | .closed => s.removeRun n.id
          | .heldAs st => s.replaceRun old n st

/-- The expiry of a record's ageing, 3 × T_refresh after it was last heard: the run is removed (R65). -/
def State.ageRun (s : State) (run : RunId) : State :=
  match s.runRec run with
  | some r => if s.due (some (r.lastHeard + 3 * s.prof.tRefresh)) then s.removeRun run else s
  | none => s

/-! ## Manifest settled (R70) -/

/-- A lane DUE provisionally that no part named: CALLING without bins (R70). -/
def LaneRec.unconfirmed (r : LaneRec) : LaneRec :=
  { r with call := .calling, onRun := none, requested := 0, delivered := 0, provisional := false }

/-- The fall back of one lane when its run becomes manifest settled (R70). -/
def State.fallBackLane (run : RunId) (s : State) (l : LaneIx) : State :=
  let r := s.lane l
  if r.call = .due ∧ r.onRun = some run ∧ r.provisional then (s.moveLane l LaneRec.unconfirmed).ask
  else s.dropClaim run l

/-- A record becomes manifest settled, once: unnamed lanes fall back and the book is asked (R70, R72). -/
def State.manifestSettled (s : State) (run : RunId) : State :=
  (allLanes.foldl (State.fallBackLane run) (s.modRun run fun r => { r with settled := true })).ask

/-- The expiry of a record's manifest wait (R61, R70). -/
def State.waitExpiry (s : State) (run : RunId) : State :=
  match s.runRec run with
  | some r =>
    match r.wait with
    | .running d =>
      if s.due (some d) then
        let t := s.modRun run fun x => { x with wait := .expired }
        if r.settled then t else t.manifestSettled run
      else s
    | _ => s
  | none => s

/-! ## MANIFEST parts (R66 to R69) -/

/-- The lane a manifest entry names becomes MANIFESTED, or DUE while the bank's visit is OPEN for the run (R67). -/
def LaneRec.manifested (run : RunId) (bins : Nat) (visitOpen : Bool) (r : LaneRec) : LaneRec :=
  { r with call := if visitOpen then .due else .manifested, onRun := some run, requested := bins, delivered := 0,
           short := none, late := false, claimRun := none, provisional := false }

/-- A manifest entry for a lane not yet promised a delivery: its claim goes, it becomes MANIFESTED or DUE, and a lane
made DUE joins the visit record (R67). To an idle book only the loss of an own entry is a request (R82;
notes/assumptions/30.md). -/
def State.promiseLane (s : State) (run : RunId) (l : LaneIx) (bins : Nat) : State :=
  let visitOpen := (s.bank (bankOf l)).visit == some run
  let t := (s.releaseClaim l).moveLane l (LaneRec.manifested run bins visitOpen)
  if visitOpen then t.joinItems l else t

/-- The lane's bins after a confirmation: bins beyond the new requested bins go to the surplus bins total (R68). -/
def LaneRec.confirmed (bins : Nat) (r : LaneRec) : LaneRec :=
  { r with requested := bins, provisional := false, delivered := min r.delivered bins,
           surplus := sat16 (r.surplus + (r.delivered - bins)) }

/-- A manifest entry for a lane already on the same run confirms it (R68). -/
def State.confirmLane (s : State) (l : LaneIx) (bins : Nat) : State :=
  ((s.modLane l (LaneRec.confirmed bins)).followItem l).completeIfDone l

/-- The lane a manifest entry applies to: own station, a present lane whose bank's stop is the entry's, bins 1..4 (R67). -/
def State.entryLane (s : State) (e : PartEntry) : Option LaneIx :=
  if h : e.lane < 16 then
    let l : LaneIx := ⟨e.lane, h⟩
    if e.station = s.own ∧ (s.lane l).present ∧ s.prof.stopOf (bankOf l) = e.stop ∧ 1 ≤ e.bins ∧ e.bins ≤ 4 then some l
    else none
  else none

/-- A manifest entry is applied by the lane's call state (R67 to R69). -/
def State.applyEntry (run : RunId) (s : State) (e : PartEntry) : State :=
  match s.entryLane e with
  | none => s
  | some l =>
    let r := s.lane l
    if !r.call.promised then s.promiseLane run l e.bins
    else if r.onRun = some run then s.confirmLane l e.bins
    else { s with cnt.double := bump16 s.cnt.double }

/-- The mask with every part index below the count. -/
def fullMask (count : Nat) : BitVec 4 := BitVec.ofNat 4 (2 ^ count - 1)

/-- A part with a new index is applied: a record still PLANNING becomes LOADING with its wait started (R61, R66); the
entries act in frame order; a mask made complete stops the wait and settles the manifest (R70). -/
def State.applyPart (s : State) (old : RunRec) (p : ManifestPart) : State :=
  let mask := old.mask ||| BitVec.ofNat 4 (2 ^ p.index)
  let planning := old.state = .planning
  let t := s.modRun p.id fun r =>
    { r with partCount := some p.count, mask := mask, state := if planning then .loading else r.state,
             wait := if planning then s.waitFromNow else r.wait }
  let u := if planning then t.ask else t
  let v := p.entries.foldl (State.applyEntry p.id) u
  if mask = fullMask p.count then
    let w := v.modRun p.id fun r => { r with wait := .stopped }
    if old.settled then w else w.manifestSettled p.id
  else v

/-- A MANIFEST frame handed to the run list (R66): a repeated part changes nothing further. -/
def State.takeManifest (s : State) (src : Byte) (payload : List Byte) : State :=
  match readPart payload with
  | none => s
  | some p =>
    if trainOf p.id ≠ src then s
    else
      match s.runRec p.id with
      | none => s
      | some old =>
        if p.count ≤ p.index ∨ (old.partCount.isSome ∧ old.partCount ≠ some p.count) then s
        else if old.mask.getLsbD p.index then s
        else s.applyPart old p

end Sys2Proof.Machine
end

