-- ==== Sys2Proof/Machine/Book.lean ====
section
/-! DEFINITION. The claim book (Section 5): key order, admission, the work of a book operation, its start, its
completion and the claim set it queues. -/

namespace Sys2Proof.Machine

/-! ## Key order (R76) -/

/-- The key of an entry against N: offset of R_ref, station address, lane (R76). -/
def Entry.key (n : LineCount) (e : Entry) : Int × Nat × Nat := (offset n e.rref, e.station, e.lane.val)

/-- A key is not larger than another: the parts compared in order (R76). -/
def keyLe (x y : Int × Nat × Nat) : Bool :=
  decide (x.1 < y.1) ||
    (decide (x.1 = y.1) && (decide (x.2.1 < y.2.1) || (decide (x.2.1 = y.2.1) && decide (x.2.2 ≤ y.2.2))))

/-- A key is smaller than another (R76). -/
def keyLt (x y : Int × Nat × Nat) : Bool := !keyLe y x

/-- Ascending key order of entries. -/
abbrev entryOrder (n : LineCount) (a b : Entry) : Prop := keyLe (a.key n) (b.key n) = true

/-- The entries in ascending key order. -/
def sortEntries (n : LineCount) (es : List Entry) : List Entry := es.insertionSort (entryOrder n)

/-- Two entries stand for the same lane of the same station (R74). -/
def Entry.sameLane (a b : Entry) : Bool := a.station == b.station && a.lane == b.lane

/-! ## Admission (R88) -/

/-- The capacity copy of a run for a class: 0 for a run never read as PLANNING (R79). -/
def copyOf (copies : List (RunId × Caps)) (run : RunId) (cls : Nat) : Nat :=
  match copies.find? fun c => c.1 == run with
  | some c => c.2.get cls
  | none => 0

/-- The running total at an entry: the sizes of the entries of its run and class up to and including it in key order
(R88). -/
def runningTotal (n : LineCount) (es : List Entry) (e : Entry) : Nat :=
  ((es.filter fun x => x.run == e.run && x.cls == e.cls && keyLe (x.key n) (e.key n)).map Entry.size).sum

/-- The entry is admitted: its running total is not greater than the capacity copy. Sizes are not negative, so every
entry behind one that exceeds the copy exceeds it too (R88). -/
def admits (n : LineCount) (copies : List (RunId × Caps)) (es : List Entry) (e : Entry) : Bool :=
  decide (runningTotal n es e ≤ copyOf copies e.run e.cls)

/-- Every mark is computed afresh (R88). -/
def markAll (n : LineCount) (copies : List (RunId × Caps)) (es : List Entry) : List Entry :=
  es.map fun e => { e with admitted := admits n copies es e }

/-! ## Insertion and eviction (R84, R85) -/

/-- The peer entry with the largest key (R85). -/
def largestPeer (n : LineCount) (es : List Entry) : Option Entry :=
  es.foldl
    (fun best e =>
      if e.own then best
      else
        match best with
        | none => some e
        | some x => if keyLt (x.key n) (e.key n) then some e else some x)
    none

/-- The entries without this one. -/
def removeEntry (es : List Entry) (out : Entry) : List Entry := es.filter fun e => !e.sameLane out

/-- The entries of an operation's work, with the evictions and drops it has counted (BOOKFULL, R85). -/
structure Work where
  entries : List Entry
  full : Nat
deriving DecidableEq, Repr

/-- A peer's claim is inserted; a full book evicts the peer entry with the largest key when the claim's key is smaller,
and drops the claim otherwise (R85). -/
def insertPeer (cap : Nat) (n : LineCount) (w : Work) (e : Entry) : Work :=
  if w.entries.length < cap then ⟨w.entries ++ [e], w.full⟩
  else
    match largestPeer n w.entries with
    | some out =>
      if keyLt (e.key n) (out.key n) then ⟨removeEntry w.entries out ++ [e], w.full + 1⟩ else ⟨w.entries, w.full + 1⟩
    | none => ⟨w.entries, w.full + 1⟩

/-- The book after the room an own insertion needs has been made: a full book loses the peer entry with the largest key
(R85). -/
def makeRoom (cap : Nat) (n : LineCount) (w : Work) : Work :=
  if w.entries.length < cap then w
  else
    match largestPeer n w.entries with
    | some out => ⟨removeEntry w.entries out, w.full + 1⟩
    | none => ⟨w.entries, w.full + 1⟩

/-- An own claim is inserted (R85, R93). -/
def insertOwn (cap : Nat) (n : LineCount) (w : Work) (e : Entry) : Work :=
  let room := makeRoom cap n w
  ⟨room.entries ++ [e], room.full⟩

/-! ## Step 1: a CLAIMSET's claims in scope (R83, R84) -/

/-- The run is in the scope of an insertion for the inputs of the operation: read as PLANNING at the start in the run
list, or the own PLANNING run of a train (R75, R83). -/
def BookOp.inScope (op : BookOp) (role : Role) (run : RunId) : Bool :=
  match role with
  | .rack => op.runs.any fun r => r.id == run && r.state == .planning
  | .train => op.planning == some run
  | _ => false

/-- A valid item (R83). -/
def ClaimItem.valid (c : ClaimItem) : Bool :=
  decide (c.lane < 16 ∧ 1 ≤ c.stop ∧ c.stop ≤ 32 ∧ c.cls ≤ 3 ∧ 1 ≤ c.size ∧ c.size ≤ 16 ∧ 1 ≤ c.bins ∧ c.bins ≤ 4)

/-- Among valid items that name the same lane the first in the frame is taken (R83). -/
def firstPerLane (items : List ClaimItem) : List ClaimItem :=
  items.foldl (fun acc c => if acc.any fun x => x.lane == c.lane then acc else acc ++ [c]) []

/-- The peer entry an item of a sender stands for; its last-heard time is set at the completion (R84). -/
def peerEntry (sender : Nat) (c : ClaimItem) : Option Entry :=
  if h : c.lane < 16 then
    some { run := c.run, station := sender, lane := ⟨c.lane, h⟩, stop := c.stop, cls := c.cls, size := c.size,
           bins := c.bins, rref := c.rref, late := c.late, heard := 0, own := false, admitted := false }
  else none

/-- The sender's claims in scope, in ascending key order (R83, R84). -/
def BookOp.claimsInScope (op : BookOp) (role : Role) (cs : ClaimSet) : List Entry :=
  let items := (firstPerLane (cs.items.filter ClaimItem.valid)).filter fun c => op.inScope role c.run
  sortEntries op.n (items.filterMap (peerEntry cs.sender))

/-- Step 1: the sender's entries are replaced by its claims in scope (R80, R84). -/
def BookOp.replaceSender (op : BookOp) (role : Role) (w : Work) : Work :=
  match op.claimset with
  | none => w
  | some cs =>
    (op.claimsInScope role cs).foldl (insertPeer role.bookCapacity op.n)
      ⟨w.entries.filter fun e => e.station != cs.sender, w.full⟩

/-! ## Steps 2 and 3: scope and need changes (R87, R89) -/

/-- Step 2: the peer entries out of scope are removed (R87). -/
def BookOp.dropOutOfScope (op : BookOp) (role : Role) (w : Work) : Work :=
  ⟨w.entries.filter fun e => e.own || op.inScope role e.run, w.full⟩

/-- Step 3: the own entries of lanes whose condition does not hold are removed (R89). -/
def BookOp.turnOff (op : BookOp) (w : Work) : Work :=
  ⟨w.entries.filter fun e => !e.own || op.lanes[e.lane].cond, w.full⟩

/-! ## The choice of a run (R90 to R92) -/

/-- The record of a run as read at the start. -/
def BookOp.runRec (op : BookOp) (run : RunId) : Option RunRec := op.runs.find? fun r => r.id == run

/-- The ETA of a candidate at a bank, by offset from N (R90). -/
def BookOp.etaOffset (op : BookOp) (k : Bank) (r : RunRec) : Int :=
  match r.stopOf k with
  | some e => offset op.n e.eta
  | none => 0

/-- Candidates in ascending order: earliest ETA first, and between equal ETAs the smaller run id (R90). -/
abbrev candidateOrder (op : BookOp) (k : Bank) (a b : RunRec) : Prop :=
  keyLe (op.etaOffset k a, a.id.toNat, 0) (op.etaOffset k b, b.id.toNat, 0) = true

/-- The candidates of a lane (R90). -/
def State.candidates (s : State) (op : BookOp) (l : LaneIx) : List RunRec :=
  let k := bankOf l
  (op.runs.filter fun r =>
      r.state == .planning && (r.stopOf k).isSome && decide (0 < copyOf s.book.copies r.id (s.lane l).cfg.cls)).insertionSort
    (candidateOrder op k)

/-- A run meets the deadline of a lane by the values read at the start (R53, R90). -/
def State.opMeets (s : State) (op : BookOp) (l : LaneIx) (r : RunRec) : Bool :=
  meetsDeadline (r.stopOf (bankOf l)) op.lanes[l].rref (s.lane l).cfg.safety

/-- The claim of a lane on a run (R92, R93). -/
def State.claimOn (s : State) (op : BookOp) (l : LaneIx) (run : RunId) (late : Bool) : Entry :=
  let rd := op.lanes[l]
  let cfg := (s.lane l).cfg
  { run, station := s.own, lane := l, stop := s.prof.stopOf (bankOf l), cls := cfg.cls, size := rd.need * cfg.slot,
    bins := rd.need, rref := rd.rref.getD 0, late, heard := s.start.clock, own := true, admitted := false }

/-- A lane's claim would be admitted on a run: the trial of R92, with the eviction a full book would make. At a migration
the book of the trial is the one without the lane's own entry (notes/assumptions/31.md). -/
def State.wouldAdmit (s : State) (op : BookOp) (w : Work) (l : LaneIx) (run : RunId) : Bool :=
  let e := s.claimOn op l run false
  admits op.n s.book.copies ((makeRoom s.start.role.bookCapacity op.n w).entries ++ [e]) e

/-- The run chosen for a lane and its LATE result: the earliest candidate that meets the deadline and would be
admitted, else the earliest that meets the deadline, else the earliest, which is LATE (R92). -/
def State.chooseRun (s : State) (op : BookOp) (w : Work) (l : LaneIx) : Option (RunId × Bool) :=
  let cs := s.candidates op l
  match cs.find? fun r => s.opMeets op l r && s.wouldAdmit op w l r.id with
  | some r => some (r.id, false)
  | none =>
    match cs.find? (s.opMeets op l) with
    | some r => some (r.id, false)
    | none => cs.head?.map fun r => (r.id, true)

/-- Own lanes in ascending order of their keys (R91). -/
def BookOp.byKey (op : BookOp) (ls : List LaneIx) : List LaneIx :=
  ls.insertionSort fun a b =>
    keyLe (offset op.n (op.lanes[a].rref.getD 0), 0, a.val) (offset op.n (op.lanes[b].rref.getD 0), 0, b.val) = true

/-! ## Steps 4 and 5: refresh, migration and placement (R91 to R96) -/

/-- An own entry refreshed: bins, size, R_ref and LATE from the values read at the start (R94). -/
def State.refreshEntry (s : State) (op : BookOp) (e : Entry) : Entry :=
  if e.own then
    let rd := op.lanes[e.lane]
    let cfg := (s.lane e.lane).cfg
    { e with bins := rd.need, size := rd.need * cfg.slot, rref := rd.rref.getD e.rref,
             late := !meetsDeadline ((op.runRec e.run).bind fun r => r.stopOf (bankOf e.lane)) rd.rref cfg.safety }
  else e

/-- The own entry of a lane in the work. -/
def Work.ownEntry (w : Work) (l : LaneIx) : Option Entry := w.entries.find? fun e => e.own && e.lane == l

/-- The work without the own entry of a lane. -/
def Work.withoutOwn (w : Work) (l : LaneIx) : Work := ⟨w.entries.filter fun e => !(e.own && e.lane == l), w.full⟩

/-- The choice of a WAITING lane is run again with its entry taken out; another run chosen is a migration, which inserts
the entry anew and so sets its last-heard time (R73, R85, R96). The book that this insertion finds is the one without
the entry taken out, so a book of 48 is not full at it and nothing is evicted (notes/assumptions/31.md). -/
def State.rechoose (s : State) (op : BookOp) (w : Work) (l : LaneIx) : Work :=
  match w.ownEntry l with
  | none => w
  | some e =>
    match s.chooseRun op (w.withoutOwn l) l with
    | none => w
    | some (run, late) =>
      if run = e.run then w
      else
        insertOwn s.start.role.bookCapacity op.n (w.withoutOwn l)
          { e with run := run, late := late, heard := s.start.clock }

/-- The lanes whose choice is run again: WAITING with a claim on a run read as PLANNING (R96). -/
def BookOp.waitingLanes (op : BookOp) (w : Work) : List LaneIx :=
  op.byKey (allLanes.filter fun l =>
    op.lanes[l].call == .waiting &&
      ((w.ownEntry l).any fun e => (op.runRec e.run).any fun r => r.state == .planning))

/-- Step 4: a refresh refreshes every own entry and runs the choice of WAITING lanes again (R94, R96). -/
def State.refreshStep (s : State) (op : BookOp) (w : Work) : Work :=
  if op.refresh then
    let w1 : Work := ⟨w.entries.map (s.refreshEntry op), w.full⟩
    (op.waitingLanes w1).foldl (s.rechoose op) w1
  else w

/-- The claim of a CALLING lane is placed on the run chosen, if there is one (R91, R93). -/
def State.placeClaim (s : State) (op : BookOp) (w : Work) (l : LaneIx) : Work :=
  match s.chooseRun op w l with
  | none => w
  | some (run, late) => insertOwn s.start.role.bookCapacity op.n w (s.claimOn op l run late)

/-- The lanes that are CALLING after step 3, most urgent first (R89, R91). -/
def BookOp.callingLanes (op : BookOp) : List LaneIx :=
  op.byKey (allLanes.filter fun l => (op.lanes[l].call == .quiet || op.lanes[l].call == .calling) && op.lanes[l].cond)

/-- The work of an operation on the book as it stood at its start, in the order of R80. -/
def State.opWork (s : State) (op : BookOp) : Work :=
  let role := s.start.role
  let w3 := op.turnOff (op.dropOutOfScope role (op.replaceSender role ⟨op.entries, 0⟩))
  op.callingLanes.foldl (s.placeClaim op) (s.refreshStep op w3)

/-! ## The start of an operation (R79) -/

/-- The capacity copies at an operation start: a run read as PLANNING is copied anew, a run that has left PLANNING keeps
its copy, and the copy of a run not in the list is dropped; in TRAIN role the own PLANNING run's profile capacities
(R79). -/
def State.newCopies (s : State) : List (RunId × Caps) :=
  match s.start.role with
  | .train => (s.planner.planning.map fun r => (r.id, s.prof.caps)).toList
  | _ =>
    s.runs.filterMap fun r =>
      if r.state = .planning then some (r.id, r.caps) else s.book.copies.find? fun c => c.1 == r.id

/-- What the operation reads of a lane; an absent lane takes no part (R19, R79). -/
def LaneRec.read (r : LaneRec) : LaneRead :=
  ⟨r.call, r.cond, r.forecast.map Forecast.rref, r.b, r.need⟩

/-- An operation starts: the pending mark is cleared, a refresh that is due is taken up, the inputs are read and kept
and the capacity copies set (R79). -/
def State.startOp (s : State) (cs : Option ClaimSet) : State :=
  let op : BookOp :=
    { claimset := cs, refresh := s.book.refreshDue, n := s.line.n, runs := s.runs,
      planning := s.planner.planning.map Run.id, lanes := Vector.ofFn fun l => (s.lane l).read,
      entries := s.book.entries }
  { s.mapLanes fun _ r => { r with moved := false } with
    book.op := some op, book.pendingMark := false, book.refreshDue := false, book.copies := s.newCopies }

/-- The requests made in an event are taken up at its end: an idle book starts an operation, a busy book sets the pending
mark, or the refresh-due mark for a refresh (R78, R95). -/
def State.takeRequests (s : State) : State :=
  let t := { s with book.asked := false, book.askedRefresh := false,
                    book.refreshDue := s.book.refreshDue || s.book.askedRefresh }
  if s.book.asked || s.book.askedRefresh then
    if s.busy then { t with book.pendingMark := s.book.pendingMark || s.book.asked } else t.startOp none
  else t

/-- The end of an event: its requests to the book are taken up and AT-RISK is derived again (R78, R149;
notes/assumptions/6.md). -/
def State.endEvent (s : State) : State := s.takeRequests.refreshRisk

/-- At a completion, when no CLAIMSET is handed over, a mark starts the next operation (R78). -/
def State.startIfMarked (s : State) : State :=
  if !s.busy && (s.book.pendingMark || s.book.refreshDue) then s.startOp none else s

/-- A CLAIMSET handed to the idle book starts an operation, or is discarded when its items do not match its count (R83). -/
def State.takeClaimset (s : State) (src : Byte) (payload : List Byte) : State :=
  match readClaimset src payload with
  | some cs => s.startOp (some cs)
  | none => s

/-! ## The completion (R81, R93, R97) -/

/-- The own PLANNING run read at the start is no longer PLANNING: load lock came during the operation (R81). -/
def State.lockedSince (s : State) (op : BookOp) : Bool :=
  s.start.role == .train && op.planning.isSome && s.planner.planning.map Run.id != op.planning

/-- The entry comes from the operation's own CLAIMSET. -/
def BookOp.inserted (op : BookOp) (e : Entry) : Bool := !e.own && op.claimset.any fun cs => cs.sender == e.station

/-- The operation's entries merged with what other blocks did since the start: an own entry of a lane moved since stays
away, and so does a peer entry removed since, unless the CLAIMSET inserted it anew (R81). -/
def State.mergeEntries (s : State) (op : BookOp) (w : Work) : List Entry :=
  (w.entries.filter fun e =>
      if e.own then !(s.lane e.lane).moved else op.inserted e || s.book.entries.any fun x => x.sameLane e).map
    fun e => if op.inserted e then { e with heard := s.start.clock } else e

/-- The result of the operation for an own lane: its entry's mark, or CALLING or QUIET by the condition read (R89, R93).
A lane that becomes QUIET loses its short record (R139). -/
def LaneRec.result (r : LaneRec) (own : Option Entry) (cond : Bool) : LaneRec :=
  match own with
  | some e =>
    { r with call := if e.admitted then .admitted else .waiting, claimRun := some e.run, requested := e.bins,
             late := e.late }
  | none =>
    if cond then { r with call := .calling, claimRun := none, requested := 0, late := false }
    else { r with call := .quiet, claimRun := none, requested := 0, late := false, short := none }

/-- The completion applies its result to this lane: present, not moved since the start, and not MANIFESTED or DUE then
(R81, R89). -/
def appliesTo (op : BookOp) (l : LaneIx) (r : LaneRec) : Bool :=
  r.present && !r.moved && !op.lanes[l].call.promised

/-- The claim set item of an own entry (R97). -/
def Entry.item (e : Entry) : ClaimItem :=
  ⟨e.run, e.lane.val, e.stop, e.cls, e.late, e.size, e.bins, e.rref⟩

/-- The own entries as the record of the last claim set holds them, in lane order (R97). -/
def ownItems (es : List Entry) : List ClaimItem :=
  allLanes.filterMap fun l => (es.find? fun e => e.own && e.lane == l).map Entry.item

/-- The CLAIMSET frame of the own entries, in ascending key order against this N, at most 16 items (R97;
notes/assumptions/33.md). -/
def claimsetFrame (n : LineCount) (es : List Entry) : TxFrame :=
  ⟨.claimset, writeClaimset (((sortEntries n (es.filter Entry.own)).take 16).map Entry.item)⟩

/-- The claim set is queued in ACTIVE when it differs from the last one queued, or at a refresh with an own entry
(R97; notes/assumptions/12.md). -/
def State.queueClaims (s : State) (refresh : Bool) : State :=
  let items := ownItems s.book.entries
  if s.isActive && s.start.role == .rack && (items != s.book.lastSet || (refresh && !items.isEmpty)) then
    ({ s with book.lastSet := items } : State).offer (claimsetFrame s.line.n s.book.entries)
  else s

/-- The entries after a completion, before admission: the merge, or the book as load lock left it (R81). -/
def State.completedEntries (s : State) (op : BookOp) : List Entry :=
  if s.lockedSince op then s.book.entries else s.mergeEntries op (s.opWork op)

/-- The operation completes: its results are merged, admission is computed, the own lanes take their states and the
claim set may be queued (R81, R88, R93, R97). The work of R80 is ordered against the N read at the start, the admission
marks and the items of the claim set against N as it stands here (R76, R79; notes/assumptions/33.md). An operation
overtaken by load lock adds nothing to BOOKFULL (notes/assumptions/28.md). -/
def State.finishOp (s : State) (op : BookOp) : State :=
  let es := markAll s.line.n s.book.copies (s.completedEntries op)
  let full := if s.lockedSince op then 0 else (s.opWork op).full
  let t := { s with book.entries := es, book.op := none, cnt.bookfull := sat16 (s.cnt.bookfull + full) }
  let u := t.mapLanes fun l r =>
    if appliesTo op l r then r.result (es.find? fun e => e.own && e.lane == l) op.lanes[l].cond else r
  u.queueClaims op.refresh

/-! ## Ageing and refresh (R86, R95) -/

/-- A peer entry ages out 3 × T_refresh after it was last heard; the removal is a request (R86). -/
def State.ageEntry (s : State) (station : Nat) (lane : LaneIx) : State :=
  let old := fun (e : Entry) => !e.own && e.station == station && e.lane == lane
  match s.book.entries.find? old with
  | some e =>
    if s.due (some (e.heard + 3 * s.prof.tRefresh)) then
      ({ s with book.entries := s.book.entries.filter fun x => !old x } : State).ask
    else s
  | none => s

/-- The refresh timer of the claim book expires: it restarts and a refresh is requested (R95;
notes/assumptions/21.md). -/
def State.bookRefresh (s : State) : State :=
  if s.due s.book.refresh then ({ s with book.refresh := some (s.deadline s.prof.tRefresh) } : State).askRefresh else s

end Sys2Proof.Machine
end

