-- ==== Sys2Proof/Machine/Notices.lean ====
section
/-! DEFINITION. The notice list and the acknowledge button of a TRAIN station (Section 8.6). -/

namespace Sys2Proof.Machine

/-- The priority of a kind, 1 the highest (R159). -/
def NoticeKind.priority : NoticeKind → Nat
  | .short => 1
  | .missing => 2
  | .late => 3
  | .offroute => 4
  | .refused => 5
  | .overflow => 6

/-- A count of notices is held at 255 (R159, R160). -/
def sat8 (n : Nat) : Nat := min n 255

/-- The same kind and station field (R159). -/
def Notice.sameAs (a : Notice) (kind : NoticeKind) (station : Nat) : Bool := a.kind == kind && a.station == station

/-- The lowest priority in a list: the largest priority number. -/
def lowestPriority (ns : List Notice) : Nat := (ns.map fun x => x.kind.priority).foldl max 0

/-- The most recently placed notice with this priority. -/
def lastOf (p : Nat) (ns : List Notice) : Option Notice := ns.reverse.find? fun x => x.kind.priority == p

/-- The list without the most recently placed notice with this priority. -/
def dropLastOf (p : Nat) (ns : List Notice) : List Notice :=
  (ns.reverse.eraseP fun x => x.kind.priority == p).reverse

/-- A notice is raised: merged, placed, displacing one of lower priority, or dropped (R160). -/
def Panel.raise (p : Panel) (clock : Nat) (kind : NoticeKind) (station lane : Nat) : Panel :=
  let new : Notice := ⟨kind, station, lane, 1, clock⟩
  let low := lowestPriority p.notices
  if p.notices.any fun x => x.sameAs kind station then
    { p with notices := p.notices.map fun x =>
        if x.sameAs kind station then { x with count := sat8 (x.count + 1), lane := lane } else x }
  else if p.notices.length < 8 then { p with notices := p.notices ++ [new] }
  else if kind.priority < low then
    let lost := match lastOf low p.notices with
      | some x => if x.kind = .overflow then x.count + 1 else 1
      | none => 1
    { p with notices := dropLastOf low p.notices ++ [new], lost := sat8 (p.lost + lost) }
  else { p with lost := sat8 (p.lost + 1) }

/-- A notice is raised at the station clock (R159, R160). -/
def State.raise (s : State) (kind : NoticeKind) (station lane : Nat) : State :=
  { s with panel := s.panel.raise s.start.clock kind station lane }

/-- The notice shown: of highest priority, and among those the one placed earliest (R161). -/
def shownNotice (ns : List Notice) : Option Notice :=
  ns.find? fun x => ns.all fun y => decide (x.kind.priority ≤ y.kind.priority)

/-- Lost notices take the place an acknowledge frees: into the OVERFLOW notice, or as a new one (R161). -/
def Panel.placeLost (p : Panel) (clock : Nat) : Panel :=
  if p.lost = 0 then p
  else if p.notices.any fun x => x.kind == .overflow then
    { p with lost := 0, notices := p.notices.map fun x =>
        if x.kind = .overflow then { x with count := sat8 (x.count + p.lost) } else x }
  else { p with lost := 0, notices := p.notices ++ [⟨.overflow, 0, 0, p.lost, clock⟩] }

/-- The shown notice is removed and the lost count used (R161). -/
def Panel.acknowledge (p : Panel) (clock : Nat) (shown : Notice) : Panel :=
  ({ p with notices := p.notices.erase shown } : Panel).placeLost clock

end Sys2Proof.Machine
end

