-- ==== Sys2Proof/Machine/Planner.lean ====
section
/-! DEFINITION. The run planner of a TRAIN station (Section 6): runs and their opening, departures and arrivals,
arrival estimates, RUN notices, the manifest and the stop log. -/

namespace Sys2Proof.Machine

/-! ## Slots and the route -/

/-- The lead run: the current run, or the PLANNING run when there is none (R103). -/
def Planner.lead (p : Planner) : Option Run := p.current.or p.planning

/-- The place of a stop in the route (R101). -/
def State.routeIx (s : State) (stop : Nat) : Option Nat := s.prof.route.findIdx? fun x => x.stop == stop

/-- The travel time of a route stop (R101). -/
def State.travelTo (s : State) (stop : Nat) : Nat :=
  match s.prof.route.find? fun x => x.stop == stop with
  | some x => x.time
  | none => 0

/-- The stop is on the route with this served flag in the run. -/
def State.routeServed (s : State) (r : Run) (stop : Nat) : Option Bool :=
  (s.routeIx stop).map fun i => r.served.getD i false

/-- The served flag of a stop is set in a run (R112, R115). -/
def State.setServed (s : State) (r : Run) (stop : Nat) : Run :=
  match s.routeIx stop with
  | some i => { r with served := r.served.set i true }
  | none => r

/-- The current run is replaced. -/
def State.setCurrent (s : State) (r : Run) : State := { s with planner.current := some r }

/-- An outstanding entry: OPEN or SHORT (R109). -/
def ManifestEntry.outstanding (e : ManifestEntry) : Bool := e.status != .done

/-- The manifest holds an outstanding entry for the stop (R109, R114). -/
def State.outstandingAt (s : State) (stop : Nat) : Bool :=
  s.planner.manifest.any fun e => e.stop == stop && e.outstanding

/-! ## Arrival estimates (R119, R120) -/

/-- Rounding up a quotient. -/
def ceilDiv (x y : Nat) : Nat := (x + y - 1) / y

/-- The offset of an arrival a time Δt ahead: held to 65535 timer units and to 1023 units (R120). -/
def State.etaSteps (s : State) (dt : Nat) : Nat := min 1023 (ceilDiv (min dt 65535) s.line.takt)

/-- The time until the arrival at a stop of the current run (R119). -/
def State.currentDelay (s : State) (r : Run) (stop : Nat) : Nat :=
  match r.state with
  | .loading => max s.start.clock (r.loadMark + s.prof.loadTime) + s.travelTo stop - s.start.clock
  | _ => s.travelTo stop - s.planner.e

/-- The departure estimate of the PLANNING run (R119). -/
def State.departureEstimate (s : State) (r : Run) : Nat :=
  let now := s.start.clock
  match s.planner.current with
  | some _ => now + (s.prof.tReturn - s.planner.e) + s.prof.loadTime
  | none =>
    match s.planner.closeTime with
    | some c => max now (c + s.prof.loadTime)
    | none => max now (r.opened + s.prof.loadTime)

/-- The time until the arrival at a stop of the PLANNING run (R119). -/
def State.planningDelay (s : State) (r : Run) (stop : Nat) : Nat :=
  s.departureEstimate r + s.travelTo stop - s.start.clock

/-- The time until the arrival at a stop of a held run. -/
def State.delay (s : State) (r : Run) (stop : Nat) : Nat :=
  if r.state = .planning then s.planningDelay r stop else s.currentDelay r stop

/-! ## RUN notices (R121, R122) -/

/-- The stop items of a run's notice: a served stop, and every stop of a CLOSED notice, is announced at N (R120, R121). -/
def State.noticeStops (s : State) (r : Run) (closed : Bool) : List StopItem :=
  (s.prof.route.zip r.served).map fun x =>
    let steps := if closed || x.2 then 0 else s.etaSteps (s.delay r x.1.stop)
    ⟨x.1.stop, x.2, s.line.n + BitVec.ofNat 16 steps⟩

/-- The RUN notice of a run, built with the estimates of the moment (R121). -/
def State.runFrame (s : State) (r : Run) (closed : Bool) : TxFrame :=
  ⟨.run, writeRun ⟨r.id, if closed then .closed else .heldAs r.state, s.prof.caps, s.noticeStops r closed⟩⟩

/-- The run planner queues RUN notices and MANIFEST parts in ACTIVE with a followed pacer alone (R122, R123). -/
def State.announces (s : State) : Bool := s.isActive && s.synced

/-- A RUN notice for a run is queued (R122). -/
def State.announce (s : State) (r : Run) (closed : Bool) : State :=
  if s.announces then s.offer (s.runFrame r closed) else s

/-- A RUN notice is queued for a run if the slot holds one. -/
def State.announceSlot (s : State) (slot : Option Run) : State :=
  match slot with
  | some r => s.announce r false
  | none => s

/-- A RUN notice is queued for each run held, the current run first (R122). -/
def State.announceAll (s : State) : State :=
  (s.announceSlot s.planner.current).announceSlot s.planner.planning

/-! ## MANIFEST parts (R123) -/

/-- The number of parts of a manifest: the larger of 1 and a part for each eight entries begun (R123). -/
def partCount (entries : Nat) : Nat := max 1 (ceilDiv entries 8)

/-- Part `i` of a manifest (R123). -/
def manifestFrame (id : RunId) (m : List ManifestEntry) (i : Nat) : TxFrame :=
  ⟨.manifest, writePart ⟨id, i, partCount m.length,
    ((m.drop (8 * i)).take 8).map fun e => ⟨e.station, e.lane.val, e.stop, e.bins⟩⟩⟩

/-- The parts of the current run are queued in index order (R123). -/
def State.queueParts (s : State) (r : Run) : State :=
  if s.announces then
    (List.range (partCount s.planner.manifest.length)).foldl
      (fun t i => t.offer (manifestFrame r.id s.planner.manifest i)) s
  else s

/-! ## Opening (R106) -/

/-- The conditions for opening a PLANNING run (R106). -/
def State.mayOpen (s : State) : Bool :=
  s.start.role == .train && s.isActive && s.synced && s.planner.planning.isNone &&
    !(s.planner.current.any fun r => r.state == .loading)

/-- The run opened now: it takes the next run number (R100). Its REVISIT mark is clear before an arrival and its load mark 0
before LOAD (notes/assumptions/29.md). -/
def State.openedRun (s : State) : Run :=
  { id := s.ownByte ++ s.planner.nextRun, state := .planning, served := s.prof.route.map fun _ => false,
    present := none, revisit := false, loadMark := 0, holdStart := none, opened := s.start.clock }

/-- A PLANNING run is opened when the conditions hold; the claim book is asked (R106). The notices that go with it are
queued by the event that opens it. -/
def State.openRun (s : State) : State :=
  if s.mayOpen then
    ({ s with planner.planning := some s.openedRun, planner.nextRun := s.planner.nextRun + 1 } : State).ask
  else s

/-- A PLANNING run is opened when the conditions hold, with a RUN notice for each run held (R106). -/
def State.openAndAnnounce (s : State) : State := if s.mayOpen then s.openRun.announceAll else s

/-! ## Load lock (R105, R117) -/

/-- The manifest entry of a claim entry (R117). -/
def Entry.manifestEntry (e : Entry) : ManifestEntry :=
  { station := e.station, lane := e.lane, stop := e.stop, cls := e.cls, size := e.size, bins := e.bins, late := e.late,
    delivered := 0, status := .pending }

/-- The manifest built from the admitted entries of the run, in key order: entries off the route are passed over and the
first 32 others taken (R117). -/
def State.buildManifest (s : State) (run : RunId) : List ManifestEntry :=
  (((sortEntries s.line.n (s.book.entries.filter fun e => e.run == run && e.admitted)).filter
      fun e => (s.routeIx e.stop).isSome).take 32).map Entry.manifestEntry

/-- A LATE notice for each LATE manifest entry, in manifest order (R105). -/
def State.raiseLate (s : State) : State :=
  s.planner.manifest.foldl (fun t e => if e.late then t.raise .late e.station e.lane.val else t) s

/-- Load lock of the PLANNING run, in the order of R105; the PICK index is set to 1 (R158). -/
def State.loadLock (s : State) (r : Run) : State :=
  let run := { r with state := .loading, loadMark := s.start.clock }
  let t := { s with planner.manifest := s.buildManifest r.id, planner.current := some run, planner.planning := none,
                    planner.e := 0, book.entries := [], panel.pick := 1 }
  (t.raiseLate.queueParts run).announce run false

/-- A press the table refuses: a REFUSED notice naming the button (R104). -/
def State.refuse (s : State) (button : Nat) : State := s.raise .refused 0 button

/-- A press of LOAD taken against the lead run (R103, R105). -/
def State.pressLoad (s : State) : State :=
  match s.planner.lead with
  | some r => if r.state = .planning then s.loadLock r else s.refuse 0
  | none => s.refuse 0

/-! ## Departures (R107, R112, R115, R125) -/

/-- A stop log entry at a departure: the departure time, and the receipt timer when a station is still to be heard
(R125). -/
def State.departLog (s : State) (e : LogEntry) : LogEntry :=
  { e with departed := some s.start.clock,
           timer := if e.expected.any fun x => !e.heard.contains x then .running (s.deadline s.prof.tReceipt) else .stopped }

/-- The stop log with its newest entry, the entry of the present visit, departed (R125). -/
def State.departLogs (s : State) : List LogEntry :=
  match s.planner.log.reverse with
  | e :: rest => (s.departLog e :: rest).reverse
  | [] => []

/-- The departure of a run from its present stop into this state: DEPART, served flag, stop log, then RUN notices
(R112, R115; notes/assumptions/24.md). -/
def State.departPresent (s : State) (r : Run) (next : RunState) : State :=
  match r.present with
  | some stop =>
    let t := s.offer ⟨.depart, writeDepart ⟨r.id, stop⟩⟩
    let run :=
      { s.setServed r stop with state := next, present := none, revisit := r.revisit && next != .enroute }
    ({ t with planner.current := some run, planner.log := s.departLogs } : State).announceAll
  | none => s

/-- The departure from the supermarket: ENROUTE with E 0, a PLANNING run opened, and RUN notices (R107). -/
def State.departSupermarket (s : State) (r : Run) : State :=
  ({ s with planner.current := some { r with state := .enroute }, planner.e := 0 } : State).openRun.announceAll

/-- A press of GO taken against the lead run (R103). -/
def State.pressGo (s : State) : State :=
  match s.planner.lead with
  | some r =>
    match r.state with
    | .loading => s.departSupermarket r
    | .atstop => s.departPresent r .enroute
    | .detour => s.departPresent r .held
    | _ => s.refuse 1
  | none => s.refuse 1

/-- A press of HOLD taken against the lead run (R103, R113). -/
def State.pressHold (s : State) : State :=
  match s.planner.lead with
  | some r =>
    match r.state with
    | .enroute => (s.setCurrent { r with state := .held, holdStart := some s.start.clock }).announceAll
    | .held => (s.setCurrent { r with state := .enroute, holdStart := none }).announceAll
    | _ => s.refuse 2
  | none => s.refuse 2

/-! ## Arrivals (R108 to R116, R124) -/

/-- The stations with an outstanding manifest entry for a stop, in ascending order (R124). -/
def State.expectedAt (s : State) (stop : Nat) : List Nat :=
  (List.range 256).filter fun a =>
    s.planner.manifest.any fun e => e.station == a && e.stop == stop && e.outstanding

/-- The stop log with an entry for an arrival: a 17th entry discards the oldest (R124). -/
def State.logArrival (s : State) (r : Run) (stop : Nat) (kind : VisitKind) : List LogEntry :=
  let entry : LogEntry :=
    { runNumber := loByte r.id, stop, kind, departed := none, expected := s.expectedAt stop, heard := [],
      timer := .stopped }
  let log := s.planner.log ++ [entry]
  if 16 < log.length then log.drop 1 else log

/-- An arrival at a stop into ATSTOP or DETOUR: present stop and REVISIT mark, E, the stop log entry, the ARRIVE and then
RUN notices; the STOP index is set to 1 (R108, R109, R114, R158). -/
def State.arriveAt (s : State) (r : Run) (stop : Nat) (kind : VisitKind) (revisit : Bool) : State :=
  let detour := kind = .detour
  let run := { r with state := if detour then .detour else .atstop, present := some stop, revisit := revisit }
  let t := { s with planner.current := some run,
                    planner.e := if detour then s.planner.e else max s.planner.e (s.travelTo stop),
                    planner.log := s.logArrival r stop kind, panel.stopIx := 1 }
  (t.offer ⟨.arrive, writeArrive ⟨r.id, stop, detour, revisit⟩⟩).announceAll

/-- The close of the run at the supermarket: the CLOSED notice, the slot emptied, E 0, a PLANNING run opened if there is
none, and its notice (R110). -/
def State.closeRun (s : State) (r : Run) : State :=
  let t := s.announce r true
  ({ t with planner.current := none, planner.e := 0, planner.closeTime := some s.start.clock } : State).openRun.announceAll

/-- A strobe off the route: an OFFROUTE notice carrying the stop code (R111, R114). -/
def State.offRoute (s : State) (stop : Nat) : State := s.raise .offroute stop 0

/-- An arrival strobe taken while ENROUTE (R108 to R111). -/
def State.strobeEnroute (s : State) (r : Run) (stop : Nat) : State :=
  if stop = 0 then s.closeRun r
  else
    match s.routeServed r stop with
    | some false => s.arriveAt r stop .first false
    | some true => if s.outstandingAt stop then s.arriveAt r stop .revisit true else s.offRoute stop
    | none => s.offRoute stop

/-- An arrival strobe taken while HELD (R114). -/
def State.strobeHeld (s : State) (r : Run) (stop : Nat) : State :=
  if s.outstandingAt stop then s.arriveAt r stop .detour ((s.routeServed r stop).getD false) else s.offRoute stop

/-- An arrival strobe taken in the state a departure has left (R116). -/
def State.strobeAfterDeparture (s : State) (stop : Nat) : State :=
  match s.planner.current with
  | some r =>
    match r.state with
    | .enroute => s.strobeEnroute r stop
    | .held => s.strobeHeld r stop
    | _ => s
  | none => s

/-- An arrival strobe taken against the lead run (R103, R108 to R116). -/
def State.takeStrobe (s : State) (stop : Nat) : State :=
  match s.planner.lead with
  | some r =>
    match r.state with
    | .planning | .loading => s
    | .enroute => s.strobeEnroute r stop
    | .held => s.strobeHeld r stop
    | .atstop => (s.departPresent r .enroute).strobeAfterDeparture stop
    | .detour => (s.departPresent r .held).strobeAfterDeparture stop
  | none => s

/-- The stop code of a strobe: the accepted STOP value. The manual states none while no two samples of STOP have agreed
since the start; it is then a free value (R102; notes/assumptions/4.md). -/
def State.stopCode (s : State) : BitVec 5 × State :=
  match s.planner.stopIn.acc with
  | some v => (v, s)
  | none => (s.takeFree.1.setWidth 5, s.takeFree.2)

/-- An arrival strobe with the accepted stop code (R102). -/
def State.strobe (s : State) : State := s.stopCode.2.takeStrobe s.stopCode.1.toNat

/-! ## Refresh and elapsed travel (R118, R122) -/

/-- The expiry of the run planner's refresh timer: the current run's notice, its MANIFEST parts, the PLANNING run's
notice, and the timer again (R122, R123). -/
def State.plannerRefresh (s : State) : State :=
  if s.due s.planner.refresh then
    let t := { s with planner.refresh := some (s.deadline s.prof.tRefresh) }
    let u := match s.planner.current with
      | some r => (t.announce r false).queueParts r
      | none => t
    u.announceSlot s.planner.planning
  else s

/-- E rises at a timer unit while the current run is ENROUTE, ATSTOP or DETOUR, saturating at 65535 (R118). -/
def Planner.elapse (p : Planner) : Planner :=
  match p.current with
  | some r =>
    match r.state with
    | .enroute | .atstop | .detour => { p with e := sat16 (p.e + 1) }
    | _ => p
  | none => p

/-! ## Receipts (Section 7.5) -/

/-- The RECEIPT answers this stop log entry: run number, stop, and a departure time set (R142). -/
def LogEntry.answers (e : LogEntry) (run : RunId) (stop : Nat) : Bool :=
  e.runNumber == loByte run && e.stop == stop && e.departed.isSome

/-- A source heard in a stop log entry: an expected source joins the heard set, and the receipt timer stops when every
expected station is heard (R142). -/
def LogEntry.hear (e : LogEntry) (src : Nat) : LogEntry :=
  if e.expected.contains src then
    let heard := e.expected.filter fun x => e.heard.contains x || x == src
    let all := e.expected.all fun x => heard.contains x
    { e with heard := heard,
             timer := match e.timer with
               | .running d => if all then .stopped else .running d
               | t => t }
  else e

/-- The log with the source heard in the most recent entry that the RECEIPT answers (R142). -/
def hearLog (log : List LogEntry) (run : RunId) (stop src : Nat) : List LogEntry :=
  match log.reverse.find? fun e => e.answers run stop with
  | some e => (replaceFirst (fun x => x.answers run stop) (e.hear src) log.reverse).reverse
  | none => log

/-- A manifest entry after a receipt item: the delivered count, and DONE when it covers the bins (R143). -/
def ManifestEntry.receipted (e : ManifestEntry) (i : ReceiptItem) : ManifestEntry :=
  let delivered := sat8 (i.delivered + (e.bins - i.requested))
  { e with delivered := delivered, status := if e.bins ≤ delivered then .done else .short }

/-- The manifest entry a receipt item reports (R143). -/
def ManifestEntry.matches (e : ManifestEntry) (src stop : Nat) (i : ReceiptItem) : Bool :=
  e.station == src && e.lane.val == i.lane && e.stop == stop

/-- A receipt item is applied to the manifest: no entry discards it, a DONE entry passes it over, and a SHORT result
raises a notice (R143). -/
def State.applyReceiptItem (src stop : Nat) (s : State) (i : ReceiptItem) : State :=
  match s.planner.manifest.find? fun e => e.matches src stop i with
  | none => s
  | some e =>
    if e.status = .done then s
    else
      let new := e.receipted i
      let t := { s with
        planner.manifest :=
          replaceFirst (fun x => x.matches src stop i) new s.planner.manifest }
      if new.status = .short then t.raise .short src i.lane else t

/-- A RECEIPT handed to the delivery unit of a train (R141 to R143). -/
def State.takeReceipt (s : State) (src : Byte) (payload : List Byte) : State :=
  match readReceipt payload with
  | none => s
  | some r =>
    if trainOf r.id = s.ownByte ∧ 1 ≤ r.stop ∧ r.stop ≤ 31 then
      let t := { s with planner.log := hearLog s.planner.log r.id r.stop src.toNat }
      if s.planner.current.any fun c => c.id == r.id then
        r.items.foldl (State.applyReceiptItem src.toNat r.stop) t
      else t
    else s

/-- The expiry of the receipt timer of a stop log entry: a MISSING notice for each expected station not heard, in
ascending order (R144). -/
def State.receiptExpiry (s : State) (i : Nat) : State :=
  match s.planner.log[i]? with
  | some e =>
    match e.timer with
    | .running d =>
      if s.due (some d) then
        let t := { s with planner.log := s.planner.log.set i { e with timer := .expired } }
        (e.expected.filter fun x => !e.heard.contains x).foldl (fun u x => u.raise .missing x e.stop) t
      else s
    | _ => s
  | none => s

end Sys2Proof.Machine
end

