-- ==== Sys2Proof/Machine/Line.lean ====
section
/-! DEFINITION. The line clock (Section 1): the pacer side, following a pacer, advances, gaps and resyncs, and the
sequence window. -/

namespace Sys2Proof.Machine

/-! ## UNIT notices (R4) -/

/-- The UNIT notice of the pacer: N_local, the measured takt and the variant record (R4). -/
def Pacer.notice (p : Pacer) : UnitNotice :=
  { n := p.nLocal, takt := BitVec.ofNat 16 p.measured, v3 := p.record.v3.setWidth 8, v2 := p.record.v2.setWidth 8,
    v1 := p.record.v1.setWidth 8, v0 := p.record.v0.setWidth 8 }

/-- A UNIT notice is queued, which restarts the keepalive timer (R4), also where the transmit queue does not accept or
drops it (notes/assumptions/25.md). -/
def State.queueUnit (s : State) : State :=
  ({ s with pacer.keepalive := some (s.deadline s.prof.tKeep) } : State).offer ⟨.unit, writeUnit s.pacer.notice⟩

/-- The follower side is set to the pacer's own count (R6). -/
def State.followOwn (s : State) : State :=
  { s with line.n := s.pacer.nLocal, line.takt := s.pacer.measured }

/-- Entry to pacer state ACTIVE (R6): F is the own address, the follower side holds the own count and is TRACKING
without a silence timer, and a UNIT notice is queued. -/
def State.enterActive (s : State) : State :=
  ({ s with pacer.state := .active, line.followed := some s.ownByte, line.state := .tracking,
            line.silence := none } : State).followOwn.queueUnit

/-! ## Takt edges (R3) -/

/-- The variant of a new unit: the accepted VARIANT when the accepted VALID is high, the EMPTY PITCH when it is low (R3).
The manual states none while an input it reads has no accepted level; it is then a free value (R2;
notes/assumptions/4.md). -/
def State.edgeVariant (s : State) : Variant × State :=
  match s.pacer.validIn.acc, s.pacer.variantIn.acc with
  | some false, _ => (63, s)
  | some true, some v => (v, s)
  | _, _ => (s.takeFree.1.setWidth 6, s.takeFree.2)

/-- The variant record takes a new unit and the oldest leaves (R3). -/
def VariantRecord.push (r : VariantRecord) (v : Variant) : VariantRecord := ⟨r.v2, r.v1, r.v0, v⟩

/-- The measured takt at an edge: the time since the previous edge held to takt_min..takt_max, or takt_nom at the first
edge after a start (R3). -/
def State.measure (s : State) : Nat :=
  match s.pacer.prevEdge with
  | some t => max s.prof.taktMin (min s.prof.taktMax (s.start.clock - t))
  | none => s.prof.taktNom

/-- A takt edge counted and recorded with this variant (R3). -/
def State.countEdge (s : State) (v : Variant) : State :=
  { s with pacer.nLocal := s.pacer.nLocal + 1, pacer.record := s.pacer.record.push v, pacer.measured := s.measure,
           pacer.prevEdge := some s.start.clock }

/-- A takt edge: counted in every pacer state, and in ACTIVE it sets the follower side and queues a UNIT notice (R3, R4,
R6). -/
def State.edge (s : State) : State :=
  let t := s.edgeVariant.2.countEdge s.edgeVariant.1
  if s.pacer.state = .active then t.followOwn.queueUnit else t

/-- The expiry of the keepalive timer of an ACTIVE pacer (R4). -/
def State.keepaliveExpiry (s : State) : State :=
  if s.pacer.state = .active ∧ s.due s.pacer.keepalive then s.queueUnit else s

/-! ## The sequence window (R16 to R18) -/

/-- A heard variant byte: 0..63 stands for that variant, above 63 for UNKNOWN (R10). -/
def heardVariant (x : Byte) : Option Variant := if x.toNat ≤ 63 then some (x.setWidth 6) else none

/-- The four heard variants, oldest first. -/
def UnitNotice.heard (u : UnitNotice) : List (Option Variant) :=
  [heardVariant u.v3, heardVariant u.v2, heardVariant u.v1, heardVariant u.v0]

/-- The entries of the `k` newest units of a notice: the last four take the heard variants, those before them are
UNKNOWN, and with fewer than four the oldest heard variants are dropped (R12, R17). -/
def UnitNotice.newest (u : UnitNotice) (k : Nat) : List (Option Variant) :=
  List.replicate (k - 4) none ++ u.heard.drop (4 - k)

/-- The window is set up from a heard frame, in RACK role: P entries, nothing consumed; every present lane is forecast
(R11, R13, R17). -/
def State.buildWindow (s : State) (u : UnitNotice) : State :=
  if s.start.role = .rack then ({ s with line.window := u.newest s.prof.p } : State).forecastAll else s

/-- An advance of the window by d in RACK role: the joining entries, then the leaving entries handed for consumption,
then a forecast of every present lane (R12, R18, R34). -/
def State.advanceWindow (s : State) (u : UnitNotice) (d : Nat) : State :=
  if s.start.role = .rack then
    let w := s.line.window ++ u.newest d
    (({ s with line.window := w.drop d } : State).consumeUnits (w.take d)).forecastAll
  else s

/-! ## Following (R9 to R14) -/

/-- The heard takt period held to 10..1200 (R10). -/
def clampTakt (t : BitVec 16) : Nat := max 10 (min 1200 t.toNat)

/-- What every processed frame does: the takt period, TRACKING, and the silence timer again (R9, R10, R14). -/
def State.hearPacer (s : State) (u : UnitNotice) : State :=
  { s with line.takt := clampTakt u.takt, line.state := .tracking, line.silence := some (s.deadline s.prof.tSilence) }

/-- Adoption (R11); in TRAIN role the first adoption may open a PLANNING run (R106). -/
def State.adopt (s : State) (u : UnitNotice) : State :=
  ((({ s with line.n := u.n } : State).hearPacer u).buildWindow u).openAndAnnounce

/-- The advance test: keepalive, advance with its gap, or resync (R12, R13). -/
def State.advanceTest (s : State) (u : UnitNotice) : State :=
  let d := (u.n - s.line.n).toNat
  let t := s.hearPacer u
  if d = 0 then t
  else if d ≤ 255 then
    ({ t with line.n := u.n, cnt.gap := sat16 (s.cnt.gap + (d - 4)) } : State).advanceWindow u d
  else ({ t with line.n := u.n, cnt.resync := bump16 s.cnt.resync } : State).buildWindow u

/-- A frame taken from address `src`, which becomes F, is processed (R9). -/
def State.processUnit (s : State) (src : Byte) (u : UnitNotice) : State :=
  let t := { s with line.followed := some src }
  if s.line.state = .unsynced then t.adopt u else t.advanceTest u

/-- The pacer side at a processed UNIT: a pacer in LISTEN or STANDBY is in STANDBY and takes the heard N (R5, R7). -/
def State.standBy (s : State) (u : UnitNotice) : State :=
  if s.start.role = .pacer then { s with pacer.state := .standby, pacer.nLocal := u.n } else s

/-- The follower side takes the frame: F is none, the sender is F or below it, or the clock is STALE (R9). -/
def State.takesFrom (s : State) (src : Byte) : Bool :=
  match s.line.followed with
  | none => true
  | some f => decide (src.toNat ≤ f.toNat) || s.line.state == .stale

/-- A stand-down: the keepalive timer stops and a waiting UNIT is removed (R6, R176). -/
def State.standDown (s : State) : State := ({ s with pacer.keepalive := none } : State).removeUnit

/-- A frame discarded in conflict (R6, R9). -/
def State.conflict (s : State) : State := { s with cnt.conflict := bump16 s.cnt.conflict }

/-- A UNIT frame handed to the follower side (R6, R9). -/
def State.takeUnit (s : State) (src : Byte) (payload : List Byte) : State :=
  match readUnit payload with
  | none => s
  | some u =>
    if s.start.role = .pacer ∧ s.pacer.state = .active then
      if src.toNat < s.own then (s.standDown.standBy u).processUnit src u else s.conflict
    else if s.takesFrom src then (s.standBy u).processUnit src u
    else s.conflict

/-- The expiry of the silence timer: a STANDBY pacer takes over, any other follower that is TRACKING becomes STALE (R7,
R14). -/
def State.silenceExpiry (s : State) : State :=
  if s.due s.line.silence then
    if s.start.role = .pacer ∧ s.pacer.state = .standby then s.enterActive
    else { s with line.state := .stale, line.silence := none }
  else s

end Sys2Proof.Machine
end

