-- ==== Sys2Proof/Machine/Profile.lean ====
section
/-! DEFINITION. The profile image: its bytes, the tests of CHECK and the clamping of its fields (Sections 10.2 and
10.3). -/

namespace Sys2Proof.Machine

/-! ## Bytes of the image -/

/-- A byte of the memory: past its end it reads 0xFF, by the pull-up of CFG_SI (R186; notes/assumptions/14.md). -/
def imgByte (img : List Byte) (i : Nat) : Nat := (img.getD i 0xFF).toNat

/-- A little-endian field of two bytes (Section 0.5). -/
def imgWord (img : List Byte) (i : Nat) : Nat := imgByte img i + 256 * imgByte img (i + 1)

/-- The first `n` bytes of the memory as they are read. -/
def imgTake (img : List Byte) (n : Nat) : List Byte := (List.range n).map fun i => img.getD i 0xFF

/-- The length field L (Section 10.3). -/
def imgLen (img : List Byte) : Nat := imgWord img 4

/-- The image is erased or absent: bytes 0 and 1 read 0xFF (R186). -/
def imgErased (img : List Byte) : Bool := imgByte img 0 == 0xFF && imgByte img 1 == 0xFF

/-- The integrity tests: signature, version, length and CRC (R187). -/
def imgIntact (img : List Byte) : Bool :=
  imgByte img 0 == 0xE5 && imgByte img 1 == 0x16 && imgByte img 2 == 1 &&
    decide (21 ≤ imgLen img ∧ imgLen img ≤ 2048) &&
    (crc (imgTake img (imgLen img - 2))).toNat == imgWord img (imgLen img - 2)

/-- The image role code of a role (R189). -/
def Role.imageCode : Role → Option Nat
  | .rack => some 0
  | .train => some 1
  | .pacer => some 2
  | .unknown => none

/-- The length of the image fits its role block (R189). -/
def imgLenFits (img : List Byte) : Role → Bool
  | .rack => imgLen img == 674
  | .pacer => imgLen img == 21
  | .train =>
    decide (28 ≤ imgLen img ∧ 1 ≤ imgByte img 22 ∧ imgByte img 22 ≤ 24) && imgLen img == 25 + 3 * imgByte img 22
  | .unknown => false

/-! ## Clamping (R188) -/

/-- A field as taken, with how much it adds to the clamped-field count. -/
structure Taken where
  value : Nat
  count : Nat
deriving DecidableEq, Repr

/-- A field with a range: the nearer end of the range, counted, for a value outside it (R188). -/
def clampTo (lo hi v : Nat) : Taken := ⟨max lo (min hi v), if lo ≤ v ∧ v ≤ hi then 0 else 1⟩

/-- A field with a range and a default, which a value of 0 takes without being counted (R188). -/
def clampOr (lo hi dflt v : Nat) : Taken := if v = 0 then ⟨dflt, 0⟩ else clampTo lo hi v

/-- The common block, bytes 6 to 11, as taken, and its count (R188). -/
def readCommon (img : List Byte) : Profile × Nat :=
  let d := clampTo 1 4095 (imgWord img 6)
  let gap := clampTo 1 15 (imgByte img 8)
  let refresh := clampOr 20 100 50 (imgByte img 9)
  let silence := clampOr 30 600 150 (imgWord img 10)
  ({ Profile.blank with d := d.value, gap := gap.value, tRefresh := refresh.value, tSilence := silence.value },
    d.count + gap.count + refresh.count + silence.count)

/-! ## The RACK block (R190) -/

/-- The station fields of the RACK block as taken into a profile, and their count. -/
def readRack (p : Profile) (img : List Byte) : Profile × Nat :=
  let pos := clampTo 1 63 (imgByte img 12)
  let a := clampTo 0 31 (imgByte img 13)
  let b := clampTo 0 31 (imgByte img 14)
  ({ p with p := pos.value, stopA := a.value, stopB := b.value, localA := (imgByte img 15).testBit 0,
            localB := (imgByte img 15).testBit 1 },
    pos.count + a.count + b.count)

/-- The usage table of the lane record at `at0`: variant 2i in bits 0..3 of byte i and variant 2i + 1 in bits 4..7. -/
def readUsage (img : List Byte) (at0 : Nat) : List Nat :=
  (List.range 32).flatMap fun i => [imgByte img (at0 + 9 + i) % 16, imgByte img (at0 + 9 + i) / 16]

/-- The lane record at `at0` of a lane that will be present, as taken, and its count (R190). -/
def readLane (img : List Byte) (at0 : Nat) : LaneCfg × Nat :=
  let q := clampTo 0 999 (imgWord img at0)
  let binsMax := clampTo 1 4 (imgByte img (at0 + 2))
  let startBins := clampTo 0 binsMax.value (imgByte img (at0 + 3))
  let cls := clampTo 0 3 (imgByte img (at0 + 4))
  let slot := clampTo 1 4 (imgByte img (at0 + 5))
  let horizon := clampTo 1 255 (imgByte img (at0 + 6))
  let safety := clampTo 0 15 (imgByte img (at0 + 7))
  let du := clampTo 0 15 (imgByte img (at0 + 8))
  ({ q := q.value, binsMax := binsMax.value, startBins := startBins.value, cls := cls.value, slot := slot.value,
     horizon := horizon.value, safety := safety.value, du := du.value, usage := readUsage img at0 },
    q.count + binsMax.count + startBins.count + cls.count + slot.count + horizon.count + safety.count + du.count)

/-- The place of a lane record in the image (Section 10.3). -/
def laneAt (l : LaneIx) : Nat := 16 + 41 * l.val

/-- The lane will be present: its Q is not 0 and its bank's stop id as clamped is not 0 (R19, R190). -/
def willBePresent (p : Profile) (img : List Byte) (l : LaneIx) : Bool :=
  imgWord img (laneAt l) != 0 && p.stopOf (bankOf l) != 0

/-- The profile part of a lane under a new profile; the record of an absent lane is read by no block (R190). -/
def laneCfg (p : Profile) (img : List Byte) (l : LaneIx) : LaneCfg :=
  if willBePresent p img l then (readLane img (laneAt l)).1 else .blank

/-- The clamped fields of the lane records (R190). -/
def laneCounts (p : Profile) (img : List Byte) : Nat :=
  (allLanes.map fun l => if willBePresent p img l then (readLane img (laneAt l)).2 else 0).sum

/-! ## The TRAIN block (R101, R191) -/

/-- A route stop id as taken: 0 and values above 32 are counted and taken as 32 (R191). -/
def clampStop (v : Nat) : Taken := if 1 ≤ v ∧ v ≤ 32 then ⟨v, 0⟩ else ⟨32, 1⟩

/-- The stop ids of the route items with their travel times. -/
def routeItems (img : List Byte) : List (Taken × Nat) :=
  (List.range (imgByte img 22)).map fun j => (clampStop (imgByte img (23 + 3 * j)), imgWord img (24 + 3 * j))

/-- The route: items with stop id 32 and items whose stop id equals an earlier item's are left out (R101). -/
def buildRoute (items : List (Taken × Nat)) : List RouteStop :=
  items.foldl
    (fun route i =>
      if i.1.value = 32 ∨ (route.any fun x => x.stop == i.1.value) then route else route ++ [⟨i.1.value, i.2⟩])
    []

/-- The TRAIN block as taken into a profile, and its count (R191). -/
def readTrain (p : Profile) (img : List Byte) : Profile × Nat :=
  let c0 := clampTo 0 63 (imgByte img 12)
  let c1 := clampTo 0 63 (imgByte img 13)
  let c2 := clampTo 0 63 (imgByte img 14)
  let c3 := clampTo 0 63 (imgByte img 15)
  let receipt := clampOr 10 300 50 (imgWord img 20)
  let items := routeItems img
  ({ p with caps := ⟨c0.value, c1.value, c2.value, c3.value⟩, loadTime := imgWord img 16, tReturn := imgWord img 18,
            tReceipt := receipt.value, route := buildRoute items },
    c0.count + c1.count + c2.count + c3.count + receipt.count + (items.map fun i => i.1.count).sum)

/-! ## The PACER block (R192) -/

/-- A value lowered to a limit, with its count. -/
def lowerTo (limit v : Nat) : Taken := ⟨min limit v, if v ≤ limit then 0 else 1⟩

/-- The PACER block as taken into a profile, and its count, in the three steps of R192. -/
def readPacer (p : Profile) (img : List Byte) : Profile × Nat :=
  let nom := clampTo 10 1200 (imgWord img 12)
  let lo := clampTo 10 1200 (imgWord img 14)
  let hi := clampTo 10 1200 (imgWord img 16)
  let lo2 := lowerTo hi.value lo.value
  let nom2 := clampTo lo2.value hi.value nom.value
  let keep := clampOr 10 100 30 (imgByte img 18)
  ({ p with taktNom := nom2.value, taktMin := lo2.value, taktMax := hi.value, tKeep := keep.value },
    nom.count + lo.count + hi.count + lo2.count + nom2.count + keep.count)

/-- The role block as taken into a profile with the common block, and its count (R190 to R192). -/
def readRoleBlock (role : Role) (p : Profile) (img : List Byte) : Profile × Nat :=
  match role with
  | .rack => ((readRack p img).1, (readRack p img).2 + laneCounts (readRack p img).1 img)
  | .train => readTrain p img
  | .pacer => readPacer p img
  | .unknown => (p, 0)

/-- The clamped-field count saturates at 255 (R188). -/
def fieldCount (n : Nat) : Nat := min n 255

end Sys2Proof.Machine
end

