-- ==== Sys2Proof/Machine/Start.lean ====
section
/-! DEFINITION. Starts and start states (Sections 10.1, 10.2, 10.4 and 10.6): straps, CHECK, the adjustment of the
retained area and the entry to ACTIVE. -/

namespace Sys2Proof.Machine

/-! ## The beginning of a start (R184, R185) -/

/-- The role named by ROLE1:0 (R185). -/
def roleOf (straps : BitVec 2) : Role :=
  match straps.toNat with
  | 0 => .rack
  | 1 => .train
  | 2 => .pacer
  | _ => .unknown

/-- The straps are invalid: no role, or address 0 or 127 (R185). -/
def strapsInvalid (role : BitVec 2) (addr : BitVec 7) : Bool :=
  roleOf role == .unknown || addr == 0 || addr == 127

/-- The retained part of a lane record, every other field at its value after a start (R39, R42, R126, R154). The
profile part is replaced when a profile passes CHECK (notes/assumptions/15.md). -/
def LaneRec.afterStart (r : LaneRec) : LaneRec :=
  { LaneRec.cleared with
    cfg := r.cfg, present := r.present, b := r.b, s := r.s, uncounted := r.uncounted, starved := r.starved,
    drift := r.drift, shortfall := r.shortfall, surplus := r.surplus, shortBins := r.shortBins }

/-- Every block at its value after a start that keeps the retained area, with the straps sampled (R184, R185). -/
def State.restart (s : State) (cause : StartCause) (role : BitVec 2) (addr : BitVec 7) : State :=
  let bad := strapsInvalid role addr
  { start := { resetLow := false, state := if bad then .fault else .load, cause,
               faultCause := if bad then .badStraps else .noFault, clamped := 0, clock := 0, role := roleOf role,
               own := addr, listenEnd := none }
    prof := .blank
    cnt := s.cnt
    air := .fresh s.air.carrier addr
    line := .fresh
    pacer := .fresh s.pacer.nLocal
    lanes := Vector.ofFn fun l => (s.lane l).afterStart
    bankA := .closed
    bankB := .closed
    runs := []
    book := .fresh
    planner := .fresh s.planner.nextRun
    panel := .fresh s.panel.chain
    free := s.free
    pending := s.pending }

/-- The retained area cleared: every value 0, every lane absent, every flag clear (R184). -/
def State.clearRetained (s : State) : State :=
  { s.mapLanes fun _ _ => .cleared with cnt := .zero, pacer.nLocal := 0, planner.nextRun := 0 }

/-- A power-on start clears the retained area before anything else (R184). -/
def State.powerOn (s : State) (role : BitVec 2) (addr : BitVec 7) : State :=
  s.clearRetained.restart .powerOn role addr

/-- A pin reset keeps the retained area (R184). -/
def State.resetByPin (s : State) (role : BitVec 2) (addr : BitVec 7) : State := s.restart .pin role addr

/-- RESETn low stops all activity: KEY falls and a frame being sent is cut short (R184). -/
def State.holdReset (s : State) : State :=
  { s with start.resetLow := true, air.tx := none, air.quiet := none }

/-! ## The end of reading and CHECK (R186 to R189) -/

/-- The level of CFG_CS: low in LOAD, while the image is read, and high in every other start state (R186), also while
RESETn is low (R184). -/
def State.cfgSelect (s : State) : Bool := s.start.resetLow || s.start.state != .load

/-- The bytes sent on CFG_SO before the image is clocked in: the read instruction and the address 0 (R186). -/
def cfgCommand : List Byte := [0x03, 0x00, 0x00]

/-- The bits on CFG_SO in the order they are sent, the most significant of each byte first (R186). -/
def cfgBits : List Bool := cfgCommand.flatMap msbFirst

/-- The start ends in FAULT; where the air port works, its quiet time starts (R164, R183). -/
def State.failWith (s : State) (cause : FaultCause) : State :=
  let t := { s with start.state := .fault, start.faultCause := cause }
  if t.portWorks then t.openPort else t

/-- A lane at a power-on start that passes CHECK in RACK role (R38), also the stock of a lane that becomes present at a
pin reset (R40). -/
def LaneRec.stocked (r : LaneRec) : LaneRec :=
  if r.present then
    { r with b := r.cfg.startBins, s := r.cfg.startBins * r.cfg.q, uncounted := true, starved := false }
  else { r with b := 0, s := 0, uncounted := true, starved := false }

/-- The figures of a lane that stays present, clamped to the new profile (R39). -/
def LaneRec.clampedStock (r : LaneRec) : LaneRec :=
  let bins := min r.b r.cfg.binsMax
  let stock := min r.s (bins * r.cfg.q)
  { r with b := bins, s := stock, starved := r.starved && stock == 0 }

/-- A lane record adjusted to a new profile at a pin reset, by its presence before and after (R39, R40). -/
def LaneRec.adjusted (before : Bool) (r : LaneRec) : LaneRec :=
  if r.present then (if before then r.clampedStock else r.stocked)
  else if before then r.stocked
  else r

/-- The lane records set by a start that passes CHECK in RACK role (R193). -/
def State.setLanes (s : State) (p : Profile) (img : List Byte) : State :=
  s.mapLanes fun l r =>
    let new := { r with cfg := laneCfg p img l, present := willBePresent p img l }
    match s.start.cause with
    | .powerOn => new.stocked
    | .pin => new.adjusted r.present

/-- A retained lane in TRAIN or PACER role: absent, its totals cleared (R40, R193; notes/assumptions/13.md). -/
def LaneRec.retired (r : LaneRec) : LaneRec :=
  { (if r.present then LaneRec.stocked { r with present := false } else r) with
    drift := 0, shortfall := 0, surplus := 0, shortBins := 0 }

/-- The retained values that a start in TRAIN or PACER role clears (R193). -/
def State.retireLanes (s : State) : State :=
  { s.mapLanes fun _ r => r.retired with cnt.phantom := 0, cnt.rundrop := 0, cnt.double := 0 }

/-- The retained area adjusted by a start that passes CHECK, by role (R193); the measured takt of a PACER starts from
takt_nom (R8). -/
def State.adjust (s : State) (p : Profile) (img : List Byte) : State :=
  match s.start.role with
  | .rack => { s.setLanes p img with pacer.nLocal := 0, planner.nextRun := 0 }
  | .train => { s.retireLanes with pacer.nLocal := 0 }
  | .pacer => { s.retireLanes with cnt.bookfull := 0, planner.nextRun := 0, pacer.measured := p.taktNom }
  | .unknown => s

/-- CHECK is passed: the profile applies, the retained area is adjusted, and LISTEN begins with the listen period of
3 × T_refresh (R193, R195). -/
def State.passCheck (s : State) (p : Profile) (count : Nat) (img : List Byte) : State :=
  let t := s.adjust p img
  ({ t with prof := p, start.clamped := fieldCount count, start.state := .listen,
            start.listenEnd := some (s.deadline (3 * p.tRefresh)) } : State).openPort

/-- CHECK (R187 to R189): the integrity tests, the common block, the role test and the length test. -/
def State.check (s : State) (img : List Byte) : State :=
  if !imgIntact img then s.failWith .badCheck
  else
    let common := readCommon img
    let t := { s with start.clamped := fieldCount common.2 }
    if s.start.role.imageCode ≠ some (imgByte img 3) then ({ t with prof := common.1 } : State).failWith .roleMismatch
    else if !imgLenFits img s.start.role then t.failWith .badCheck
    else
      let block := readRoleBlock s.start.role common.1 img
      s.passCheck block.1 (common.2 + block.2) img

/-- The end of reading the image in LOAD: an erased image ends in FAULT, any other goes through CHECK (R186). -/
def State.readEnd (s : State) (img : List Byte) : State :=
  if s.start.resetLow || s.start.state != .load then s
  else if imgErased img then s.failWith .noProfile
  else s.check img

/-! ## The end of the listen period (R196) -/

/-- What the entry into ACTIVE starts, by role (R95, R106, R122, R5). -/
def State.enterRole (s : State) : State :=
  match s.start.role with
  | .rack => ({ s with book.refresh := some (s.deadline s.prof.tRefresh) } : State).askRefresh
  | .train => ({ s with planner.refresh := some (s.deadline s.prof.tRefresh) } : State).openAndAnnounce
  | .pacer => if s.pacer.state = .listen then s.enterActive else s
  | .unknown => s

/-- The listen period ends: the start state becomes ACTIVE (R196). -/
def State.listenEnds (s : State) : State :=
  if s.start.state = .listen ∧ !s.start.resetLow ∧ s.due s.start.listenEnd then
    ({ s with start.state := .active, start.listenEnd := none } : State).enterRole
  else s

/-- A timer unit: the station clock rises in every start state and the elapsed travel with it (R118, R184). The manual
states no value after the clock's maximum; it is then a free value (Section 0.5; notes/assumptions/4.md). -/
def State.tickClock (s : State) : State :=
  if s.start.clock + 1 < 2 ^ 32 then { s with start.clock := s.start.clock + 1 }
  else { s.takeFree.2 with start.clock := s.takeFree.1.toNat }

/-- A timer unit: the station clock and the elapsed travel of the current run (R118). -/
def State.timerUnit (s : State) : State :=
  if s.start.resetLow then s
  else if s.worksAs .train then { s.tickClock with planner := s.planner.elapse }
  else s.tickClock

end Sys2Proof.Machine
end

