-- ==== Sys2Proof/Machine/Report.lean ====
section
/-! DEFINITION. The report unit (Section 10.5): the pages of each role and the answer to a QUERY. -/

namespace Sys2Proof.Machine

/-! ## Codes of the listed states (R198) -/

/-- The code of a role on page 0 (R199). -/
def Role.code : Role → Nat
  | .rack => 0
  | .train => 1
  | .pacer => 2
  | .unknown => 3

/-- The code of a start state (R199). -/
def StartState.code : StartState → Nat
  | .load => 0
  | .check => 1
  | .listen => 2
  | .active => 3
  | .fault => 4

/-- The code of a start cause (R199). -/
def StartCause.code : StartCause → Nat
  | .powerOn => 0
  | .pin => 1

/-- The code of a fault cause (R199). -/
def FaultCause.code : FaultCause → Nat
  | .noFault => 0
  | .badStraps => 1
  | .noProfile => 2
  | .badCheck => 3
  | .roleMismatch => 4

/-- The code of a clock state (R199). -/
def ClockState.code : ClockState → Nat
  | .unsynced => 0
  | .tracking => 1
  | .stale => 2

/-- The code of a pacer state (R202). -/
def PacerState.code : PacerState → Nat
  | .listen => 0
  | .active => 1
  | .standby => 2

/-- The code of a call state (R200). -/
def CallState.code : CallState → Nat
  | .quiet => 0
  | .calling => 1
  | .waiting => 2
  | .admitted => 3
  | .manifested => 4
  | .due => 5

/-- The code of a manifest entry status (R201). -/
def EntryStatus.code : EntryStatus → Nat
  | .pending => 0
  | .done => 1
  | .short => 2

/-- The code of a stop log entry's kind (R201). -/
def VisitKind.code : VisitKind → Nat
  | .first => 0
  | .revisit => 1
  | .detour => 2

/-- The code of a receipt timer's state (R201). -/
def Timer.code : Timer → Nat
  | .stopped => 0
  | .running _ => 1
  | .expired => 2

/-- A signed number in two bytes, two's complement, low byte first (R198). -/
def signed2 (x : Int) : List Byte := bytes2 (BitVec.ofInt 16 x)

/-! ## Page 0 (R199) -/

/-- The counters in the order of page 0. -/
def Counters.page (c : Counters) : List Nat :=
  [c.crc, c.broken, c.length, c.source, c.kind, c.overrun, c.txdrop, c.resync, c.gap, c.conflict, c.clash, c.bookfull,
    c.rundrop, c.double, c.phantom]

/-- Page 0 (R199). -/
def State.page0 (s : State) : List Byte :=
  [byte s.start.role.code, s.ownByte, byte s.start.state.code, byte s.start.cause.code, byte s.start.faultCause.code,
      s.line.followed.getD 0, byte s.line.state.code] ++
    bytes2 s.line.n ++ le2 s.line.takt ++ s.cnt.page.flatMap le2 ++ [byte s.start.clamped]

/-! ## RACK pages (R200) -/

/-- The run id a lane shows: its claim run in WAITING and ADMITTED, its run in MANIFESTED and DUE, 0 otherwise (R200). -/
def LaneRec.shownRun (r : LaneRec) : RunId :=
  if r.call.claims then r.claimRun.getD 0 else if r.call.promised then r.onRun.getD 0 else 0

/-- The flags of a lane in the order of the page: ABSENT, STARVED, AT-RISK, LATE, UNCOUNTED, BEYOND, PROVISIONAL
(R200). -/
def LaneRec.flags (r : LaneRec) : List Bool :=
  [!r.present, r.starved, r.atRisk, r.late, r.uncounted, r.forecast.any Forecast.beyond, r.provisional]

/-- The change latches of a lane in the order of the page: FEED, EMPTY, RESERVE (R200). -/
def LaneRec.latches (r : LaneRec) : List Bool := [r.feedIn.latch, r.emptyIn.latch, r.reserveIn.latch]

/-- The call state, S, B, R_ref offset and run id of a lane; an absent lane shows QUIET and zeros (R200). -/
def State.laneHead (s : State) (r : LaneRec) : List Byte :=
  if r.present then
    byte r.call.code :: le2 r.s ++ [byte r.b] ++ signed2 (s.rrefOffset r) ++ bytes2 r.shownRun
  else byte CallState.quiet.code :: le2 0 ++ [0] ++ le2 0 ++ le2 0

/-- What a page shows of one lane (R200). -/
def State.lanePage (s : State) (l : LaneIx) : List Byte :=
  let r := s.lane l
  s.laneHead r ++ [byte r.requested, byte r.delivered] ++ signed2 r.drift ++ le2 r.shortfall ++ le2 r.shortBins ++
    le2 r.surplus ++ packFlags r.flags ++ packFlags r.latches

/-- RACK page p, 1 to 4: lanes 4(p − 1) to 4(p − 1) + 3 (R200). -/
def State.rackPage (s : State) (p : Nat) : List Byte := ((allLanes.drop (4 * (p - 1))).take 4).flatMap s.lanePage

/-! ## TRAIN pages (R201) -/

/-- A run slot that holds a run. -/
def Run.page (r : Run) : List Byte :=
  bytes2 r.id ++ [byte r.state.code, byte (r.present.getD 0), boolByte r.revisit] ++ packFlags r.served

/-- A run slot on page 1, which begins at place `at0` of the page. The manual states run id 0 and present stop 0 for an
empty slot, and that the planning slot's state is always PLANNING; the other fields of an empty slot are free values
(R201; notes/assumptions/5.md). -/
def State.slotPage (s : State) (slot : Option Run) (planning : Bool) (at0 : Nat) : List Byte :=
  match slot with
  | some r => r.page
  | none =>
    let open0 := Config.emptySlotByte s.free
    le2 0 ++ [if planning then byte RunState.planning.code else open0 at0, 0, open0 (at0 + 1)] ++
      (List.range (ceilDiv s.prof.route.length 8)).map fun j => open0 (at0 + 2 + j)

/-- TRAIN page 1 (R201). -/
def State.runPage (s : State) : List Byte :=
  s.slotPage s.planner.current false 0 ++ s.slotPage s.planner.planning true 5 ++ le2 s.planner.e ++
    [s.planner.nextRun, byte s.planner.manifest.length, byte s.book.entries.length]

/-- What a page shows of a manifest entry (R201). -/
def ManifestEntry.page (e : ManifestEntry) : List Byte :=
  [byte e.station, byte e.lane.val, byte e.stop, byte e.cls, byte e.size, byte e.bins, boolByte e.late,
    byte e.delivered, byte e.status.code]

/-- TRAIN page p, 2 to 5: manifest entries 8(p − 2) to 8(p − 2) + 7 that exist (R201). -/
def State.manifestPage (s : State) (p : Nat) : List Byte :=
  ((s.planner.manifest.drop (8 * (p - 2))).take 8).flatMap ManifestEntry.page

/-- What page 6 shows of a stop log entry (R201). -/
def LogEntry.page (e : LogEntry) : List Byte :=
  [e.runNumber, byte e.stop, byte e.kind.code, byte e.timer.code, byte e.expected.length, byte e.heard.length]

/-- TRAIN page 6: the stop log, newest first (R201). -/
def State.logPage (s : State) : List Byte := s.planner.log.reverse.flatMap LogEntry.page

/-! ## PACER page (R202) -/

/-- PACER page 1 (R202). -/
def State.pacerPage (s : State) : List Byte :=
  let v := s.pacer.record
  byte s.pacer.state.code :: bytes2 s.pacer.nLocal ++ le2 s.pacer.measured ++
    [v.v3.setWidth 8, v.v2.setWidth 8, v.v1.setWidth 8, v.v0.setWidth 8]

/-! ## The answer to a QUERY (R197, R198) -/

/-- The content of a page of the station, none when the page is not one of its pages (R198;
notes/assumptions/19.md). -/
def State.page (s : State) (p : Nat) : Option (List Byte) :=
  if p = 0 then some s.page0
  else if s.working then
    match s.start.role with
    | .rack => if p ≤ 4 then some (s.rackPage p) else none
    | .train =>
      if p = 1 then some s.runPage
      else if p ≤ 5 then some (s.manifestPage p)
      else if p = 6 then some s.logPage
      else none
    | .pacer => if p = 1 then some s.pacerPage else none
    | .unknown => none
  else none

/-- The flags of a REPORT: no-page, the clash flag, FAULT (R198). -/
def State.reportFlags (s : State) (noPage : Bool) : Byte :=
  byte ((if noPage then 1 else 0) + (if s.air.clash then 2 else 0) + if s.start.state = .fault then 4 else 0)

/-- The REPORT that answers a QUERY of this page from this source (R197, R198). -/
def State.report (s : State) (src page : Byte) : TxFrame :=
  ⟨.report,
    match s.page page.toNat with
    | some content => src :: page :: s.reportFlags false :: content
    | none => [src, page, s.reportFlags true]⟩

/-- The report unit takes a QUERY: one for the own address is answered by a REPORT offered to the transmit queue, any other
is passed over (R197). A page 1 of a TRAIN uses a free value. -/
def State.takeQuery (s : State) (src : Byte) (payload : List Byte) : State :=
  match payload with
  | [dest, page] =>
    if dest = s.ownByte then
      let t := s.offer (s.report src page)
      if s.worksAs .train && page == 1 then { t with free := t.free + 1 } else t
    else s
  | _ => s

end Sys2Proof.Machine
end

