-- ==== Sys2Proof/Machine/Display.lean ====
section
/-! DEFINITION. The driver display of a TRAIN station and the ACK button (Sections 8.5 and 8.6). -/

namespace Sys2Proof.Machine

/-! ## Characters (R156) -/

/-- The 7-bit ASCII codes of a text. -/
def text (t : String) : List Byte := t.toList.map fun c => BitVec.ofNat 8 c.toNat

/-- A number in decimal without leading zeros. -/
def decimal (n : Nat) : List Byte := (Nat.toDigits 10 n).map fun c => BitVec.ofNat 8 c.toNat

/-- Fields of a line, with one space between them. -/
def fields (fs : List (List Byte)) : List Byte := (fs.intersperse [0x20]).flatten

/-- A text cut or filled with spaces to a width. -/
def fit (width : Nat) (t : List Byte) : List Byte := (t ++ List.replicate width 0x20).take width

/-- A position: two numbers joined by a slash. -/
def position (i n : Nat) : List Byte := decimal i ++ text "/" ++ decimal n

/-- A time in seconds as minutes and seconds joined by a colon. -/
def clockText (seconds : Nat) : List Byte := decimal (seconds / 60) ++ text ":" ++ decimal (seconds % 60)

/-- The name of a fault cause as the manual writes it. -/
def FaultCause.name : FaultCause → String
  | .noFault => ""
  | .badStraps => "BAD-STRAPS"
  | .noProfile => "NO-PROFILE"
  | .badCheck => "BAD-CHECK"
  | .roleMismatch => "ROLE-MISMATCH"

/-- The name of a notice kind as the manual writes it. -/
def NoticeKind.name : NoticeKind → String
  | .short => "SHORT"
  | .missing => "MISSING"
  | .late => "LATE"
  | .offroute => "OFFROUTE"
  | .refused => "REFUSED"
  | .overflow => "OVERFLOW"

/-! ## Content of the two lines -/

/-- The content of the two lines before they are filled to their width. -/
structure Lines where
  line1 : List Byte
  line2 : List Byte
deriving DecidableEq, Repr

/-- The status field (R156). -/
def State.statusField (s : State) : List Byte :=
  if s.air.clash then text "CLSH"
  else if s.start.state = .listen then text "LSTN"
  else
    match s.line.state with
    | .unsynced => text "SYNC"
    | .stale => text "STAL"
    | .tracking => text "    "

/-- The manifest entries the STOP mode lists: OPEN or SHORT at the present stop, in manifest order (R157). -/
def State.stopList (s : State) (r : Run) : List ManifestEntry :=
  s.planner.manifest.filter fun e => some e.stop == r.present && e.outstanding

/-- PLAN: the run number and the count of the book's entries; the admitted slot units of each class (R157). -/
def State.planLines (s : State) (r : Run) : Lines :=
  let admitted := fun (c : Nat) => ((s.book.entries.filter fun e => e.admitted && e.cls == c).map Entry.size).sum
  ⟨fields [decimal (loByte r.id).toNat, decimal s.book.entries.length],
    fields [decimal (admitted 0), decimal (admitted 1), decimal (admitted 2), decimal (admitted 3)]⟩

/-- PICK: the entry at the PICK index, or EMPTY (R157). -/
def State.pickLines (s : State) : Lines :=
  match s.planner.manifest[s.panel.pick - 1]? with
  | some e =>
    ⟨fields [position s.panel.pick s.planner.manifest.length, decimal e.station, decimal e.lane.val],
      fields ([decimal e.stop, decimal e.cls, decimal e.bins] ++ if e.late then [text "LATE"] else [])⟩
  | none => ⟨text "EMPTY", []⟩

/-- ROUTE: the next unserved stop and the offset of its estimate from N, or 0 and the way home (R157). -/
def State.routeLines (s : State) (r : Run) : Lines :=
  match (s.prof.route.zip r.served).find? fun x => !x.2 with
  | some x => ⟨decimal x.1.stop, decimal (s.etaSteps (s.currentDelay r x.1.stop))⟩
  | none => ⟨decimal 0, decimal (min 1023 (ceilDiv (s.prof.tReturn - s.planner.e) s.line.takt))⟩

/-- STOP: the present stop and the entry at the STOP index (R157). -/
def State.stopLines (s : State) (r : Run) : Lines :=
  let es := s.stopList r
  ⟨fields [decimal (r.present.getD 0), position s.panel.stopIx es.length],
    match es[s.panel.stopIx - 1]? with
    | some e => fields [decimal e.station, decimal e.lane.val, decimal (e.bins - e.delivered)]
    | none => text "NONE OUTSTANDING"⟩

/-- HOLD: the time held in whole seconds, held at 99:59 (R157). -/
def State.holdLines (s : State) (r : Run) : Lines :=
  ⟨text "HOLD", clockText (min 5999 ((s.start.clock - r.holdStart.getD s.start.clock) / 10))⟩

/-- The display mode of the lead run (R157). -/
def State.modeLines (s : State) : Lines :=
  match s.planner.lead with
  | none => ⟨text "NO RUN", []⟩
  | some r =>
    match r.state with
    | .planning => s.planLines r
    | .loading => s.pickLines
    | .enroute => s.routeLines r
    | .atstop | .detour => s.stopLines r
    | .held => s.holdLines r

/-- A notice: kind and count, then station, lane and time since placement (R161), in whole seconds, a part of a second
dropped (notes/assumptions/18.md). -/
def State.noticeLines (s : State) (x : Notice) : Lines :=
  ⟨fields [text x.kind.name, decimal x.count],
    fields [decimal x.station, decimal x.lane, clockText ((s.start.clock - x.time) / 10)]⟩

/-- The 40 characters of a display frame (R156, R157, R161; notes/assumptions/18.md). -/
def State.displayText (s : State) : List Byte :=
  match s.start.state with
  | .load | .check => fit 40 []
  | .fault => fit 20 (text "FAULT") ++ fit 20 (text s.start.faultCause.name)
  | .listen | .active =>
    let ls := match shownNotice s.panel.notices with
      | some x => s.noticeLines x
      | none => s.modeLines
    fit 16 ls.line1 ++ s.statusField ++ fit 20 ls.line2

/-- The number of entries the STOP mode lists, when the lead run is ATSTOP or DETOUR (R157). -/
def State.stopCount (s : State) : Option Nat :=
  match s.planner.lead with
  | some r => if r.state = .atstop ∨ r.state = .detour then some (s.stopList r).length else none
  | none => none

/-- A STOP index past the end of a shortened list becomes 1 at the next frame (R158). -/
def State.trimStopIx (s : State) : State :=
  if s.working && (s.stopCount.any fun m => decide (m < s.panel.stopIx)) then { s with panel.stopIx := 1 } else s

/-- A display frame is shifted out, in TRAIN role (R156). -/
def State.shiftDisplay (s : State) : State :=
  if s.start.resetLow || s.start.role != .train then s
  else { s.trimStopIx with panel.display := s.trimStopIx.displayText }

/-- The bits on LMP_DAT of the display frame last shifted out, in the order they are given: line 1 and then line 2 from left
to right, the most significant bit of each character first (R156). -/
def State.displayBits (s : State) : List Bool := s.panel.display.flatMap msbFirst

/-! ## ACK (R158, R161) -/

/-- An index rises by one, wrapping from the number of entries to 1; with no entries it stays (R158). -/
def wrapNext (i n : Nat) : Nat := if n = 0 then i else if i < n then i + 1 else 1

/-- An ACK taken while no notice is pending acts on the mode (R158). -/
def State.ackMode (s : State) : State :=
  match s.planner.lead with
  | some r =>
    match r.state with
    | .loading => { s with panel.pick := wrapNext s.panel.pick s.planner.manifest.length }
    | .atstop | .detour => { s with panel.stopIx := wrapNext s.panel.stopIx (s.stopList r).length }
    | _ => s
  | none => s

/-- An ACK taken by the panel driver: it removes the notice shown, or acts on the mode (R158, R161). -/
def State.takeAck (s : State) : State :=
  match shownNotice s.panel.notices with
  | some x => { s with panel := s.panel.acknowledge s.start.clock x }
  | none => s.ackMode

end Sys2Proof.Machine
end

