-- ==== Sys2Proof/Machine/Receive.lean ====
section
/-! DEFINITION. Reception and dispatch: the tests on a complete frame, the receive queue and the handing of frames to
their owners (Sections 9.3 and 9.4). -/

namespace Sys2Proof.Machine

/-! ## Events -/

/-- An event of the station's blocks: its effect, then the requests it made to the claim book and AT-RISK (R78, R149). -/
def State.event (s : State) (effect : State → State) : State := (effect s).endEvent

/-! ## Dispatch (R174, R175) -/

/-- A frame that waits for the claim book: a CLAIMSET in RACK or TRAIN role outside FAULT (R174, R175). -/
def State.waitsForBook (s : State) (f : RxFrame) : Bool :=
  f.kind == .claimset && (s.start.role == .rack || s.start.role == .train) && s.start.state != .fault

/-- A frame handed to the owner of its kind in the station's role, or discarded (R174). -/
def State.handOver (s : State) (f : RxFrame) : State :=
  let rack := s.start.role == .rack
  let train := s.start.role == .train
  if s.start.state = .fault then (if f.kind = .query then s.takeQuery f.src f.payload else s)
  else
    match f.kind with
    | .unit => s.takeUnit f.src f.payload
    | .run => if rack then s.takeRun f.src f.payload else s
    | .manifest => if rack then s.takeManifest f.src f.payload else s
    | .claimset => if rack || train then s.takeClaimset f.src f.payload else s
    | .arrive => if rack then s.takeArrive f.src f.payload else s
    | .depart => if rack then s.takeDepart f.src f.payload else s
    | .receipt => if train then s.takeReceipt f.src f.payload else s
    | .query => s.takeQuery f.src f.payload
    | .report => s

/-- The receive queue is dealt with from its head: a CLAIMSET waits while the book is busy, with every frame behind it; an
idle book takes a CLAIMSET at the head first and otherwise starts the operation a mark asks for; every other frame is
handed over at once (R78, R175). Where R83 discards the CLAIMSET, the operation starts before the next frame other than
a CLAIMSET is handed over (notes/assumptions/27.md). -/
def State.drain (s : State) : List RxFrame → State
  | [] => ({ s with air.rxq := [] } : State).startIfMarked
  | f :: rest =>
    if s.waitsForBook f then
      if s.busy then { s with air.rxq := f :: rest } else (s.event fun t => t.handOver f).drain rest
    else (s.startIfMarked.event fun t => t.handOver f).drain rest

/-! ## Complete frames (R171) -/

/-- A frame whose CRC matched goes through the other tests of R171; one that passes them joins the receive queue. -/
def State.acceptFrame (s : State) (code src : Byte) (payload : List Byte) : State :=
  match s.fate code src payload with
  | .clash => { s with air.clash := true, cnt.clash := bump16 s.cnt.clash }
  | .badSource => { s with cnt.source := bump16 s.cnt.source }
  | .badKind => { s with cnt.kind := bump16 s.cnt.kind }
  | .badShape => { s with cnt.length := bump16 s.cnt.length }
  | .overrun => { s with cnt.overrun := bump16 s.cnt.overrun }
  | .joins k => s.drain (s.air.rxq ++ [⟨k, src, payload⟩])

/-- A frame command: a whole frame of this kind whose CRC matched is complete, with the receiver on, and the receive side
hunts again (R168; notes/assumptions/9.md). -/
def State.arrives (s : State) (k : FrameKind) (src : Byte) (payload : List Byte) : State :=
  if s.receiving then ({ s with air.rx := .hunting } : State).acceptFrame k.code src payload else s

/-- A LEN byte outside 2..250 (R169). -/
def badLen (len : Byte) : Bool := decide (len.toNat < 2 ∨ 250 < len.toNat)

/-- A frame is abandoned at its LEN byte (R169). -/
def State.abandonLength (s : State) : State :=
  { s with air.rx := .hunting, cnt.length := bump16 s.cnt.length }

/-- The tests of R171 on a complete frame: `body` is KIND, SRC and payload, `check` the two CRC bytes. -/
def State.testFrame (s : State) (len : Byte) (body check : List Byte) : State :=
  match body, check with
  | code :: src :: payload, [lo, hi] =>
    if crc (len :: body) = word lo hi then s.acceptFrame code src payload
    else { s with cnt.crc := bump16 s.cnt.crc }
  | _, _ => s

/-- The bytes after SYNC of a frame in reception are complete: the receive side hunts again and the frame is tested (R168,
R171). A LEN out of range abandons the frame (R169); bytes that do not make a whole frame have no effect
(notes/assumptions/9.md). -/
def State.frameComplete (s : State) (bytes : List Byte) : State :=
  if s.receiving && s.air.rx == .inFrame then
    match bytes with
    | [] => s
    | len :: rest =>
      if badLen len then s.abandonLength
      else if rest.length = len.toNat + 2 then
        ({ s with air.rx := .hunting } : State).testFrame len (rest.take len.toNat) (rest.drop len.toNat)
      else s
  else s

/-! ## The end of a book operation -/

/-- A book operation completes; then the receive queue is dealt with, and a mark may start the next operation (R78, R81). -/
def State.completeOp (s : State) : State :=
  match s.book.op with
  | some op => ((s.finishOp op).refreshRisk).drain s.air.rxq
  | none => s

end Sys2Proof.Machine
end

