-- ==== Sys2Proof/Machine/Inputs.lean ====
section
/-! DEFINITION. The 20 ms samples of the input pins by role: the LINE port, the SENSE chain and presence inputs, the stop
port and the buttons (R2, R22 to R25, R102, R153). -/

namespace Sys2Proof.Machine

/-- A sample brings an accepted rising level. -/
def Debounce.rises (d : Debounce Bool) (x : Bool) : Bool := (d.sample x).2 && x

/-! ## PACER: the LINE port (R2) -/

/-- The LINE port is sampled: VARIANT on RP0 to RP5, VALID on RP6 and TAKT on RP7. An accepted rise of TAKT is a takt
edge, read with the levels as they stand after the sample (R2, R3). RP0 carries bit 0 of VARIANT
(notes/assumptions/34.md). -/
def State.sampleLine (s : State) (rp : BitVec 12) : State :=
  let p := s.pacer
  let t := { s with pacer.variantIn := (p.variantIn.sample (rp.extractLsb' 0 6)).1,
                    pacer.validIn := (p.validIn.sample (rp.getLsbD 6)).1,
                    pacer.taktIn := (p.taktIn.sample (rp.getLsbD 7)).1 }
  if p.taktIn.rises (rp.getLsbD 7) then t.event State.edge else t

/-! ## RACK: the SENSE chain and the presence inputs (R22 to R25, R153) -/

/-- A pulse on a pin of the SENSE port: SNS_LD, which loads the chain, or SNS_CLK, at which one bit is read (R22). -/
inductive SensePulse where
  | load
  | clock
deriving DecidableEq, Repr

/-- The pulses that one sample drives on the SENSE port: SNS_LD once, then 48 clocks on SNS_CLK. They are driven in LISTEN
and ACTIVE, in RACK role and in TRAIN and PACER roles alike, and in LOAD, CHECK and FAULT there are none (R22). -/
def State.scanPulses (s : State) : List SensePulse :=
  if s.working then .load :: List.replicate 48 .clock else []

/-- The sensors of a lane in the order of the chain. -/
def allSensors : List Sensor := [.feed, .empty, .reserve]

/-- The place of a sensor of a lane in the chain: FEED, EMPTY and RESERVE of lane 0 first (R22). -/
def senseBit (l : LaneIx) : Sensor → Nat
  | .feed => 3 * l.val
  | .empty => 3 * l.val + 1
  | .reserve => 3 * l.val + 2

/-- A sensor of a lane is sampled: an accepted change sets the change latch and is taken as an event of its own (R23 to
R25). -/
def State.sampleSensor (sense : BitVec 48) (l : LaneIx) (s : State) (k : Sensor) : State :=
  let x := sense.getLsbD (senseBit l k)
  let input := (s.lane l).sensor k
  let out := input.level.sample x
  let t := s.modLane l fun r => r.setSensor k ⟨out.1, input.latch || out.2⟩
  if out.2 then t.event fun u => u.takeChange l k x else t

/-- The three sensors of a lane are sampled (R25). -/
def State.sampleLane (sense : BitVec 48) (s : State) (l : LaneIx) : State :=
  allSensors.foldl (State.sampleSensor sense l) s

/-- An accepted change of a bank's presence level (R153). -/
def State.presenceChange (s : State) (k : Bank) (level : Bool) : State :=
  if level then s.presenceUp k else s.presenceDown k

/-- A bank's presence input is sampled (R153). -/
def State.samplePresence (s : State) (k : Bank) (x : Bool) : State :=
  let out := (s.bank k).presence.sample x
  let t := s.modBank k fun b => { b with presence := out.1 }
  if out.2 then t.event fun u => u.presenceChange k x else t

/-- One sample in RACK role: the SENSE chain, then PRES_A on RP0 and PRES_B on RP1. -/
def State.sampleRack (s : State) (pins : Pins) : State :=
  ((allLanes.foldl (State.sampleLane pins.sense) s).samplePresence .a (pins.rp.getLsbD 0)).samplePresence .b
    (pins.rp.getLsbD 1)

/-! ## TRAIN: the stop port and the buttons (R102) -/

/-- STOP on RP0 to RP4, RP0 its bit 0 (notes/assumptions/34.md). -/
def State.sampleStop (s : State) (rp : BitVec 12) : State :=
  { s with planner.stopIn := (s.planner.stopIn.sample (rp.extractLsb' 0 5)).1 }

/-- STROBE on RP5. -/
def State.sampleStrobe (s : State) (x : Bool) : State :=
  let t := { s with planner.strobeIn := (s.planner.strobeIn.sample x).1 }
  if s.planner.strobeIn.rises x then t.event State.strobe else t

/-- LOAD on RP6. -/
def State.sampleLoad (s : State) (x : Bool) : State :=
  let t := { s with planner.loadIn := (s.planner.loadIn.sample x).1 }
  if s.planner.loadIn.rises x then t.event State.pressLoad else t

/-- GO on RP7. -/
def State.sampleGo (s : State) (x : Bool) : State :=
  let t := { s with planner.goIn := (s.planner.goIn.sample x).1 }
  if s.planner.goIn.rises x then t.event State.pressGo else t

/-- HOLD on RP8. -/
def State.sampleHold (s : State) (x : Bool) : State :=
  let t := { s with planner.holdIn := (s.planner.holdIn.sample x).1 }
  if s.planner.holdIn.rises x then t.event State.pressHold else t

/-- ACK on RP9. -/
def State.sampleAck (s : State) (x : Bool) : State :=
  let t := { s with planner.ackIn := (s.planner.ackIn.sample x).1 }
  if s.planner.ackIn.rises x then t.event State.takeAck else t

/-- One sample in TRAIN role: the accepted STOP value first, then the changes in the order arrival strobe, LOAD, GO, HOLD,
ACK (R102). -/
def State.sampleTrain (s : State) (rp : BitVec 12) : State :=
  (((((s.sampleStop rp).sampleStrobe (rp.getLsbD 5)).sampleLoad (rp.getLsbD 6)).sampleGo (rp.getLsbD 7)).sampleHold
    (rp.getLsbD 8)).sampleAck (rp.getLsbD 9)

/-- One 20 ms sample of the pins of the strapped role, in LISTEN and ACTIVE alone (R2, R22, R102, R153;
notes/assumptions/8.md). -/
def State.samplePins (s : State) (pins : Pins) : State :=
  if s.working then
    match s.start.role with
    | .rack => s.sampleRack pins
    | .train => s.sampleTrain pins.rp
    | .pacer => s.sampleLine pins.rp
    | .unknown => s
  else s

end Sys2Proof.Machine
end

