-- ==== Sys2Proof/Machine/StartFamily.lean ====
section
/-! DEFINITION. The commands of the start-up unit: starts, the end of reading, the end of the listen period and the timer
unit (Section 10, R118). -/

namespace Sys2Proof.Machine

/-- What a command answers. -/
abbrev Result := Host.Outcome State Fault Refusal

/-- POWER_ON_START (R184, R185). -/
def execPowerOnStart (role : BitVec 2) (addr : BitVec 7) (s : State) : Result :=
  .next (s.powerOn role addr)

/-- PIN_RESET (R184, R185). -/
def execPinReset (role : BitVec 2) (addr : BitVec 7) (s : State) : Result :=
  .next (s.resetByPin role addr)

/-- RESETN_LOW (R184). -/
def execResetnLow (s : State) : Result :=
  .next s.holdReset

/-- PROFILE_READ_END (R186 to R193), taken in LOAD. -/
def execProfileReadEnd (image : List Byte) (s : State) : Result :=
  .next (s.readEnd image)

/-- LISTEN_PERIOD_END (R196), taken once the listen period has run its length. -/
def execListenPeriodEnd (s : State) : Result :=
  .next (if s.working then s.event State.listenEnds else s)

/-- TIMER_UNIT (R118, R184). -/
def execTimerUnit (s : State) : Result :=
  .next s.timerUnit

end Sys2Proof.Machine
end

