-- ==== Sys2Proof/Machine/ClockFamily.lean ====
section
/-! DEFINITION. The commands of the line clock (Section 1). -/

namespace Sys2Proof.Machine

/-- TAKT_EDGE (R3): the accepted level of TAKT rises. -/
def execTaktEdge (s : State) : Result :=
  .next (if s.worksAs .pacer then ({ s with pacer.taktIn := .accept true } : State).event State.edge else s)

/-- KEEPALIVE_TIMER_EXPIRY (R4). -/
def execKeepaliveTimerExpiry (s : State) : Result :=
  .next (if s.worksAs .pacer then s.event State.keepaliveExpiry else s)

/-- UNIT (R9). -/
def execUnit (src : Byte) (payload : List Byte) (s : State) : Result :=
  .next (s.arrives .unit src payload)

/-- SILENCE_TIMER_EXPIRY (R14). -/
def execSilenceTimerExpiry (s : State) : Result :=
  .next (if s.working then s.event State.silenceExpiry else s)

end Sys2Proof.Machine
end

