-- ==== Sys2Proof/Machine/RackFamily.lean ====
section
/-! DEFINITION. The commands of a RACK station: sensor events, runs and manifests heard, the claim book, and ARRIVE and
DEPART (Sections 2, 4, 5 and 7). -/

namespace Sys2Proof.Machine

/-- FEED_EVENT (R24 to R27). -/
def execFeedEvent (lane : LaneIx) (s : State) : Result :=
  .next (if s.worksAs .rack then (s.acceptSensor lane .feed true).event fun t => t.takeChange lane .feed true else s)

/-- EMPTY_EVENT (R24, R25, R28, R29). -/
def execEmptyEvent (lane : LaneIx) (s : State) : Result :=
  .next (if s.worksAs .rack then (s.acceptSensor lane .empty true).event fun t => t.takeChange lane .empty true else s)

/-- RESERVE_EVENT (R24, R25, R30). -/
def execReserveEvent (lane : LaneIx) (s : State) : Result :=
  .next (if s.worksAs .rack then (s.acceptSensor lane .reserve true).event fun t => t.takeChange lane .reserve true else s)

/-- SENSOR_FALLING_CHANGE (R24, R25). -/
def execSensorFallingChange (lane : LaneIx) (sensor : Sensor) (s : State) : Result :=
  .next (if s.worksAs .rack then (s.acceptSensor lane sensor false).event fun t => t.takeChange lane sensor false else s)

/-- RUN_NOTICE (R58). -/
def execRunNotice (src : Byte) (payload : List Byte) (s : State) : Result :=
  .next (s.arrives .run src payload)

/-- RUN_AGEING_EXPIRY (R65). -/
def execRunAgeingExpiry (run : RunId) (s : State) : Result :=
  .next (if s.worksAs .rack then s.event fun t => t.ageRun run else s)

/-- MANIFEST_PART (R66). -/
def execManifestPart (src : Byte) (payload : List Byte) (s : State) : Result :=
  .next (s.arrives .manifest src payload)

/-- MANIFEST_WAIT_EXPIRY (R61, R70). -/
def execManifestWaitExpiry (run : RunId) (s : State) : Result :=
  .next (if s.worksAs .rack then s.event fun t => t.waitExpiry run else s)

/-- CLAIMSET (R83), at a RACK or a TRAIN. -/
def execClaimset (src : Byte) (payload : List Byte) (s : State) : Result :=
  .next (s.arrives .claimset src payload)

/-- BOOK_OPERATION_COMPLETION (R78, R81). -/
def execBookOperationCompletion (s : State) : Result :=
  .next (if s.working then s.completeOp else s)

/-- PEER_ENTRY_AGEING_EXPIRY (R86). -/
def execPeerEntryAgeingExpiry (station : Nat) (lane : LaneIx) (s : State) : Result :=
  .next (if s.working then s.event fun t => t.ageEntry station lane else s)

/-- REFRESH_TIMER_EXPIRY (R95). -/
def execRefreshTimerExpiry (s : State) : Result :=
  .next (if s.worksAs .rack then s.event State.bookRefresh else s)

/-- ARRIVE (R127, R128). -/
def execArrive (src : Byte) (payload : List Byte) (s : State) : Result :=
  .next (s.arrives .arrive src payload)

/-- DEPART (R134). -/
def execDepart (src : Byte) (payload : List Byte) (s : State) : Result :=
  .next (s.arrives .depart src payload)

end Sys2Proof.Machine
end

