-- ==== Sys2Proof/Machine/TrainFamily.lean ====
section
/-! DEFINITION. The commands of a TRAIN station: buttons, the arrival strobe, receipts and the planner's refresh (Sections 6
and 7.5). -/

namespace Sys2Proof.Machine

/-- RECEIPT (R141). -/
def execReceipt (src : Byte) (payload : List Byte) (s : State) : Result :=
  .next (s.arrives .receipt src payload)

/-- RECEIPT_TIMER_EXPIRY (R144). -/
def execReceiptTimerExpiry (index : Fin 16) (s : State) : Result :=
  .next (if s.worksAs .train then s.event fun t => t.receiptExpiry index.val else s)

/-- LOAD_PRESS (R103, R105): the accepted level of LOAD rises. -/
def execLoadPress (s : State) : Result :=
  .next (if s.worksAs .train then ({ s with planner.loadIn := .accept true } : State).event State.pressLoad else s)

/-- GO_PRESS (R103): the accepted level of GO rises. -/
def execGoPress (s : State) : Result :=
  .next (if s.worksAs .train then ({ s with planner.goIn := .accept true } : State).event State.pressGo else s)

/-- HOLD_PRESS (R103, R113): the accepted level of HOLD rises. -/
def execHoldPress (s : State) : Result :=
  .next (if s.worksAs .train then ({ s with planner.holdIn := .accept true } : State).event State.pressHold else s)

/-- ARRIVAL_STROBE (R108): the accepted level of STROBE rises. -/
def execArrivalStrobe (s : State) : Result :=
  .next (if s.worksAs .train then ({ s with planner.strobeIn := .accept true } : State).event State.strobe else s)

/-- TRAIN_REFRESH_EXPIRY (R122). -/
def execTrainRefreshExpiry (s : State) : Result :=
  .next (if s.worksAs .train then s.event State.plannerRefresh else s)

end Sys2Proof.Machine
end

