-- ==== Sys2Proof/Machine/PanelFamily.lean ====
section
/-! DEFINITION. The commands of the lamp and panel driver (Section 8). -/

namespace Sys2Proof.Machine

/-- ACK (R158, R161): the accepted level of ACK rises. -/
def execAck (s : State) : Result :=
  .next (if s.worksAs .train then ({ s with planner.ackIn := .accept true } : State).event State.takeAck else s)

/-- PRESENCE_RISE (R153). -/
def execPresenceRise (bank : Bank) (s : State) : Result :=
  .next (if s.worksAs .rack then
      (s.modBank bank fun b => { b with presence := .accept true }).event fun t => t.presenceChange bank true
    else s)

/-- PRESENCE_FALL (R153). -/
def execPresenceFall (bank : Bank) (s : State) : Result :=
  .next (if s.worksAs .rack then
      (s.modBank bank fun b => { b with presence := .accept false }).event fun t => t.presenceChange bank false
    else s)

/-- LAMP_FRAME (R146), in RACK and PACER roles and with straps 11. -/
def execLampFrame (s : State) : Result :=
  .next s.shiftLamps

/-- DISPLAY_FRAME (R156), in TRAIN role. -/
def execDisplayFrame (s : State) : Result :=
  .next s.shiftDisplay

end Sys2Proof.Machine
end

