-- ==== Sys2Proof/Machine/ChannelFamily.lean ====
section
/-! DEFINITION. The commands of the air port, the QUERY and the input sample (Section 9, R2, R197). -/

namespace Sys2Proof.Machine

/-- FRAME_COMPLETE (R171). -/
def execFrameComplete (bytes : List Byte) (s : State) : Result :=
  .next (s.frameComplete bytes)

/-- LENGTH_ABANDON (R169): a LEN byte within 2..250 abandons nothing. -/
def execLengthAbandon (len : Byte) (s : State) : Result :=
  .next (if s.receiving && s.air.rx == .inFrame && badLen len then s.abandonLength else s)

/-- BYTE_GAP_TIMEOUT (R169). -/
def execByteGapTimeout (s : State) : Result :=
  .next (if s.receiving then s.abandonBroken else s)

/-- LOW_STOP_BIT (R169): while hunting it is passed over (R168). -/
def execLowStopBit (s : State) : Result :=
  .next (if s.receiving then s.abandonBroken else s)

/-- QUERY (R197). -/
def execQuery (src : Byte) (payload : List Byte) (s : State) : Result :=
  .next (s.arrives .query src payload)

/-- CARRIER_RISE (R179). -/
def execCarrierRise (s : State) : Result :=
  .next s.carrierRise

/-- CARRIER_FALL (R179). -/
def execCarrierFall (s : State) : Result :=
  .next s.carrierFall

/-- SEND_START (R179, R181), when the head may be sent. -/
def execSendStart (s : State) : Result :=
  .next (if s.maySend then s.beginSend else s)

/-- SEND_END (R181), when the last byte time of the frame being sent has passed. -/
def execSendEnd (s : State) : Result :=
  .next (if s.air.tx.any fun t => t.left == 0 then s.finishSend else s)

/-- SYNC_BYTE (R168): in a frame it is a byte of the frame. -/
def execSyncByte (s : State) : Result :=
  .next (if s.receiving then { s with air.rx := .inFrame } else s)

/-- INPUT_SAMPLE (R2, R22, R102, R153). -/
def execInputSample (pins : Pins) (s : State) : Result :=
  .next (s.samplePins pins)

end Sys2Proof.Machine
end

