-- ==== Sys2Proof/Machine/Dispatch.lean ====
section
/-! DEFINITION. The meaning of every command: one arm per constructor of `Instr`. -/

namespace Sys2Proof.Machine

/-- The effect of a command on everything but the queue of commands. -/
def exec (i : Instr) (s : State) : Host.Outcome State Fault Refusal :=
  match i with
  | .powerOnStart role addr => Sys2Proof.Machine.execPowerOnStart role addr s
  | .pinReset role addr => Sys2Proof.Machine.execPinReset role addr s
  | .resetnLow => Sys2Proof.Machine.execResetnLow s
  | .profileReadEnd image => Sys2Proof.Machine.execProfileReadEnd image s
  | .listenPeriodEnd => Sys2Proof.Machine.execListenPeriodEnd s
  | .taktEdge => Sys2Proof.Machine.execTaktEdge s
  | .keepaliveTimerExpiry => Sys2Proof.Machine.execKeepaliveTimerExpiry s
  | .unit src payload => Sys2Proof.Machine.execUnit src payload s
  | .silenceTimerExpiry => Sys2Proof.Machine.execSilenceTimerExpiry s
  | .feedEvent lane => Sys2Proof.Machine.execFeedEvent lane s
  | .emptyEvent lane => Sys2Proof.Machine.execEmptyEvent lane s
  | .reserveEvent lane => Sys2Proof.Machine.execReserveEvent lane s
  | .sensorFallingChange lane sensor => Sys2Proof.Machine.execSensorFallingChange lane sensor s
  | .runNotice src payload => Sys2Proof.Machine.execRunNotice src payload s
  | .runAgeingExpiry run => Sys2Proof.Machine.execRunAgeingExpiry run s
  | .manifestPart src payload => Sys2Proof.Machine.execManifestPart src payload s
  | .manifestWaitExpiry run => Sys2Proof.Machine.execManifestWaitExpiry run s
  | .claimset src payload => Sys2Proof.Machine.execClaimset src payload s
  | .bookOperationCompletion => Sys2Proof.Machine.execBookOperationCompletion s
  | .peerEntryAgeingExpiry station lane => Sys2Proof.Machine.execPeerEntryAgeingExpiry station lane s
  | .refreshTimerExpiry => Sys2Proof.Machine.execRefreshTimerExpiry s
  | .arrive src payload => Sys2Proof.Machine.execArrive src payload s
  | .depart src payload => Sys2Proof.Machine.execDepart src payload s
  | .receipt src payload => Sys2Proof.Machine.execReceipt src payload s
  | .receiptTimerExpiry index => Sys2Proof.Machine.execReceiptTimerExpiry index s
  | .loadPress => Sys2Proof.Machine.execLoadPress s
  | .goPress => Sys2Proof.Machine.execGoPress s
  | .holdPress => Sys2Proof.Machine.execHoldPress s
  | .arrivalStrobe => Sys2Proof.Machine.execArrivalStrobe s
  | .trainRefreshExpiry => Sys2Proof.Machine.execTrainRefreshExpiry s
  | .ack => Sys2Proof.Machine.execAck s
  | .presenceRise bank => Sys2Proof.Machine.execPresenceRise bank s
  | .presenceFall bank => Sys2Proof.Machine.execPresenceFall bank s
  | .lampFrame => Sys2Proof.Machine.execLampFrame s
  | .displayFrame => Sys2Proof.Machine.execDisplayFrame s
  | .frameComplete bytes => Sys2Proof.Machine.execFrameComplete bytes s
  | .lengthAbandon len => Sys2Proof.Machine.execLengthAbandon len s
  | .byteGapTimeout => Sys2Proof.Machine.execByteGapTimeout s
  | .lowStopBit => Sys2Proof.Machine.execLowStopBit s
  | .query src payload => Sys2Proof.Machine.execQuery src payload s
  | .carrierRise => Sys2Proof.Machine.execCarrierRise s
  | .carrierFall => Sys2Proof.Machine.execCarrierFall s
  | .sendStart => Sys2Proof.Machine.execSendStart s
  | .sendEnd => Sys2Proof.Machine.execSendEnd s
  | .timerUnit => Sys2Proof.Machine.execTimerUnit s
  | .syncByte => Sys2Proof.Machine.execSyncByte s
  | .inputSample pins => Sys2Proof.Machine.execInputSample pins s

end Sys2Proof.Machine
end

