-- ==== Sys2Proof/Machine/Step.lean ====
section
/-! DEFINITION. One step: the command at the front of the queue, or a byte time of the aisle channel when none waits. -/

namespace Sys2Proof.Machine

/-- One step. The command at the front of the queue acts on the state with the queue's rest. With no command waiting, one
byte time passes at the air port, whose byte times have no row in the table (notes/assumptions/3.md). -/
def step (s : State) : Host.Outcome State Fault Refusal :=
  match s.pending with
  | [] => .next s.byteTime
  | c :: rest => exec c { s with pending := rest }

/-- The command that a word spells is put at the front of the queue; a word that spells none changes nothing. -/
def State.withFetchWord (s : State) (nbits w : Nat) : State :=
  match decodeTableWord nbits w with
  | some c => { s with pending := c :: s.pending }
  | none => s

end Sys2Proof.Machine
end

