-- ==== Sys2Proof/Safety.lean ====
section
/-! DEFINITION. What the claims speak of: the commands that begin a start, a station that takes a frame at once, the views
of a lane that frames compare, and the invariants of a safe run. -/

namespace Sys2Proof

/-- The two commands that begin a start (R184). -/
def Instr.isStart : Instr → Bool
  | .powerOnStart _ _ | .pinReset _ _ => true
  | _ => false

namespace Machine

/-! ## A station between commands -/

/-- Nothing is owed to the claim book: no request is open, and a mark is set only while the book is busy (R78). -/
def State.bookSettled (s : State) : Bool :=
  !s.book.asked && !s.book.askedRefresh && (s.busy || (!s.book.pendingMark && !s.book.refreshDue))

/-- A working station with its receiver on and an empty receive queue, to which a frame from `src` is handed at once: `src`
is another station's address (R168, R171, R175). -/
def State.hears (s : State) (src : Byte) : Bool :=
  s.working && !s.key && s.air.rxq.isEmpty && s.bookSettled && decide (src ≠ s.ownByte ∧ 1 ≤ src.toNat ∧ src.toNat ≤ 126)

/-- The transmit queue has a free place. -/
def State.txRoom (s : State) : Bool := decide (s.air.txq.length < 8)

/-- The book after an event of other blocks that makes a request exactly when `need` holds: an idle book has started an
operation that reads the book and every lane as they stand after the event (notes/assumptions/6.md), a busy one has set
its pending mark, and without a request it stands (R78, R79). -/
def State.bookTakes (s t : State) (need : Prop) : Prop :=
  (need → s.busy = false → ∃ op, t.book.op = some op ∧ op.claimset = none ∧ op.refresh = false ∧ op.n = t.line.n ∧
    op.entries = t.book.entries ∧ ∀ l, op.lanes[l].call = (t.lane l).call ∧ op.lanes[l].cond = (t.lane l).cond) ∧
  (need → s.busy = true → t.book = { s.book with pendingMark := true }) ∧
  (¬need → t.book = s.book)

/-! ## Views of a lane -/

/-- The stock figures of a lane: B, S, UNCOUNTED, STARVED, drift and the shortfall total (R21). -/
structure StockView where
  b : Nat
  s : Nat
  uncounted : Bool
  starved : Bool
  drift : Int
  shortfall : Nat
deriving DecidableEq, Repr

/-- The stock figures of a lane. -/
def LaneRec.stock (r : LaneRec) : StockView := ⟨r.b, r.s, r.uncounted, r.starved, r.drift, r.shortfall⟩

/-- The delivery of a lane: call state, runs, bins and short record (R21). -/
structure DeliveryView where
  call : CallState
  claimRun : Option RunId
  onRun : Option RunId
  requested : Nat
  delivered : Nat
  short : Option (RunId × Nat)
  late : Bool
  provisional : Bool
deriving DecidableEq, Repr

/-- The delivery of a lane. -/
def LaneRec.delivery (r : LaneRec) : DeliveryView :=
  ⟨r.call, r.claimRun, r.onRun, r.requested, r.delivered, r.short, r.late, r.provisional⟩

/-- A lane record but for AT-RISK, which every event derives again, and the model's moved mark. -/
def LaneRec.steady (r : LaneRec) : LaneRec := { r with atRisk := false, moved := false }

/-- A lane record but for those two and what its loading face shows, which a trigger for its bank may change. -/
def LaneRec.unlit (r : LaneRec) : LaneRec := { r.steady with shown := .off, fresh := false }

/-- The lane has been forecast on the stock, the window and the N of this state: forecast and call condition (R43 to
R50). -/
def State.isForecast (s : State) (l : LaneIx) : Prop :=
  (s.lane l).forecast = some (s.forecastOf (s.lane l)) ∧
    (s.lane l).cond = decide (offset s.line.n (s.forecastOf (s.lane l)).rref ≤ (s.lane l).cfg.horizon)

/-- A forecast of the lane as it stands makes a lane need change request: the condition holds for a QUIET lane, or not
for a CALLING, WAITING or ADMITTED one (R51). -/
def LaneRec.needs (r : LaneRec) : Prop :=
  (r.call = .quiet ∧ r.cond = true) ∨ ((r.call = .calling ∨ r.call = .waiting ∨ r.call = .admitted) ∧ r.cond = false)

/-! ## Invariants -/

/-- Every present lane holds 0..binsMax bins and 0..B × Q parts (R21). -/
def State.StockInv (s : State) : Prop :=
  ∀ l, (s.lane l).present = true →
    (s.lane l).b ≤ (s.lane l).cfg.binsMax ∧ (s.lane l).s ≤ (s.lane l).b * (s.lane l).cfg.q

/-- The transmit queue holds at most 8 frames, no two with one replacement key, and outside ACTIVE nothing but REPORT
frames (R176, R177). -/
def State.TransmitInv (s : State) : Prop :=
  s.air.txq.length ≤ 8 ∧ (s.air.txq.map TxFrame.key).Nodup ∧
    (s.start.state ≠ .active → ∀ f ∈ s.air.txq, f.kind = .report)

/-- The receive queue holds at most 8 frames, and it holds any only behind a CLAIMSET that waits for the busy book of a
station in LISTEN or ACTIVE (R173, R175). -/
def State.ReceiveInv (s : State) : Prop :=
  s.air.rxq.length ≤ 8 ∧
    (s.air.rxq ≠ [] → (s.start.state = .listen ∨ s.start.state = .active) ∧ s.busy = true ∧
      ∃ f rest, s.air.rxq = f :: rest ∧ s.waitsForBook f = true)

/-- The sequence window: in RACK role P entries once a pacer has been heard, and nothing before; nothing is followed in
LOAD, where the profile is read (R15, R16). -/
def State.WindowInv (s : State) : Prop :=
  (s.start.state = .load → s.line.state = .unsynced) ∧
    (s.line.state = .unsynced → s.line.window = [] ∧ s.line.silence = none) ∧
    (s.start.role = .rack → s.line.state ≠ .unsynced → s.line.window.length = s.prof.p)

/-- The run list holds at most 6 records, with different run ids (R56). -/
def State.RunListInv (s : State) : Prop := s.runs.length ≤ 6 ∧ (s.runs.map RunRec.id).Nodup

/-- The run slots: the planning slot's run is PLANNING, the current slot's never is, and it has a present stop exactly in
ATSTOP and DETOUR; the manifest holds at most 32 entries and the stop log at most 16 (R99, R117, R124). -/
def State.PlannerInv (s : State) : Prop :=
  (∀ r, s.planner.planning = some r → r.state = .planning ∧ r.present = none) ∧
    (∀ r, s.planner.current = some r →
      r.state ≠ .planning ∧ (r.present.isSome = true ↔ r.state = .atstop ∨ r.state = .detour)) ∧
    s.planner.manifest.length ≤ 32 ∧ s.planner.log.length ≤ 16

/-- The notice list holds at most 8 notices, no two of one kind and station, with counts 1..255, and the lost count is at
most 255 (R159, R160). -/
def State.NoticeInv (s : State) : Prop :=
  s.panel.notices.length ≤ 8 ∧ (s.panel.notices.map fun x => (x.kind, x.station)).Nodup ∧
    (∀ x ∈ s.panel.notices, 1 ≤ x.count ∧ x.count ≤ 255) ∧ s.panel.lost ≤ 255

/-- A list of entries that a claim book may hold: within the capacity of the role, no two of one station and lane, the own
mark exactly on the entries of the own address, and none of them own outside RACK role (R73, R74). -/
def State.EntriesInv (s : State) (es : List Entry) : Prop :=
  es.length ≤ s.start.role.bookCapacity ∧ (es.map fun e => (e.station, e.lane)).Nodup ∧
    (∀ e ∈ es, e.own = true ↔ e.station = s.own) ∧ (s.start.role ≠ .rack → ∀ e ∈ es, e.own = false)

/-- A lane has an own entry exactly in WAITING and ADMITTED, by the entry's mark, with the entry's run, bins and LATE
(R93). -/
def State.OwnInv (s : State) : Prop :=
  (∀ e ∈ s.book.entries, e.own = true →
    (s.lane e.lane).call = (if e.admitted then .admitted else .waiting) ∧ (s.lane e.lane).claimRun = some e.run ∧
      (s.lane e.lane).requested = e.bins ∧ (s.lane e.lane).late = e.late) ∧
    ∀ l, (s.lane l).call.claims = true → ∃ e ∈ s.book.entries, e.own = true ∧ e.lane = l

/-- An operation in progress: the book it read was one, with an own entry exactly for the lanes it read in WAITING and
ADMITTED; a lane not moved since stands in the call state read, and a lane moved since has no claim and has set the
pending mark (R79, R81). -/
def State.OpInv (s : State) (op : BookOp) : Prop :=
  s.EntriesInv op.entries ∧ (∀ cs, op.claimset = some cs → cs.sender ≠ s.own) ∧ (s.start.role ≠ .rack → op.runs = []) ∧
    ∀ l : LaneIx,
      (op.lanes[l].call.claims = true ↔ ∃ e ∈ op.entries, e.own = true ∧ e.lane = l) ∧
      ((s.lane l).present = false → op.lanes[l].call = .quiet ∧ op.lanes[l].cond = false) ∧
      ((s.lane l).moved = false → (s.lane l).call = op.lanes[l].call) ∧
      ((s.lane l).moved = true → (s.lane l).call.claims = false ∧ s.book.pendingMark = true)

/-- The claim book (R73, R74, R93): its entries, the own lanes they stand for and the operation in progress. What makes
it stand from step to step is with it: no run is listed outside RACK role, no frame of the own address waits, an absent
lane is QUIET, and in LOAD the book is empty and every lane QUIET. -/
def State.BookInv (s : State) : Prop :=
  s.EntriesInv s.book.entries ∧ s.OwnInv ∧ (∀ op, s.book.op = some op → s.OpInv op) ∧
    (s.start.role ≠ .rack → s.runs = []) ∧ (∀ f ∈ s.air.rxq, f.src ≠ s.ownByte) ∧
    (∀ l, (s.lane l).present = false → (s.lane l).call = .quiet ∧ (s.lane l).cond = false) ∧
    (s.start.state = .load →
      s.book.entries = [] ∧ s.book.op = none ∧ ∀ l, (s.lane l).call = .quiet ∧ (s.lane l).cond = false)

/-- AT-RISK of every lane is the flag that R149 derives from the lane and its run; in LOAD every lane is QUIET. -/
def State.RiskInv (s : State) : Prop :=
  (∀ l, (s.lane l).atRisk = s.riskOf l) ∧ (s.start.state = .load → ∀ l, (s.lane l).call = .quiet)

end Machine

end Sys2Proof
end

