-- ==== Sys2Proof/Certificates/Slice0/Obligations.lean ====
section
/-! DEFINITION. The statements about the model. Each docstring names the rule it follows, or the log entry where it states
a choice of the model. -/

open Sys2Proof Sys2Proof.Machine

/-! ## Steps -/

/-- A step with a command waiting is `exec` of the front command on the state with the queue's rest. -/
def Obligations.StepRunsFrontCommand : Prop :=
  ∀ (c : Instr) (rest : List Instr) (s : State), s.pending = c :: rest → step s = exec c { s with pending := rest }

/-- With no command waiting a step is one byte time at the air port (notes/assumptions/3.md; what passes in it, R179,
R181). -/
def Obligations.IdleStepPassesOneByteTime : Prop :=
  ∀ s : State, s.pending = [] →
    (s.portWorks = false → step s = .next s) ∧
    (s.portWorks = true →
      (∀ x, s.air.tx = some x → step s = .next { s with air.tx := some { x with left := x.left - 1 } }) ∧
      (s.air.tx = none → s.air.quiet = none → step s = .next s) ∧
      (∀ q, s.air.tx = none → s.air.quiet = some q →
        step s = .next
          { s with air.quiet := some (q + 1),
                   air.backoff := if s.gap ≤ q then s.air.backoff - 1 else s.air.backoff }))

/-- The model's choice: every command answers a next state in every state (DEDUCED, notes/assumptions/23.md), and leaves the
queue of waiting commands, the model's own, as it was (DESIGN CHOICE, notes/assumptions/2.md). -/
def Obligations.EveryCommandAnswersNext : Prop :=
  ∀ (c : Instr) (s : State), ∃ t, exec c s = .next t ∧ t.pending = s.pending

/-- Role, address and start cause stand from one start to the next (R185), and so does a clash flag once set (R172). -/
def Obligations.StrapsAndClashStandBetweenStarts : Prop :=
  ∀ (c : Instr) (s t : State), c.isStart = false → exec c s = .next t →
    t.start.role = s.start.role ∧ t.start.own = s.start.own ∧ t.start.cause = s.start.cause ∧
    (s.air.clash = true → t.air.clash = true)

/-! ## Starts (Section 10) -/

/-- What a power-on start leaves (R184, R185; R8, R15, R77, R100, R126, R162, R183): the straps sampled, the retained area
cleared and every block at its power-on values. -/
def Obligations.PowerOnStartValues : Prop :=
  ∀ (role : BitVec 2) (addr : BitVec 7) (s : State),
    let bad : Bool := decide (role = 3 ∨ addr = 0 ∨ addr = 127)
    ∃ t, exec (.powerOnStart role addr) s = .next t ∧
      t.start.state = (if bad then .fault else .load) ∧ t.start.faultCause = (if bad then .badStraps else .noFault) ∧
      t.start.cause = .powerOn ∧ t.start.clamped = 0 ∧ t.start.clock = 0 ∧ t.start.resetLow = false ∧
      t.start.own = addr ∧ t.start.listenEnd = none ∧
      t.start.role = (if role = 0 then .rack else if role = 1 then .train else if role = 2 then .pacer else .unknown) ∧
      t.cnt = .zero ∧ (∀ l, t.lane l = .cleared) ∧
      t.pacer.nLocal = 0 ∧ t.pacer.state = .listen ∧ t.pacer.record = ⟨63, 63, 63, 63⟩ ∧ t.pacer.measured = 0 ∧
      t.pacer.prevEdge = none ∧ t.pacer.keepalive = none ∧
      t.line.followed = none ∧ t.line.state = .unsynced ∧ t.line.n = 0 ∧ t.line.takt = 0 ∧ t.line.silence = none ∧
      t.line.window = [] ∧
      t.bankA = .closed ∧ t.bankB = .closed ∧ t.runs = [] ∧ t.book = .fresh ∧ t.planner = .fresh 0 ∧
      t.panel.notices = [] ∧ t.panel.lost = 0 ∧ t.panel.pick = 1 ∧ t.panel.stopIx = 1 ∧ t.panel.phase = 0 ∧
      t.panel.display = List.replicate 40 0x20 ∧
      t.air.rxq = [] ∧ t.air.txq = [] ∧ t.air.tx = none ∧ t.air.rx = .hunting ∧ t.air.clash = false ∧
      t.air.random.toNat = addr.toNat * 257

/-- What a pin reset keeps (R184, R39, R8, R57, R77, R183): the counters, N_local, the next run number and the retained
figures of every lane; everything else starts as at power-on (R185, R8, R15, R100, R126, R154, R162, R182). -/
def Obligations.PinResetKeepsRetainedArea : Prop :=
  ∀ (role : BitVec 2) (addr : BitVec 7) (s : State),
    let bad : Bool := decide (role = 3 ∨ addr = 0 ∨ addr = 127)
    let off : SensorIn := ⟨⟨none, none⟩, false⟩
    ∃ t, exec (.pinReset role addr) s = .next t ∧
      t.start = { resetLow := false, state := if bad then .fault else .load, cause := .pin
                  faultCause := if bad then .badStraps else .noFault, clamped := 0, clock := 0
                  role := if role = 0 then .rack else if role = 1 then .train else if role = 2 then .pacer else .unknown
                  own := addr, listenEnd := none } ∧
      t.cnt = s.cnt ∧
      t.pacer = { state := .listen, nLocal := s.pacer.nLocal, record := ⟨63, 63, 63, 63⟩, measured := 0, prevEdge := none
                  keepalive := none, variantIn := ⟨none, none⟩, validIn := ⟨none, none⟩, taktIn := ⟨none, none⟩ } ∧
      t.planner = .fresh s.planner.nextRun ∧
      (∀ l, (t.lane l).stock = (s.lane l).stock ∧ (t.lane l).present = (s.lane l).present ∧
        (t.lane l).surplus = (s.lane l).surplus ∧ (t.lane l).shortBins = (s.lane l).shortBins ∧
        (t.lane l).delivery = LaneRec.cleared.delivery ∧ (t.lane l).forecast = none ∧ (t.lane l).cond = false ∧
        (t.lane l).atRisk = false ∧ (t.lane l).overfill = false ∧ (t.lane l).staged = .off ∧
        (t.lane l).fresh = false ∧ (t.lane l).shown = .off ∧ (t.lane l).feedIn = off ∧ (t.lane l).emptyIn = off ∧
        (t.lane l).reserveIn = off) ∧
      t.line = .fresh ∧ t.bankA = .closed ∧ t.bankB = .closed ∧ t.runs = [] ∧ t.book = .fresh ∧
      t.panel = { phase := 0, chain := s.panel.chain, display := List.replicate 40 0x20, pick := 1, stopIx := 1
                  notices := [], lost := 0 } ∧
      t.air = { carrier := s.air.carrier, quiet := none, rx := .hunting, rxq := [], txq := [], backoff := 0, tx := none
                random := addr.setWidth 16 * 257, clash := false }

/-- RESETn low stops the station (R184): KEY falls, and until a start no command changes a block of the station. -/
def Obligations.ResetnLowHoldsStation : Prop :=
  (∀ s : State, exec .resetnLow s = .next { s with start.resetLow := true, air.tx := none, air.quiet := none }) ∧
  ∀ (c : Instr) (s t : State), c.isStart = false → s.start.resetLow = true → exec c s = .next t →
    t.start = s.start ∧ t.lanes = s.lanes ∧ t.line = s.line ∧ t.pacer = s.pacer ∧ t.runs = s.runs ∧ t.book = s.book ∧
    t.planner = s.planner ∧ t.panel = s.panel ∧ t.bankA = s.bankA ∧ t.bankB = s.bankB ∧ t.cnt = s.cnt ∧
    t.air.txq = s.air.txq ∧ t.air.rxq = s.air.rxq

/-- An image that fails ends the start in FAULT with the cause of the first test it fails, and the retained area stands
(R186, R187, R189, R193). -/
def Obligations.UnusableProfileFaults : Prop :=
  ∀ (img : List Byte) (s : State), s.start.state = .load → s.start.resetLow = false →
    (imgErased img = true ∨ imgIntact img = false ∨ s.start.role.imageCode ≠ some (imgByte img 3) ∨
      imgLenFits img s.start.role = false) →
    ∃ t, exec (.profileReadEnd img) s = .next t ∧ t.start.state = .fault ∧
      t.start.faultCause =
        (if imgErased img then .noProfile
         else if !imgIntact img then .badCheck
         else if s.start.role.imageCode ≠ some (imgByte img 3) then .roleMismatch
         else .badCheck) ∧
      t.lanes = s.lanes ∧ t.cnt = s.cnt ∧ t.pacer = s.pacer ∧ t.planner = s.planner ∧
      t.portWorks = true ∧ (t.start.faultCause ≠ .roleMismatch → t.gap = 4 ∧ t.divisor = 96)

/-- A good image enters LISTEN with every setting in its range (R188, R190 to R193, R195): the common block, the fields of
the role and, of a rack, those of each present lane; the retained values that the role does not use are cleared (R193). -/
def Obligations.GoodProfileEntersListen : Prop :=
  ∀ (img : List Byte) (s : State), s.start.state = .load → s.start.resetLow = false → imgErased img = false →
    imgIntact img = true → s.start.role.imageCode = some (imgByte img 3) → imgLenFits img s.start.role = true →
    ∃ t, exec (.profileReadEnd img) s = .next t ∧ t.start.state = .listen ∧
      t.start.listenEnd = some (s.start.clock + 3 * t.prof.tRefresh) ∧ t.start.clamped ≤ 255 ∧
      (1 ≤ t.prof.d ∧ t.prof.d ≤ 4095) ∧ (1 ≤ t.prof.gap ∧ t.prof.gap ≤ 15) ∧
      (20 ≤ t.prof.tRefresh ∧ t.prof.tRefresh ≤ 100) ∧ (30 ≤ t.prof.tSilence ∧ t.prof.tSilence ≤ 600) ∧
      (s.start.role = .rack → 1 ≤ t.prof.p ∧ t.prof.p ≤ 63 ∧ t.prof.stopA ≤ 31 ∧ t.prof.stopB ≤ 31 ∧
        t.pacer.nLocal = 0 ∧ t.planner.nextRun = 0 ∧ t.cnt = s.cnt ∧
        ∀ l, (t.lane l).present = true →
          let c := (t.lane l).cfg
          (1 ≤ c.q ∧ c.q ≤ 999) ∧ (1 ≤ c.binsMax ∧ c.binsMax ≤ 4) ∧ c.startBins ≤ c.binsMax ∧ c.cls ≤ 3 ∧
          (1 ≤ c.slot ∧ c.slot ≤ 4) ∧ (1 ≤ c.horizon ∧ c.horizon ≤ 255) ∧ c.safety ≤ 15 ∧ c.du ≤ 15 ∧
          c.usage.length = 64 ∧ ∀ u ∈ c.usage, u ≤ 15) ∧
      (s.start.role = .train → (∀ c, t.prof.caps.get c ≤ 63) ∧ (10 ≤ t.prof.tReceipt ∧ t.prof.tReceipt ≤ 300) ∧
        t.prof.route.length ≤ 24 ∧ (t.prof.route.map RouteStop.stop).Nodup ∧
        (∀ x ∈ t.prof.route, 1 ≤ x.stop ∧ x.stop ≤ 31) ∧ t.pacer.nLocal = 0 ∧
        t.cnt = { s.cnt with phantom := 0, rundrop := 0, double := 0 }) ∧
      (s.start.role = .pacer → 10 ≤ t.prof.taktMin ∧ t.prof.taktMin ≤ t.prof.taktNom ∧
        t.prof.taktNom ≤ t.prof.taktMax ∧ t.prof.taktMax ≤ 1200 ∧ (10 ≤ t.prof.tKeep ∧ t.prof.tKeep ≤ 100) ∧
        t.pacer.measured = t.prof.taktNom ∧ t.planner.nextRun = 0 ∧
        t.cnt = { s.cnt with phantom := 0, rundrop := 0, double := 0, bookfull := 0 }) ∧
      (s.start.role ≠ .rack → ∀ l, (t.lane l).present = false ∧ (t.lane l).drift = 0 ∧ (t.lane l).shortfall = 0 ∧
        (t.lane l).surplus = 0 ∧ (t.lane l).shortBins = 0)

/-- The stock of every lane after a start that passes CHECK in RACK role (R38, R39, R40). -/
def Obligations.StartSetsLaneStock : Prop :=
  ∀ (img : List Byte) (s : State) (l : LaneIx), s.start.state = .load → s.start.resetLow = false →
    s.start.role = .rack → imgErased img = false → imgIntact img = true → imgByte img 3 = 0 → imgLen img = 674 →
    ∃ t, exec (.profileReadEnd img) s = .next t ∧
      let old := s.lane l
      let new := t.lane l
      new.present = decide (imgWord img (laneAt l) ≠ 0 ∧ t.prof.stopOf (bankOf l) ≠ 0) ∧
      new.drift = old.drift ∧ new.shortfall = old.shortfall ∧ new.surplus = old.surplus ∧
      new.shortBins = old.shortBins ∧
      (new.present = true → (s.start.cause = .powerOn ∨ old.present = false) →
        new.b = new.cfg.startBins ∧ new.s = new.cfg.startBins * new.cfg.q ∧ new.uncounted = true ∧
        new.starved = false) ∧
      (new.present = true → s.start.cause = .pin → old.present = true →
        new.b = min old.b new.cfg.binsMax ∧ new.s = min old.s (new.b * new.cfg.q) ∧ new.uncounted = old.uncounted ∧
        new.starved = (old.starved && new.s == 0)) ∧
      (new.present = false → (s.start.cause = .powerOn ∨ old.present = true) →
        new.b = 0 ∧ new.s = 0 ∧ new.uncounted = true ∧ new.starved = false)

/-- At the end of the listen period the start state becomes ACTIVE and the role's timers start (R196; R95, R106, R122, R5,
R6); a TRAIN queues the notice of the run it opens (R106), and a PACER that becomes ACTIVE a UNIT (R6). -/
def Obligations.ListenEndEntersActive : Prop :=
  ∀ s : State, s.start.state = .listen → s.start.resetLow = false → s.due s.start.listenEnd = true →
    ∃ t, exec .listenPeriodEnd s = .next t ∧
      t.start = { s.start with state := .active, listenEnd := none } ∧ t.prof = s.prof ∧ t.runs = s.runs ∧
      t.panel = s.panel ∧
      (s.start.role = .rack → t.book.refresh = some (s.start.clock + s.prof.tRefresh) ∧
        (s.busy = false → ∃ op, t.book.op = some op ∧ op.refresh = true) ∧
        (s.busy = true → t.book.op = s.book.op ∧ t.book.refreshDue = true) ∧ t.air = s.air) ∧
      (s.start.role = .train → t.planner.refresh = some (s.start.clock + s.prof.tRefresh) ∧
        (s.synced = true → s.planner.current = none → s.planner.planning = none →
          ∃ r, t.planner.planning = some r ∧ r.id = s.ownByte ++ s.planner.nextRun ∧ r.state = .planning ∧
            t.planner.nextRun = s.planner.nextRun + 1 ∧
            (s.txRoom = true → ∃ f ∈ t.air.txq, f.kind = .run ∧ f.payload.take 3 = bytes2 r.id ++ [0])) ∧
        (s.synced = false → t.planner.planning = s.planner.planning ∧ t.air = s.air)) ∧
      (s.start.role = .pacer →
        (s.pacer.state = .listen → t.line.followed = some s.ownByte ∧
          t.line.state = .tracking ∧ t.line.n = s.pacer.nLocal ∧ t.line.takt = s.pacer.measured ∧
          t.line.silence = none ∧
          t.pacer = { s.pacer with state := .active, keepalive := some (s.start.clock + s.prof.tKeep) } ∧
          ((s.txRoom = true ∨ ∃ f ∈ s.air.txq, f.kind = .unit) →
            (⟨.unit, writeUnit s.pacer.notice⟩ : TxFrame) ∈ t.air.txq)) ∧
        (s.pacer.state ≠ .listen → t.pacer = s.pacer ∧ t.line = s.line ∧ t.air = s.air))

/-- A timer unit raises the station clock, and the elapsed travel of a train under way, and nothing else (Section 0.5, R118,
R184). -/
def Obligations.TimerUnitRaisesClockAndTravel : Prop :=
  ∀ s : State, s.start.resetLow = false → s.start.clock + 1 < 2 ^ 32 →
    let travels : Bool := s.worksAs .train &&
      s.planner.current.any fun r => r.state == .enroute || r.state == .atstop || r.state == .detour
    exec .timerUnit s = .next
      { s with start.clock := s.start.clock + 1,
               planner.e := if travels then min (s.planner.e + 1) 65535 else s.planner.e }

/-! ## The line clock (Section 1) -/

/-- A takt edge counts one unit, records its variant and measures the takt (R3); in pacer state ACTIVE the follower side is
held to the count (R6) and a UNIT is queued, in the others neither it nor the air port changes (R4). The variant is a
free value where an input has no accepted level (notes/assumptions/4.md). The keepalive timer queues the notice
unchanged (R4), and restarts with each notice, also where the transmit queue does not take it
(notes/assumptions/25.md). -/
def Obligations.PacerCountsAndAnnounces : Prop :=
  ∀ s : State, s.worksAs .pacer = true →
    let takes : Prop := s.isActive = true ∧ (s.txRoom = true ∨ ∃ f ∈ s.air.txq, f.kind = .unit)
    (∃ t v, exec .taktEdge s = .next t ∧
      t.pacer.nLocal = s.pacer.nLocal + 1 ∧
      t.pacer.record = ⟨s.pacer.record.v2, s.pacer.record.v1, s.pacer.record.v0, v⟩ ∧
      (s.pacer.validIn.acc = some false → v = 63) ∧
      (∀ w, s.pacer.validIn.acc = some true → s.pacer.variantIn.acc = some w → v = w) ∧
      t.pacer.measured =
        (match s.pacer.prevEdge with
         | some e => max s.prof.taktMin (min s.prof.taktMax (s.start.clock - e))
         | none => s.prof.taktNom) ∧
      t.pacer.prevEdge = some s.start.clock ∧ t.pacer.state = s.pacer.state ∧
      (s.pacer.state = .active →
        t.line = { s.line with n := s.pacer.nLocal + 1, takt := t.pacer.measured } ∧
        t.pacer.keepalive = some (s.start.clock + s.prof.tKeep) ∧
        (takes → (⟨.unit, writeUnit t.pacer.notice⟩ : TxFrame) ∈ t.air.txq)) ∧
      (s.pacer.state ≠ .active → t.line = s.line ∧ t.air = s.air ∧ t.pacer.keepalive = s.pacer.keepalive) ∧
      t.start = s.start ∧ t.prof = s.prof ∧ t.runs = s.runs ∧ t.planner = s.planner ∧ t.panel = s.panel) ∧
    (s.pacer.state = .active → s.due s.pacer.keepalive = true →
      ∃ t, exec .keepaliveTimerExpiry s = .next t ∧
        t.pacer = { s.pacer with keepalive := some (s.start.clock + s.prof.tKeep) } ∧
        (takes → (⟨.unit, writeUnit s.pacer.notice⟩ : TxFrame) ∈ t.air.txq ∧ t.cnt = s.cnt) ∧
        (s.isActive = false → t.air = s.air ∧ t.cnt = s.cnt) ∧
        t.line = s.line ∧ t.start = s.start ∧ t.prof = s.prof ∧ t.planner = s.planner ∧ t.panel = s.panel) ∧
    writeUnit s.pacer.notice = bytes2 s.pacer.nLocal ++ le2 s.pacer.measured ++
      [s.pacer.record.v3.setWidth 8, s.pacer.record.v2.setWidth 8, s.pacer.record.v1.setWidth 8,
        s.pacer.record.v0.setWidth 8]

/-- Adoption (R9, R10, R11, R17): the first UNIT taken sets N, F, the takt and the window, and consumes nothing; every
present lane is forecast, with its reference run-out (R49), its call condition (R50) and the request to the claim book
(R51, R78). That the operation started reads every lane's condition as it stands after the whole event is the model's
reading (DEDUCED, notes/assumptions/6.md). A TRAIN in ACTIVE opens a PLANNING run and announces it (R106). -/
def Obligations.UnitAdoptionSetsClock : Prop :=
  ∀ (s : State) (src n0 n1 t0 t1 a3 a2 a1 a0 : Byte), s.hears src = true → s.synced = false →
    s.takesFrom src = true → ¬(s.start.role = .pacer ∧ s.pacer.state = .active) →
    let u : UnitNotice := ⟨word n0 n1, word t0 t1, a3, a2, a1, a0⟩
    ∃ t, exec (.unit src [n0, n1, t0, t1, a3, a2, a1, a0]) s = .next t ∧
      t.line.n = u.n ∧ t.line.followed = some src ∧ t.line.state = .tracking ∧
      t.line.takt = max 10 (min 1200 u.takt.toNat) ∧ t.line.silence = some (s.start.clock + s.prof.tSilence) ∧
      t.cnt.resync = s.cnt.resync ∧ t.cnt.gap = s.cnt.gap ∧ t.cnt.conflict = s.cnt.conflict ∧
      (∀ l, (t.lane l).stock = (s.lane l).stock ∧ (t.lane l).delivery = (s.lane l).delivery) ∧
      (s.start.role = .rack →
        t.line.window = List.replicate (s.prof.p - 4) none ++ u.heard.drop (4 - s.prof.p) ∧
        (∀ l, (s.lane l).present = true → ∃ f, (t.lane l).forecast = some f ∧
          f.rref = f.r + BitVec.ofNat 16 s.prof.p ∧
          (t.lane l).cond = decide (offset u.n f.rref ≤ (s.lane l).cfg.horizon)) ∧
        (let need := ∃ l, (s.lane l).present = true ∧
          (((s.lane l).call = .quiet ∧ (t.lane l).cond = true) ∨
            (((s.lane l).call = .calling ∨ (s.lane l).call = .waiting ∨ (s.lane l).call = .admitted) ∧
              (t.lane l).cond = false))
         (need → s.busy = false → ∃ op, t.book.op = some op ∧ ∀ l, op.lanes[l].cond = (t.lane l).cond) ∧
         (need → s.busy = true → t.book = { s.book with pendingMark := true }) ∧
         (¬need → t.book = s.book))) ∧
      (s.start.role = .train →
        let opens := s.isActive = true ∧ s.planner.planning = none ∧
          ∀ r, s.planner.current = some r → r.state ≠ .loading
        (opens → ∃ r, t.planner = { s.planner with planning := some r, nextRun := s.planner.nextRun + 1 } ∧
          r.id = s.ownByte ++ s.planner.nextRun ∧ r.state = .planning ∧ r.served = (s.prof.route.map fun _ => false) ∧
          r.present = none ∧ r.opened = s.start.clock ∧
          (s.air.txq.length + 2 ≤ 8 → ∃ f ∈ t.air.txq, f.kind = .run ∧ f.payload.take 3 = bytes2 r.id ++ [0])) ∧
        (¬opens → t.planner = s.planner ∧ t.air = { s.air with rx := .hunting }) ∧
        s.bookTakes t opens) ∧
      (s.start.role ≠ .train → t.planner = s.planner ∧ t.air = { s.air with rx := .hunting }) ∧
      (s.start.role ≠ .rack → s.start.role ≠ .train → t.book = s.book) ∧
      (s.start.role = .pacer → t.pacer.state = .standby ∧ t.pacer.nLocal = u.n) ∧
      t.start = s.start ∧ t.prof = s.prof ∧ t.runs = s.runs ∧ t.panel = s.panel

/-- An advance (R12, R17, R18, R31, R34): the joining units enter the window, as many leave it and are consumed one by one
against every lane, and GAP counts the units not heard; then every present lane is forecast on the new stock, window and
N, with its call condition (R50) and the request to the claim book (R51, R78; an operation started reads the lanes after
the whole event: DEDUCED, notes/assumptions/6.md). A STANDBY pacer's count takes the heard N (R7). What one unit takes of
a lane (R31) and the usage it has (R20). -/
def Obligations.UnitAdvanceConsumes : Prop :=
  (∀ (r : LaneRec) (e : Option Variant),
    let u := match e with
      | none => r.cfg.du
      | some v => if v = 63 then 0 else r.cfg.usage.getD v.toNat 0
    (r.present = false → r.consume e = r) ∧
    (r.present = true → r.s < u →
      r.consume e = { r with shortfall := min (r.shortfall + (u - r.s)) 65535, s := 0, starved := true }) ∧
    (r.present = true → u ≤ r.s → r.consume e = { r with s := r.s - u })) ∧
  ∀ (s : State) (src n0 n1 t0 t1 a3 a2 a1 a0 : Byte), s.hears src = true → s.synced = true →
    s.takesFrom src = true → ¬(s.start.role = .pacer ∧ s.pacer.state = .active) →
    let u : UnitNotice := ⟨word n0 n1, word t0 t1, a3, a2, a1, a0⟩
    let d := (u.n - s.line.n).toNat
    let w := s.line.window ++ (List.replicate (d - 4) none ++ u.heard.drop (4 - d))
    1 ≤ d → d ≤ 255 →
    ∃ t, exec (.unit src [n0, n1, t0, t1, a3, a2, a1, a0]) s = .next t ∧
      t.line.n = u.n ∧ t.line.followed = some src ∧ t.line.state = .tracking ∧
      t.line.takt = max 10 (min 1200 u.takt.toNat) ∧ t.line.silence = some (s.start.clock + s.prof.tSilence) ∧
      t.cnt = { s.cnt with gap := min (s.cnt.gap + (d - 4)) 65535 } ∧
      (s.start.role = .rack → t.line.window = w.drop d ∧
        (∀ l, (t.lane l).stock = ((w.take d).foldl (fun r e => r.consume e) (s.lane l)).stock) ∧
        (∀ l, (s.lane l).present = true → t.isForecast l) ∧
        s.bookTakes t (∃ l, (s.lane l).present = true ∧ (t.lane l).needs)) ∧
      (s.start.role ≠ .rack → t.line.window = s.line.window ∧ t.book = s.book ∧
        ∀ l, (t.lane l).steady = (s.lane l).steady) ∧
      (∀ l, (s.lane l).present = false → (t.lane l).steady = (s.lane l).steady) ∧
      (∀ l, (t.lane l).delivery = (s.lane l).delivery ∧ (t.lane l).surplus = (s.lane l).surplus) ∧
      (s.start.role = .pacer → t.pacer = { s.pacer with state := .standby, nLocal := u.n }) ∧
      (s.start.role ≠ .pacer → t.pacer = s.pacer) ∧
      t.start = s.start ∧ t.prof = s.prof ∧ t.runs = s.runs ∧ t.planner = s.planner ∧ t.panel = s.panel ∧
      t.air = { s.air with rx := .hunting }

/-- A keepalive moves nothing but the takt, and a resync sets N and rebuilds the window; neither consumes a unit (R12,
R13, R17). A keepalive forecasts no lane (R43); at a resync every present lane is forecast on the new window and N, with
its call condition (R50) and the request to the claim book (R51, R78; an operation started reads the lanes after the
whole event: DEDUCED, notes/assumptions/6.md). A STANDBY pacer's count takes the heard N at both (R7). -/
def Obligations.KeepaliveOrResyncConsumesNothing : Prop :=
  ∀ (s : State) (src n0 n1 t0 t1 a3 a2 a1 a0 : Byte), s.hears src = true → s.synced = true →
    s.takesFrom src = true → ¬(s.start.role = .pacer ∧ s.pacer.state = .active) →
    let u : UnitNotice := ⟨word n0 n1, word t0 t1, a3, a2, a1, a0⟩
    let d := (u.n - s.line.n).toNat
    let heard : LineClock := { s.line with
      followed := some src, state := .tracking, takt := max 10 (min 1200 u.takt.toNat),
      silence := some (s.start.clock + s.prof.tSilence) }
    (d = 0 ∨ 256 ≤ d) →
    ∃ t, exec (.unit src [n0, n1, t0, t1, a3, a2, a1, a0]) s = .next t ∧
      (d = 0 → t.line = heard ∧ t.cnt = s.cnt ∧ t.book = s.book ∧ ∀ l, (t.lane l).steady = (s.lane l).steady) ∧
      (256 ≤ d → t.cnt = { s.cnt with resync := min (s.cnt.resync + 1) 65535 } ∧
        (s.start.role = .rack →
          t.line = { heard with
            n := u.n, window := List.replicate (s.prof.p - 4) none ++ u.heard.drop (4 - s.prof.p) } ∧
          (∀ l, (s.lane l).present = true → t.isForecast l) ∧
          (∀ l, (s.lane l).present = false → (t.lane l).steady = (s.lane l).steady) ∧
          s.bookTakes t (∃ l, (s.lane l).present = true ∧ (t.lane l).needs)) ∧
        (s.start.role ≠ .rack → t.line = { heard with n := u.n } ∧ t.book = s.book ∧
          ∀ l, (t.lane l).steady = (s.lane l).steady)) ∧
      (∀ l, (t.lane l).stock = (s.lane l).stock ∧ (t.lane l).delivery = (s.lane l).delivery) ∧
      (s.start.role = .pacer → t.pacer = { s.pacer with state := .standby, nLocal := u.n }) ∧
      (s.start.role ≠ .pacer → t.pacer = s.pacer) ∧
      t.start = s.start ∧ t.prof = s.prof ∧ t.runs = s.runs ∧ t.planner = s.planner ∧ t.panel = s.panel ∧
      t.air = { s.air with rx := .hunting }

/-- Pacers in conflict (R6, R9): a UNIT from above F while TRACKING, or from above an ACTIVE pacer, is counted and moves
nothing; one from below an ACTIVE pacer makes it stand down. -/
def Obligations.ConflictingUnitDiscarded : Prop :=
  ∀ (s : State) (src n0 n1 t0 t1 a3 a2 a1 a0 : Byte), s.hears src = true →
    let active : Bool := s.start.role == .pacer && s.pacer.state == .active
    ((active = false ∧ s.line.state = .tracking ∧ ∃ f, s.line.followed = some f ∧ f.toNat < src.toNat) ∨
        (active = true ∧ s.own < src.toNat) →
      ∃ t, exec (.unit src [n0, n1, t0, t1, a3, a2, a1, a0]) s = .next t ∧
        t.cnt = { s.cnt with conflict := min (s.cnt.conflict + 1) 65535 } ∧ t.line = s.line ∧ t.pacer = s.pacer ∧
        t.air = { s.air with rx := .hunting } ∧ (∀ l, (t.lane l).stock = (s.lane l).stock) ∧ t.start = s.start ∧ t.runs = s.runs) ∧
    (active = true ∧ src.toNat < s.own →
      ∃ t, exec (.unit src [n0, n1, t0, t1, a3, a2, a1, a0]) s = .next t ∧
        t.pacer = { s.pacer with state := .standby, nLocal := word n0 n1, keepalive := none } ∧
        t.line.followed = some src ∧ t.line.state = .tracking ∧ t.line.n = word n0 n1 ∧
        t.line.silence = some (s.start.clock + s.prof.tSilence) ∧ (∀ f ∈ t.air.txq, f.kind ≠ .unit))

/-- The silence timer makes a follower STALE with everything held, or makes a STANDBY pacer take over, which queues a UNIT
(R6, R7, R14). -/
def Obligations.SilenceExpiryStaleOrTakeover : Prop :=
  ∀ s : State, s.working = true → s.due s.line.silence = true →
    ∃ t, exec .silenceTimerExpiry s = .next t ∧
      (¬(s.start.role = .pacer ∧ s.pacer.state = .standby) →
        t.line = { s.line with state := .stale, silence := none } ∧ t.pacer = s.pacer ∧ t.air = s.air ∧
        t.cnt = s.cnt) ∧
      (s.start.role = .pacer → s.pacer.state = .standby →
        t.line = { s.line with
          followed := some s.ownByte, state := .tracking, silence := none, n := s.pacer.nLocal,
          takt := s.pacer.measured } ∧
        t.pacer = { s.pacer with state := .active, keepalive := some (s.start.clock + s.prof.tKeep) } ∧
        (s.isActive = true → (s.txRoom = true ∨ ∃ f ∈ s.air.txq, f.kind = .unit) →
          (⟨.unit, writeUnit s.pacer.notice⟩ : TxFrame) ∈ t.air.txq)) ∧
      (∀ l, (t.lane l).stock = (s.lane l).stock ∧ (t.lane l).delivery = (s.lane l).delivery) ∧
      t.start = s.start ∧ t.prof = s.prof ∧ t.runs = s.runs ∧ t.planner = s.planner ∧ t.panel = s.panel

/-! ## Stock (Section 2) -/

/-- A FEED adds a bin, or is an overfill, and is counted against a promised delivery (R26, R27, R132, R133, R150). A FEED
that adds a bin and one that completes the delivery pass the lane to the forecast unit (R34, R43): the forecast stands on
the new stock, with its call condition (R50) and the request to the claim book (R51, R78; an operation started reads the
lanes after the whole event: DEDUCED, notes/assumptions/6.md). A completion that finds an operation in progress makes a
request too (R81, R140; DEDUCED, notes/assumptions/30.md). -/
def Obligations.FeedActsOnStock : Prop :=
  ∀ (s : State) (l : LaneIx), s.worksAs .rack = true → (s.lane l).present = true →
    let r := s.lane l
    ∃ t, exec (.feedEvent l) s = .next t ∧
      (r.b < r.cfg.binsMax →
        (t.lane l).stock = { r.stock with
          b := r.b + 1, s := min (r.s + r.cfg.q) (r.cfg.binsMax * r.cfg.q),
          starved := r.starved && decide (min (r.s + r.cfg.q) (r.cfg.binsMax * r.cfg.q) = 0) } ∧
        (t.lane l).surplus = r.surplus) ∧
      (r.cfg.binsMax ≤ r.b →
        (t.lane l).stock = { r.stock with starved := r.starved && decide (r.s = 0) } ∧
        (t.lane l).surplus = min (r.surplus + 1) 65535 ∧
        ((s.bank (bankOf l)).faceOpen = true → r.staged ≠ .fast →
          (t.lane l).overfill = true ∧ (t.lane l).staged = .fast ∧ (t.lane l).shown = .fast) ∧
        ((s.bank (bankOf l)).faceOpen = false → (t.lane l).overfill = r.overfill)) ∧
      (r.call.promised = false → (t.lane l).delivery = r.delivery) ∧
      (r.call.promised = true → r.delivered + 1 ≠ r.requested →
        (t.lane l).delivery = { r.delivery with delivered := r.delivered + 1 }) ∧
      (r.call.promised = true → r.delivered + 1 = r.requested →
        (t.lane l).call = .quiet ∧ (t.lane l).onRun = none ∧ (t.lane l).requested = 0 ∧ (t.lane l).delivered = 0 ∧
        (t.lane l).short = none) ∧
      (let done := r.call.promised = true ∧ r.delivered + 1 = r.requested
       let passed := s.synced = true ∧ (r.b < r.cfg.binsMax ∨ done)
       (passed → t.isForecast l) ∧
       (¬passed → (t.lane l).forecast = r.forecast ∧ (t.lane l).cond = r.cond) ∧
       (s.bookSettled = true →
         s.bookTakes t ((passed ∧ (t.lane l).needs) ∨ (done ∧ s.busy = true)))) ∧
      (∀ m, m ≠ l → (t.lane m).unlit = (s.lane m).unlit) ∧
      t.cnt = s.cnt ∧ t.air = s.air ∧ t.line = s.line ∧ t.start = s.start ∧ t.prof = s.prof ∧ t.runs = s.runs ∧
      t.planner = s.planner ∧ t.panel = s.panel ∧ t.book.entries = s.book.entries

/-- An EMPTY on a lane with bins (R28), which is then passed to the forecast unit (R43, R44). -/
def Obligations.EmptyReconcilesStock : Prop :=
  ∀ (s : State) (l : LaneIx), s.worksAs .rack = true → (s.lane l).present = true → 0 < (s.lane l).b →
    let r := s.lane l
    let rest := (r.b - 1) * r.cfg.q
    ∃ t, exec (.emptyEvent l) s = .next t ∧
      (t.lane l).b = r.b - 1 ∧ (t.lane l).s = rest ∧
      (t.lane l).drift = max (-32767) (min 32767 (r.drift + ((r.s : Int) - (rest : Int)))) ∧
      (t.lane l).uncounted = false ∧ (t.lane l).starved = (if 0 < rest then false else r.starved) ∧
      (t.lane l).forecast = (if s.synced then some (s.forecastOf { r with s := rest }) else r.forecast) ∧
      (t.lane l).shortfall = r.shortfall ∧ (t.lane l).surplus = r.surplus ∧ (t.lane l).delivery = r.delivery ∧
      (∀ m, m ≠ l → (t.lane m).steady = (s.lane m).steady) ∧
      t.cnt = s.cnt ∧ t.air = s.air ∧ t.line = s.line ∧ t.start = s.start ∧ t.prof = s.prof ∧ t.runs = s.runs ∧
      t.planner = s.planner ∧ t.panel = s.panel ∧ t.bankA = s.bankA ∧ t.bankB = s.bankB ∧
      t.book.entries = s.book.entries

/-- A phantom empty (R29): PHANTOM rises, and nothing else of the lane's stock, forecast or delivery changes. -/
def Obligations.PhantomEmptyCounted : Prop :=
  ∀ (s : State) (l : LaneIx), s.worksAs .rack = true → (s.lane l).present = true → (s.lane l).b = 0 →
    let r := s.lane l
    ∃ t, exec (.emptyEvent l) s = .next t ∧
      t.cnt = { s.cnt with phantom := min (s.cnt.phantom + 1) 65535 } ∧
      (t.lane l).steady = { r.steady with s := 0, emptyIn := ⟨⟨some true, some true⟩, false⟩ } ∧
      (∀ m, m ≠ l → (t.lane m).steady = (s.lane m).steady) ∧
      t.air = s.air ∧ t.line = s.line ∧ t.start = s.start ∧ t.prof = s.prof ∧ t.runs = s.runs ∧
      t.planner = s.planner ∧ t.panel = s.panel ∧ t.bankA = s.bankA ∧ t.bankB = s.bankB ∧
      t.book.entries = s.book.entries

/-- A RESERVE caps the lane at one bin and passes it to the forecast unit; with one bin or none it changes nothing; a falling
RESERVE change has no effect on the lane (R30, R25). -/
def Obligations.ReserveCapsAtOneBin : Prop :=
  ∀ (s : State) (l : LaneIx), s.worksAs .rack = true → (s.lane l).present = true →
    let r := s.lane l
    (∃ t, exec (.reserveEvent l) s = .next t ∧
      (1 < r.b →
        (t.lane l).stock = { r.stock with
          b := 1, s := min r.s r.cfg.q,
          drift := max (-32767) (min 32767 (r.drift + ((r.s : Int) - (min r.s r.cfg.q : Nat)))) } ∧
        (t.lane l).forecast = (if s.synced then some (s.forecastOf { r with s := min r.s r.cfg.q }) else r.forecast)) ∧
      (r.b ≤ 1 → (t.lane l).steady = { r.steady with reserveIn := ⟨⟨some true, some true⟩, false⟩ }) ∧
      (t.lane l).surplus = r.surplus ∧ (t.lane l).delivery = r.delivery ∧
      (∀ m, m ≠ l → (t.lane m).steady = (s.lane m).steady) ∧
      t.cnt = s.cnt ∧ t.air = s.air ∧ t.line = s.line ∧ t.start = s.start ∧ t.prof = s.prof ∧ t.runs = s.runs ∧
      t.planner = s.planner ∧ t.panel = s.panel ∧ t.bankA = s.bankA ∧ t.bankB = s.bankB ∧
      t.book.entries = s.book.entries) ∧
    (∃ t, exec (.sensorFallingChange l .reserve) s = .next t ∧
      (t.lane l).steady = { r.steady with reserveIn := ⟨⟨some false, some false⟩, false⟩ })

/-- A falling change is taken only to clear its latch, and the changes of an absent lane leave their latch set and act on
nothing (R24, R25). -/
def Obligations.UntakenChangesOnlyLatch : Prop :=
  ∀ (s : State) (l : LaneIx) (k : Sensor), s.worksAs .rack = true →
    (∃ t, exec (.sensorFallingChange l k) s = .next t ∧
      (t.lane l).sensor k = ⟨⟨some false, some false⟩, !(s.lane l).present⟩ ∧
      (∀ m, (t.lane m).stock = (s.lane m).stock ∧ (t.lane m).delivery = (s.lane m).delivery) ∧
      t.cnt = s.cnt ∧ t.air = s.air ∧ t.line = s.line ∧ t.start = s.start ∧ t.runs = s.runs ∧ t.bankA = s.bankA ∧
      t.bankB = s.bankB) ∧
    ((s.lane l).present = false →
      ∃ t, exec (match k with | .feed => .feedEvent l | .empty => .emptyEvent l | .reserve => .reserveEvent l) s =
          .next t ∧
        (t.lane l).sensor k = ⟨⟨some true, some true⟩, true⟩ ∧
        (∀ m, (t.lane m).stock = (s.lane m).stock ∧ (t.lane m).delivery = (s.lane m).delivery) ∧
        t.cnt = s.cnt ∧ t.air = s.air ∧ t.line = s.line ∧ t.start = s.start ∧ t.runs = s.runs)

/-- Every step keeps B within 0..binsMax and S within 0..B × Q in every present lane (R21). -/
def Obligations.StockStaysWithinBins : Prop :=
  ∀ s t : State, s.StockInv → step s = .next t → t.StockInv

/-! ## Forecast (Section 3) -/

/-- The walk stops at the first unit whose cumulative demand exceeds the stock (R46). Where it finds one, that unit is the
run-out and BEYOND is clear; where it finds none, the run-out lies past the end h of the window by the quotient of what is
left and the default usage and one unit more, BEYOND clear, or stands at the cap with BEYOND set, which it does too where
the default usage is 0 (R47, R48). -/
def Obligations.WalkFindsFirstUncoveredUnit : Prop :=
  (∀ (stock : Nat) (us : List Nat) (k : Nat),
    walk stock us = some k ↔ k < us.length ∧ (us.take k).sum ≤ stock ∧ stock < (us.take (k + 1)).sum) ∧
  (∀ (stock : Nat) (us : List Nat), walk stock us = none ↔ us.sum ≤ stock) ∧
  (∀ (c : LineCount) (stock du : Nat) (us : List Nat), stock ≤ 3996 → 1 ≤ us.length → us.length ≤ 64 →
    let h := c + BitVec.ofNat 16 (us.length - 1)
    let past := (stock - us.sum) / du + 1
    (∀ k, walk stock us = some k → runOut c stock du us = (c + BitVec.ofNat 16 k, false)) ∧
    (walk stock us = none → du = 0 → runOut c stock du us = (c + 1023, true)) ∧
    (walk stock us = none → 0 < du → us.length - 1 + past ≤ 1023 →
      runOut c stock du us = (h + BitVec.ofNat 16 past, false)) ∧
    (walk stock us = none → 0 < du → 1023 < us.length - 1 + past → runOut c stock du us = (c + 1023, true)) ∧
    ((runOut c stock du us).1 - c).toNat ≤ 1023)

/-! ## Run list (Section 4) -/

/-- A RUN notice inserts a run the list does not hold, evicting or dropping where it is full (R59, R61), and replaces the
record of one it holds (R60, R61, R62), settling a newly served stop as a DEPART does (R63). Between records without an
ETA the larger run id leaves (DESIGN CHOICE, notes/assumptions/26.md). -/
def Obligations.RunNoticeUpdatesRunList : Prop :=
  ∀ (s : State) (src : Byte) (p : List Byte) (n : RunNotice) (st : RunState), s.worksAs .rack = true →
    s.hears src = true → shapeFits .run p = true → readRun p = some n → trainOf n.id = src → n.state = .heldAs st →
    ((s.entryAt n .a).isSome = true ∨ (s.entryAt n .b).isSome = true) →
    let wait : Timer := .running (s.start.clock + 2 * s.prof.tRefresh)
    let fresh : RunRec :=
      { id := n.id, state := st, caps := n.caps.clamp, stopA := s.entryAt n .a, stopB := s.entryAt n .b
        lastHeard := s.start.clock, mask := 0, partCount := none
        wait := if st = .planning then .stopped else wait, settled := false }
    let eta := fun (x : RunRec) =>
      (((x.stopA.toList ++ x.stopB.toList).filter fun e => !e.served).map fun e => offset s.line.n e.eta).min?
    let used := fun (x : RunRec) => (∃ l, (s.lane l).claimsOn x.id = true ∨ (s.lane l).promisedOn x.id = true) ∨
      s.bankA.visit = some x.id ∨ s.bankB.visit = some x.id
    ∃ t, exec (.runNotice src p) s = .next t ∧
      (s.runRec n.id = none → s.runs.length < 6 → t.runs = s.runs ++ [fresh] ∧ t.cnt = s.cnt) ∧
      (s.runRec n.id = none → 6 ≤ s.runs.length → (∀ x ∈ s.runs, used x) →
        t.runs = s.runs ∧ t.cnt = { s.cnt with rundrop := min (s.cnt.rundrop + 1) 65535 }) ∧
      (s.runRec n.id = none → 6 ≤ s.runs.length → (∃ x ∈ s.runs, ¬used x) →
        ∃ out ∈ s.runs, ¬used out ∧
          (∀ x ∈ s.runs, ¬used x →
            (match eta out, eta x with
             | none, none => x.id.toNat ≤ out.id.toNat
             | none, some _ => True
             | some _, none => False
             | some a, some b => b < a ∨ (a = b ∧ x.id.toNat ≤ out.id.toNat))) ∧
          t.runs = s.runs.filter (fun x => x.id != out.id) ++ [fresh] ∧ t.cnt = s.cnt) ∧
      (∀ old, s.runRec n.id = some old → ∃ new, t.runRec n.id = some new ∧
        new.id = n.id ∧ new.state = st ∧ new.caps = n.caps.clamp ∧ new.stopA = s.entryAt n .a ∧
        new.stopB = s.entryAt n .b ∧ new.lastHeard = s.start.clock ∧
        (old.state ≠ .planning → st = .planning →
          new.mask = 0 ∧ new.partCount = none ∧ new.wait = .stopped ∧ new.settled = false ∧
          t.bankA.visit ≠ some n.id ∧ t.bankB.visit ≠ some n.id ∧
          ∀ l, (s.lane l).present = true → (s.lane l).promisedOn n.id = true →
            (t.lane l).call = .calling ∧
            (t.lane l).short = some (n.id, (s.lane l).requested - (s.lane l).delivered)) ∧
        (old.state = .planning → st ≠ .planning → new.wait = wait) ∧
        ((old.state = .planning ↔ st = .planning) →
          new.mask = old.mask ∧ new.partCount = old.partCount ∧ new.wait = old.wait ∧ new.settled = old.settled) ∧
        (∀ id, id ≠ n.id → t.runRec id = s.runRec id) ∧
        (∀ k x y, old.stopOf k = some x → x.served = false → s.entryAt n k = some y → y.served = true →
          s.departureActs k n.id = true →
          (t.bank k).visit ≠ some n.id ∧ (t.bank k).recordRun ≠ some n.id ∧ (t.bank k).lastDeparted = some n.id ∧
          (∀ l, bankOf l = k → (s.lane l).present = true → (s.lane l).promisedOn n.id = true →
            (t.lane l).call = .calling ∧ (t.lane l).onRun = none ∧ (t.lane l).requested = 0 ∧
            (t.lane l).delivered = 0 ∧
            (t.lane l).short = some (n.id, (s.lane l).requested - (s.lane l).delivered)) ∧
          (s.isActive = true → s.air.txq.length + 2 ≤ 8 → (old.state = .planning ∨ st ≠ .planning) →
            (∃ l, bankOf l = k ∧ (s.lane l).present = true ∧ (s.lane l).promisedOn n.id = true) →
            ∃ f ∈ t.air.txq, f.kind = .receipt ∧ f.payload.take 3 = bytes2 n.id ++ [byte (s.prof.stopOf k)]))) ∧
      (∀ l, (t.lane l).stock = (s.lane l).stock) ∧ t.line = s.line ∧ t.start = s.start ∧ t.prof = s.prof ∧
      t.planner = s.planner ∧ t.panel = s.panel

/-- How a run leaves a rack. A run closed, heard without an own stop, or aged out (R64, R65) leaves the list, and with it
every claim, every promise and every open visit of a present lane or bank; at the end of the wait for its manifest its
claims and provisional deliveries fall (R61, R70). -/
def Obligations.RunLeavesWithItsClaims : Prop :=
  (∀ (s : State) (run : RunId), s.worksAs .rack = true →
    let gone := fun (t : State) =>
      t.runs = s.runs.filter (fun x => x.id != run) ∧
      (∀ l, (t.lane l).claimsOn run = false ∧ ((t.lane l).present = true → (t.lane l).promisedOn run = false)) ∧
      (∀ l, (s.lane l).claimsOn run = true →
        (t.lane l).call = .calling ∧ (t.lane l).claimRun = none ∧ (t.lane l).requested = 0 ∧ (t.lane l).late = false) ∧
      (∀ l, (s.lane l).present = true → (s.lane l).promisedOn run = true →
        (t.lane l).call = .calling ∧ (t.lane l).short = some (run, (s.lane l).requested - (s.lane l).delivered)) ∧
      t.bankA.visit ≠ some run ∧ t.bankB.visit ≠ some run ∧
      (∀ l, (t.lane l).stock = (s.lane l).stock) ∧ t.cnt = s.cnt ∧ t.line = s.line ∧ t.start = s.start ∧
      t.prof = s.prof
    (∀ src p n, s.hears src = true → shapeFits .run p = true → readRun p = some n → n.id = run → trainOf run = src →
      (s.runRec run).isSome = true → (n.state = .closed ∨ s.foreign n = true) →
      ∃ t, exec (.runNotice src p) s = .next t ∧ gone t ∧ t.air = { s.air with rx := .hunting }) ∧
    (∀ r, s.runRec run = some r → s.due (some (r.lastHeard + 3 * s.prof.tRefresh)) = true →
      ∃ t, exec (.runAgeingExpiry run) s = .next t ∧ gone t ∧ t.air = s.air)) ∧
  (∀ (s : State) (run : RunId) (r : RunRec) (d : Nat), s.worksAs .rack = true → s.runRec run = some r →
    r.wait = .running d → s.due (some d) = true → r.settled = false →
    ∃ t, exec (.manifestWaitExpiry run) s = .next t ∧
      t.runRec run = some { r with wait := .expired, settled := true } ∧
      (∀ id, id ≠ run → t.runRec id = s.runRec id) ∧
      (∀ l, (t.lane l).claimsOn run = false ∧
        ¬((t.lane l).call = .due ∧ (t.lane l).onRun = some run ∧ (t.lane l).provisional = true)) ∧
      (∀ l, (s.lane l).claimsOn run = true → (t.lane l).call = .calling) ∧
      (∀ l, (t.lane l).stock = (s.lane l).stock) ∧ t.cnt = s.cnt ∧ t.air = s.air ∧ t.line = s.line ∧
      t.start = s.start)

/-- A MANIFEST part with a new index promises the lane it names (R66, R67); an entry for a lane already promised on the run
confirms it with these bins (R68), and one for a lane promised on another run is counted in DOUBLE and changes nothing
of the lane (R69). -/
def Obligations.ManifestPartPromisesLane : Prop :=
  ∀ (s : State) (src r0 r1 ic lane stop bins : Byte) (old : RunRec) (l : LaneIx), s.worksAs .rack = true →
    s.hears src = true → r1 = src → s.runRec (word r0 r1) = some old → lane.toNat = l.val →
    (s.lane l).present = true → s.prof.stopOf (bankOf l) = stop.toNat → 1 ≤ bins.toNat → bins.toNat ≤ 4 →
    ic.toNat / 16 < ic.toNat % 16 → ic.toNat % 16 ≤ 4 → (old.partCount = none ∨ old.partCount = some (ic.toNat % 16)) →
    old.mask.getLsbD (ic.toNat / 16) = false →
    ∃ t, exec (.manifestPart src [r0, r1, ic, 1, s.ownByte, lane, stop, bins]) s = .next t ∧
      (∃ new, t.runRec (word r0 r1) = some new ∧ new.partCount = some (ic.toNat % 16) ∧
        new.mask = old.mask ||| BitVec.ofNat 4 (2 ^ (ic.toNat / 16))) ∧
      ((s.lane l).call.promised = false →
        (t.lane l).delivery =
          { call := if (s.bank (bankOf l)).visit = some (word r0 r1) then .due else .manifested
            claimRun := none, onRun := some (word r0 r1), requested := bins.toNat, delivered := 0, short := none
            late := false, provisional := false } ∧
        t.cnt = s.cnt) ∧
      ((s.lane l).call.promised = true → (s.lane l).onRun = some (word r0 r1) →
        t.cnt = s.cnt ∧
        (t.lane l).surplus = min ((s.lane l).surplus + ((s.lane l).delivered - bins.toNat)) 65535 ∧
        ((s.lane l).delivered < bins.toNat →
          (t.lane l).delivery = { (s.lane l).delivery with requested := bins.toNat, provisional := false }) ∧
        (bins.toNat ≤ (s.lane l).delivered →
          (t.lane l).delivery =
            { call := .quiet, claimRun := none, onRun := none, requested := 0, delivered := 0, short := none
              late := false, provisional := false })) ∧
      ((s.lane l).call.promised = true → (s.lane l).onRun ≠ some (word r0 r1) →
        (t.lane l).delivery = (s.lane l).delivery ∧
        t.cnt = { s.cnt with double := min (s.cnt.double + 1) 65535 }) ∧
      (∀ m, (t.lane m).stock = (s.lane m).stock) ∧ t.air = { s.air with rx := .hunting } ∧ t.line = s.line ∧
      t.start = s.start ∧ t.prof = s.prof

/-! ## Claim book (Section 5) -/

/-- A CLAIMSET starts an operation on an idle book, waits at the head while the book is busy, and is discarded when its
items do not match its count (R78, R79, R83, R175). -/
def Obligations.ClaimsetStartsOrWaits : Prop :=
  ∀ (s : State) (src : Byte) (p : List Byte), (s.worksAs .rack = true ∨ s.worksAs .train = true) →
    s.hears src = true → p ≠ [] →
    (∀ cs, readClaimset src p = some cs → s.busy = false →
      ∃ t op, exec (.claimset src p) s = .next t ∧ t.book.op = some op ∧ op.claimset = some cs ∧ op.n = s.line.n ∧
        op.runs = s.runs ∧ op.entries = s.book.entries ∧ op.refresh = s.book.refreshDue ∧
        t.book.entries = s.book.entries ∧ t.book.pendingMark = false ∧ t.air.rxq = [] ∧ t.cnt = s.cnt ∧
        (∀ l, (t.lane l).stock = (s.lane l).stock ∧ (t.lane l).delivery = (s.lane l).delivery) ∧ t.line = s.line ∧
        t.start = s.start ∧ t.runs = s.runs ∧ t.planner = s.planner) ∧
    (s.busy = true →
      exec (.claimset src p) s = .next { s with air.rx := .hunting, air.rxq := [⟨.claimset, src, p⟩] }) ∧
    (readClaimset src p = none → s.busy = false →
      ∃ t, exec (.claimset src p) s = .next t ∧ t.book = s.book ∧ t.air = { s.air with rx := .hunting } ∧
        t.cnt = s.cnt)

/-- What the work of an operation does to the book. A CLAIMSET replaces its sender's entries (R83, R84); an insertion into a
full book evicts the peer entry with the largest key, or drops a peer's claim with a key not smaller, each counted
(R85); a lane's run is chosen among its candidates (R90, R92); a refresh renews an own entry (R94); a WAITING lane's
choice run again migrates its entry, inserted anew (R73, R96); that the book counts as full at that insertion only if it
is so without the entry taken out is a DESIGN CHOICE (notes/assumptions/31.md). -/
def Obligations.BookWorkReplacesEvictsAndChooses : Prop :=
  (∀ (op : BookOp) (role : Role) (cs : ClaimSet) (w : Work), op.claimset = some cs →
    let t := op.replaceSender role w
    let first := fun (c : ClaimItem) =>
      (cs.items.find? fun x => x.valid && x.lane == c.lane) = some c ∧ op.inScope role c.run = true
    let stands := fun (e : Entry) (c : ClaimItem) =>
      e.station = cs.sender ∧ e.run = c.run ∧ e.lane.val = c.lane ∧ e.stop = c.stop ∧ e.cls = c.cls ∧ e.size = c.size ∧
        e.bins = c.bins ∧ e.rref = c.rref ∧ e.late = c.late ∧ e.own = false ∧ e.admitted = false
    (∀ e ∈ t.entries, e.station = cs.sender → ∃ c ∈ cs.items, first c ∧ stands e c) ∧
    (∀ e ∈ t.entries, e.station ≠ cs.sender → e ∈ w.entries) ∧
    (w.entries.length + cs.items.length ≤ role.bookCapacity →
      t.full = w.full ∧ (∀ e ∈ w.entries, e.station ≠ cs.sender → e ∈ t.entries) ∧
      ∀ c ∈ cs.items, first c → ∃ e ∈ t.entries, stands e c)) ∧
  (∀ (cap : Nat) (n : LineCount) (w : Work) (e : Entry),
    (w.entries.length < cap → insertPeer cap n w e = ⟨w.entries ++ [e], w.full⟩ ∧
      insertOwn cap n w e = ⟨w.entries ++ [e], w.full⟩) ∧
    (cap ≤ w.entries.length → (∃ x ∈ w.entries, x.own = false) →
      ∃ out ∈ w.entries, out.own = false ∧
        (∀ x ∈ w.entries, x.own = false → keyLe (x.key n) (out.key n) = true) ∧
        let evicted : Work :=
          ⟨w.entries.filter (fun x => !(x.station == out.station && x.lane == out.lane)) ++ [e], w.full + 1⟩
        insertOwn cap n w e = evicted ∧
        insertPeer cap n w e = (if keyLe (out.key n) (e.key n) then ⟨w.entries, w.full + 1⟩ else evicted))) ∧
  (∀ (s : State) (op : BookOp) (w : Work) (l : LaneIx),
    let k := bankOf l
    let candidate := fun (r : RunRec) => r ∈ op.runs ∧ r.state = .planning ∧ (r.stopOf k).isSome = true ∧
      0 < copyOf s.book.copies r.id (s.lane l).cfg.cls
    let eta := fun (r : RunRec) => match r.stopOf k with | some e => offset op.n e.eta | none => 0
    let meets := fun (r : RunRec) => ∃ e f, r.stopOf k = some e ∧ op.lanes[l].rref = some f ∧
      after e.eta (f - BitVec.ofNat 16 (s.lane l).cfg.safety) = false
    let fits := fun (r : RunRec) => s.wouldAdmit op w l r.id = true
    let earliest := fun (p : RunRec → Prop) (id : RunId) => ∃ r, candidate r ∧ p r ∧ r.id = id ∧
      ∀ x, candidate x → p x → eta r < eta x ∨ (eta r = eta x ∧ r.id.toNat ≤ x.id.toNat)
    (s.chooseRun op w l = none ↔ ¬∃ r, candidate r) ∧
    ∀ id late, s.chooseRun op w l = some (id, late) →
      ((∃ r, candidate r ∧ meets r ∧ fits r) → late = false ∧ earliest (fun r => meets r ∧ fits r) id) ∧
      ((¬∃ r, candidate r ∧ meets r ∧ fits r) → (∃ r, candidate r ∧ meets r) → late = false ∧ earliest meets id) ∧
      ((¬∃ r, candidate r ∧ meets r) → late = true ∧ earliest (fun _ => True) id)) ∧
  (∀ (s : State) (op : BookOp) (w : Work) (l : LaneIx) (id : RunId),
    let e := s.claimOn op l id false
    let room := (makeRoom s.start.role.bookCapacity op.n w).entries ++ [e]
    s.wouldAdmit op w l id = true ↔
      ((room.filter fun x => x.run == id && x.cls == e.cls && keyLe (x.key op.n) (e.key op.n)).map Entry.size).sum ≤
        copyOf s.book.copies id e.cls) ∧
  (∀ (s : State) (op : BookOp) (e : Entry), e.own = true →
    let rd := op.lanes[e.lane]
    let cfg := (s.lane e.lane).cfg
    ∃ late, s.refreshEntry op e = { e with
        bins := rd.need, size := rd.need * cfg.slot, rref := rd.rref.getD e.rref, late := late } ∧
      (late = false ↔ ∃ r x f, (op.runs.find? fun y => y.id == e.run) = some r ∧ r.stopOf (bankOf e.lane) = some x ∧
        rd.rref = some f ∧ after x.eta (f - BitVec.ofNat 16 cfg.safety) = false)) ∧
  (∀ (s : State) (op : BookOp) (w : Work) (l : LaneIx) (e : Entry),
    (w.entries.find? fun x => x.own && x.lane == l) = some e →
    let out : Work := ⟨w.entries.filter fun x => !(x.own && x.lane == l), w.full⟩
    (s.chooseRun op out l = none → s.rechoose op w l = w) ∧
    ∀ id late, s.chooseRun op out l = some (id, late) →
      (id = e.run → s.rechoose op w l = w) ∧
      (id ≠ e.run → s.rechoose op w l = insertOwn s.start.role.bookCapacity op.n out
        { e with run := id, late := late, heard := s.start.clock }))

/-- Every step keeps the claim book within its capacity with no two entries of one station and lane (R74), and an own entry
exactly for the lanes in WAITING and ADMITTED (R93), and a lane moved while an operation is in progress has set the
pending mark (R81). -/
def Obligations.BookKeepsPlacesAndOwnEntries : Prop :=
  ∀ s t : State, s.BookInv → step s = .next t → t.BookInv

/-- A completion behind which nothing but CLAIMSETs wait admits an entry if and only if the running total of its run and
class up to it in key order is within the capacity copy, so for each run and class a prefix whose sizes total no more
than the copy (R81, R88). That the key order is taken against N as it stands at the completion is a DESIGN CHOICE
(notes/assumptions/33.md). The evictions and drops of the work are added to BOOKFULL (R85), or none where load lock
overtook it (DESIGN CHOICE, notes/assumptions/28.md). Then a CLAIMSET at the head starts the next operation, or a mark
does, or the book is idle (R78). -/
def Obligations.CompletionAdmitsStrictPrefix : Prop :=
  ∀ (s : State) (op : BookOp), s.working = true → s.book.op = some op → (∀ f ∈ s.air.rxq, f.kind = .claimset) →
    let marked := s.book.pendingMark = true ∨ s.book.refreshDue = true
    ∃ t, exec .bookOperationCompletion s = .next t ∧ t.line = s.line ∧ t.start = s.start ∧
      t.cnt.bookfull = min (s.cnt.bookfull + if s.lockedSince op then 0 else (s.opWork op).full) 65535 ∧
      (∀ e ∈ t.book.entries, e.admitted = true ↔
        ((t.book.entries.filter fun x =>
            x.run == e.run && x.cls == e.cls && keyLe (x.key s.line.n) (e.key s.line.n)).map Entry.size).sum ≤
          copyOf s.book.copies e.run e.cls) ∧
      (∀ run cls,
        ((t.book.entries.filter fun e => e.admitted && e.run == run && e.cls == cls).map Entry.size).sum ≤
          copyOf s.book.copies run cls) ∧
      (∀ e ∈ t.book.entries, ∀ e' ∈ t.book.entries, e.run = e'.run → e.cls = e'.cls → e.admitted = true →
        keyLe (e'.key s.line.n) (e.key s.line.n) = true → e'.admitted = true) ∧
      (s.air.rxq = [] → ¬marked → t.book.op = none ∧ t.book.copies = s.book.copies) ∧
      (s.air.rxq = [] → marked → ∃ next, t.book.op = some next ∧ next.claimset = none ∧
        next.refresh = s.book.refreshDue ∧ next.entries = t.book.entries ∧ t.book.pendingMark = false) ∧
      (∀ f rest cs, s.air.rxq = f :: rest → readClaimset f.src f.payload = some cs →
        s.start.role = .rack ∨ s.start.role = .train → s.bookSettled = true →
        t.air.rxq = rest ∧ ∃ next, t.book.op = some next ∧ next.claimset = some cs ∧
          next.refresh = s.book.refreshDue ∧ next.entries = t.book.entries ∧ t.book.pendingMark = false)

/-- The state each own lane takes at a completion behind which nothing but CLAIMSETs wait (R81, R89, R93), and the claim set
it queues (R97); a lane moved since the start keeps the delivery that the move gave it (R81). That the record of the
last claim set is updated also where the full queue drops the frame is DEDUCED (notes/assumptions/12.md). -/
def Obligations.CompletionSetsLaneStates : Prop :=
  ∀ (s : State) (op : BookOp), s.worksAs .rack = true → s.book.op = some op → (∀ f ∈ s.air.rxq, f.kind = .claimset) →
    ∃ t, exec .bookOperationCompletion s = .next t ∧
      (∀ l, (s.lane l).present = true → (s.lane l).moved = false → op.lanes[l].call.promised = false →
        (∀ e, (t.book.entries.find? fun x => x.own && x.lane == l) = some e →
          (t.lane l).call = (if e.admitted then .admitted else .waiting) ∧ (t.lane l).claimRun = some e.run ∧
          (t.lane l).requested = e.bins ∧ (t.lane l).late = e.late) ∧
        ((t.book.entries.find? fun x => x.own && x.lane == l) = none →
          (t.lane l).call = (if op.lanes[l].cond then .calling else .quiet) ∧ (t.lane l).claimRun = none ∧
          (t.lane l).requested = 0 ∧ (t.lane l).late = false)) ∧
      (∀ l, ((s.lane l).present = false ∨ (s.lane l).moved = true ∨ op.lanes[l].call.promised = true) →
        (t.lane l).delivery = (s.lane l).delivery) ∧
      (s.isActive = true → ownItems t.book.entries ≠ s.book.lastSet →
        t.book.lastSet = ownItems t.book.entries ∧ (s.txRoom = true → ∃ f ∈ t.air.txq, f.kind = .claimset)) ∧
      (s.isActive = false → t.book.lastSet = s.book.lastSet ∧ t.air.txq = s.air.txq) ∧
      (∀ l, (t.lane l).stock = (s.lane l).stock) ∧ t.line = s.line ∧ t.start = s.start ∧ t.runs = s.runs ∧
      t.bankA = s.bankA ∧ t.bankB = s.bankB

/-- A peer entry ages out, and the refresh timer asks for a refresh: the entry leaves, or the timer restarts, and the request
starts an operation on an idle book or leaves its mark on a busy one (R78, R86, R95). That the timer restarts from the
clock at which a late expiry is taken is DEDUCED (notes/assumptions/21.md). -/
def Obligations.BookTimersRequestOperations : Prop :=
  (∀ (s : State) (station : Nat) (lane : LaneIx) (e : Entry), s.working = true →
    let old := fun (x : Entry) => !x.own && x.station == station && x.lane == lane
    s.book.entries.find? old = some e → s.due (some (e.heard + 3 * s.prof.tRefresh)) = true →
    ∃ t, exec (.peerEntryAgeingExpiry station lane) s = .next t ∧
      t.book.entries = s.book.entries.filter (fun x => !old x) ∧
      (s.busy = false → ∃ op, t.book.op = some op ∧ op.entries = t.book.entries) ∧
      (s.busy = true → t.book.op = s.book.op ∧ t.book.pendingMark = true) ∧
      (∀ l, (t.lane l).delivery = (s.lane l).delivery) ∧ t.air = s.air ∧ t.cnt = s.cnt ∧ t.start = s.start) ∧
  (∀ s : State, s.worksAs .rack = true → s.due s.book.refresh = true →
    ∃ t, exec .refreshTimerExpiry s = .next t ∧ t.book.refresh = some (s.start.clock + s.prof.tRefresh) ∧
      t.book.entries = s.book.entries ∧
      (s.busy = false → ∃ op, t.book.op = some op ∧ op.refresh = true) ∧
      (s.busy = true → t.book.op = s.book.op ∧ t.book.refreshDue = true) ∧
      (∀ l, (t.lane l).delivery = (s.lane l).delivery) ∧ t.air = s.air ∧ t.cnt = s.cnt ∧ t.start = s.start)

/-! ## Delivery (Section 7) -/

/-- An ARRIVE settles any other run's business of every bank at its stop (R128), opens the visit, moves the bank's lanes on
the run to DUE (R129) and, with REVISIT, the lanes short on it (R130), and opens the face (R127, R152). -/
def Obligations.ArriveOpensVisit : Prop :=
  ∀ (s : State) (src lo stop flags : Byte) (k : Bank), s.worksAs .rack = true → s.hears src = true →
    s.prof.stopOf k = stop.toNat → 1 ≤ stop.toNat → stop.toNat ≤ 32 →
    let run := word lo src
    ∃ t, exec (.arrive src [lo, src, stop, flags]) s = .next t ∧
      (t.bank k).visit = some run ∧ (t.bank k).recordRun = some run ∧ (t.bank k).revisit = flags.getLsbD 1 ∧
      (t.bank k).faceOpen = true ∧
      (∀ l, bankOf l = k → (s.lane l).present = true →
        ((s.lane l).call = .manifested → (s.lane l).onRun = some run →
          (t.lane l).call = .due ∧ (t.lane l).onRun = some run ∧ (t.lane l).requested = (s.lane l).requested ∧
          (t.lane l).delivered = (s.lane l).delivered ∧ (t.lane l).provisional = false) ∧
        ((s.lane l).claimsOn run = true →
          (t.lane l).call = .due ∧ (t.lane l).onRun = some run ∧ (t.lane l).claimRun = none ∧
          (t.lane l).requested = (s.lane l).requested ∧ (t.lane l).delivered = 0 ∧
          (t.lane l).provisional = true) ∧
        (∀ other, (s.bank k).recordRun = some other → other ≠ run → (s.lane l).promisedOn other = true →
          let out := (s.lane l).requested - (s.lane l).delivered
          (t.lane l).call = .calling ∧ (t.lane l).onRun = none ∧ (t.lane l).requested = 0 ∧
          (t.lane l).delivered = 0 ∧ (t.lane l).short = some (other, out) ∧
          (t.lane l).shortBins = min ((s.lane l).shortBins + out) 65535) ∧
        (∀ out, flags.getLsbD 1 = true → (s.runRec run).isSome = true → (s.lane l).short = some (run, out) →
          ((s.lane l).call = .calling ∨ (s.lane l).call = .waiting ∨ (s.lane l).call = .admitted) →
          (s.lane l).claimsOn run = false →
          (t.lane l).call = .due ∧ (t.lane l).onRun = some run ∧ (t.lane l).claimRun = none ∧
          (t.lane l).requested = out ∧ (t.lane l).delivered = 0 ∧ (t.lane l).provisional = false ∧
          (t.lane l).short = none ∧ ((s.lane l).call ≠ .calling →
            (t.lane l).late = false ∧ ∀ e ∈ t.book.entries, ¬(e.own = true ∧ e.lane = l))) ∧
        (flags.getLsbD 1 = false → ((s.lane l).call = .calling ∨ (s.lane l).call = .quiet) →
          (t.lane l).delivery = (s.lane l).delivery)) ∧
      (∀ l, (t.lane l).stock = (s.lane l).stock) ∧
      (∀ l, s.prof.stopOf (bankOf l) ≠ stop.toNat → (t.lane l).steady = (s.lane l).steady) ∧
      t.runs = s.runs ∧ t.cnt = s.cnt ∧ t.air = { s.air with rx := .hunting } ∧ t.line = s.line ∧ t.start = s.start ∧ t.prof = s.prof

/-- A DEPART settles the banks at its stop (R134 to R138): each lane still owed bins is short and calls again, the visit
closes, and one RECEIPT answers. -/
def Obligations.DepartSettlesLanes : Prop :=
  ∀ (s : State) (src lo stop : Byte) (k : Bank), s.worksAs .rack = true → s.hears src = true →
    s.prof.stopOf k = stop.toNat → 1 ≤ stop.toNat → stop.toNat ≤ 32 → s.departureActs k (word lo src) = true →
    let run := word lo src
    ∃ t, exec (.depart src [lo, src, stop]) s = .next t ∧
      (t.bank k).visit ≠ some run ∧ (t.bank k).lastDeparted = some run ∧ (t.bank k).recordRun ≠ some run ∧
      (∀ l, bankOf l = k → (s.lane l).present = true → (s.lane l).promisedOn run = true →
        let out := (s.lane l).requested - (s.lane l).delivered
        (t.lane l).call = .calling ∧ (t.lane l).onRun = none ∧ (t.lane l).requested = 0 ∧
        (t.lane l).delivered = 0 ∧ (t.lane l).short = some (run, out) ∧
        (t.lane l).shortBins = min ((s.lane l).shortBins + out) 65535) ∧
      (∀ l, (s.lane l).promisedOn run = false → (t.lane l).delivery = (s.lane l).delivery) ∧
      (s.isActive = true → s.txRoom = true →
        (∃ l, bankOf l = k ∧ (s.lane l).present = true ∧ (s.lane l).promisedOn run = true) →
        ∃ f ∈ t.air.txq, f.kind = .receipt ∧ f.payload.take 3 = [lo, src, stop]) ∧
      (∀ l, (t.lane l).stock = (s.lane l).stock) ∧
      (∀ l, s.prof.stopOf (bankOf l) ≠ stop.toNat → (t.lane l).steady = (s.lane l).steady) ∧
      t.runs = s.runs ∧ t.line = s.line ∧ t.start = s.start ∧ t.prof = s.prof

/-- A RECEIPT for the current run updates the manifest entry its item reports, with a SHORT notice when bins are missing
(R141, R143), and marks its source heard in the stop log (R142); the receipt timer of a stop log entry expires once,
with a MISSING notice for each expected station not heard (R144). -/
def Obligations.ReceiptsAreHeardOrMissed : Prop :=
  (∀ (s : State) (src lo stop lane del req : Byte) (r : Run) (e : ManifestEntry), s.worksAs .train = true →
    s.hears src = true → 1 ≤ stop.toNat → stop.toNat ≤ 31 → s.planner.current = some r → r.id = word lo s.ownByte →
    (s.planner.manifest.find? fun x =>
      x.station == src.toNat && x.lane.val == lane.toNat && x.stop == stop.toNat) = some e → e.status ≠ .done →
    let total := min (del.toNat + (e.bins - req.toNat)) 255
    ∃ t, exec (.receipt src [lo, s.ownByte, stop, 1, lane, del, req]) s = .next t ∧
      (t.planner.manifest.find? fun x =>
        x.station == src.toNat && x.lane.val == lane.toNat && x.stop == stop.toNat) =
        some { e with delivered := total, status := if e.bins ≤ total then .done else .short } ∧
      t.planner.manifest.length = s.planner.manifest.length ∧
      t.panel = (if e.bins ≤ total then s.panel else s.panel.raise s.start.clock .short src.toNat lane.toNat) ∧
      t.planner.log.length = s.planner.log.length ∧
      (∀ x, (s.planner.log.reverse.find? fun y => y.answers r.id stop.toNat) = some x →
        x.expected.contains src.toNat = true →
        ∃ y, (t.planner.log.reverse.find? fun y => y.answers r.id stop.toNat) = some y ∧
          y.heard.contains src.toNat = true) ∧
      t.planner.current = s.planner.current ∧ t.planner.planning = s.planner.planning ∧ t.planner.e = s.planner.e ∧
      t.air = { s.air with rx := .hunting } ∧ t.cnt = s.cnt ∧ t.line = s.line ∧ t.start = s.start ∧
      t.prof = s.prof) ∧
  ∀ (s : State) (i : Fin 16) (e : LogEntry) (d : Nat), s.worksAs .train = true → s.planner.log[i.val]? = some e →
    e.timer = .running d → s.due (some d) = true →
    ∃ t, exec (.receiptTimerExpiry i) s = .next t ∧
      t.planner = { s.planner with log := s.planner.log.set i.val { e with timer := .expired } } ∧
      t.panel = (e.expected.filter fun x => !e.heard.contains x).foldl
        (fun p x => p.raise s.start.clock .missing x e.stop) s.panel ∧
      t.air = s.air ∧ t.cnt = s.cnt ∧ t.line = s.line ∧ t.start = s.start ∧ t.prof = s.prof

/-! ## The train station (Section 6) -/

/-- Load lock (R105, R117, R123, R158): the run becomes LOADING in the current slot, the manifest takes the first 32 admitted
claims for stops of the route in key order, each LATE one raises its notice, the MANIFEST parts and a RUN notice are
queued, and the book is cleared. -/
def Obligations.LoadLockFixesManifest : Prop :=
  ∀ (s : State) (r : Run), s.worksAs .train = true → s.planner.current = none → s.planner.planning = some r →
    r.state = .planning →
    ∃ t, exec .loadPress s = .next t ∧
      t.planner.current = some { r with state := .loading, loadMark := s.start.clock } ∧ t.planner.planning = none ∧
      t.planner.e = 0 ∧ t.book.entries = [] ∧ t.panel.pick = 1 ∧ t.planner.manifest.length ≤ 32 ∧
      (∃ es : List Entry,
        es.Perm (s.book.entries.filter fun e =>
          e.run == r.id && e.admitted && s.prof.route.any fun x => x.stop == e.stop) ∧
        es.Pairwise (fun a b => keyLe (a.key s.line.n) (b.key s.line.n) = true) ∧
        t.planner.manifest = (es.take 32).map fun e =>
          { station := e.station, lane := e.lane, stop := e.stop, cls := e.cls, size := e.size, bins := e.bins
            late := e.late, delivered := 0, status := .pending }) ∧
      t.panel = (t.planner.manifest.filter fun e => e.late).foldl
        (fun p e => p.raise s.start.clock .late e.station e.lane.val) { s.panel with pick := 1 } ∧
      (let m := t.planner.manifest
       let count := max 1 ((m.length + 7) / 8)
       s.isActive = true → s.synced = true → s.air.txq.length + 5 ≤ 8 →
        (∀ i, i < count →
          let es := (m.drop (8 * i)).take 8
          (⟨.manifest, bytes2 r.id ++ [byte (i * 16 + count), byte es.length] ++
            es.flatMap fun e => [byte e.station, byte e.lane.val, byte e.stop, byte e.bins]⟩ : TxFrame) ∈ t.air.txq) ∧
        ∃ f ∈ t.air.txq, f.kind = .run ∧ f.payload.take 3 = bytes2 r.id ++ [1]) ∧
      (s.isActive = false ∨ s.synced = false → t.air = s.air) ∧
      t.planner.log = s.planner.log ∧ t.planner.nextRun = s.planner.nextRun ∧ t.line = s.line ∧ t.start = s.start ∧
      t.prof = s.prof ∧ t.runs = s.runs

/-- GO departs: from the supermarket with a PLANNING run opened (R107, R106), from a stop back onto the route (R112), from a
detour back on hold (R115). -/
def Obligations.GoPressDeparts : Prop :=
  ∀ (s : State) (r : Run), s.worksAs .train = true → s.planner.current = some r →
    (r.state = .loading →
      ∃ t, exec .goPress s = .next t ∧ t.planner.current = some { r with state := .enroute } ∧ t.planner.e = 0 ∧
        t.planner.manifest = s.planner.manifest ∧ t.planner.log = s.planner.log ∧
        (s.isActive = true → s.synced = true → s.planner.planning = none →
          ∃ x, t.planner.planning = some x ∧ x.id = s.ownByte ++ s.planner.nextRun ∧ x.state = .planning ∧
            t.planner.nextRun = s.planner.nextRun + 1) ∧
        ((s.isActive = false ∨ s.synced = false ∨ s.planner.planning ≠ none) →
          t.planner.planning = s.planner.planning ∧ t.planner.nextRun = s.planner.nextRun) ∧
        t.book.entries = s.book.entries ∧ t.panel = s.panel ∧ t.line = s.line ∧ t.start = s.start) ∧
    (∀ stop, r.state = .atstop ∨ r.state = .detour → r.present = some stop →
      ∃ t c, exec .goPress s = .next t ∧ t.planner.current = some c ∧ c.id = r.id ∧ c.present = none ∧
        c.revisit = (if r.state = .atstop then false else r.revisit) ∧ c.state = (if r.state = .atstop then .enroute else .held) ∧ c.holdStart = r.holdStart ∧
        c.served = (match s.routeIx stop with | some i => r.served.set i true | none => r.served) ∧
        t.planner.log.length = s.planner.log.length ∧
        (∀ e, s.planner.log.getLast? = some e →
          t.planner.log.getLast? = some { e with
            departed := some s.start.clock,
            timer := if e.expected.any fun x => !e.heard.contains x then
                .running (s.start.clock + s.prof.tReceipt) else .stopped }) ∧
        (s.isActive = true → s.txRoom = true →
          (⟨.depart, bytes2 r.id ++ [byte stop]⟩ : TxFrame) ∈ t.air.txq) ∧
        t.planner.e = s.planner.e ∧ t.planner.manifest = s.planner.manifest ∧
        t.planner.planning = s.planner.planning ∧ t.book.entries = s.book.entries ∧ t.panel = s.panel ∧
        t.line = s.line ∧ t.start = s.start)

/-- HOLD holds an ENROUTE run and resumes a HELD one (R113); a press of LOAD, GO or HOLD that the lead run's state does not
take raises a REFUSED notice naming the button and changes nothing else of the planner (R103, R104). -/
def Obligations.HoldTogglesAndRefusedPress : Prop :=
  ∀ s : State, s.worksAs .train = true →
    let is := fun (sts : List RunState) => s.planner.lead.any fun r => sts.contains r.state
    let on : Debounce Bool := ⟨some true, some true⟩
    (∀ r, s.planner.current = some r → r.state = .enroute ∨ r.state = .held →
      ∃ t, exec .holdPress s = .next t ∧
        t.planner = { s.planner with
          holdIn := on,
          current := some (if r.state = .enroute then { r with state := .held, holdStart := some s.start.clock }
                           else { r with state := .enroute, holdStart := none }) } ∧
        t.panel = s.panel ∧ t.book.entries = s.book.entries ∧ t.line = s.line ∧ t.start = s.start) ∧
    (is [.planning] = false →
      ∃ t, exec .loadPress s = .next t ∧ t.planner = { s.planner with loadIn := on } ∧
        t.panel = s.panel.raise s.start.clock .refused 0 0 ∧ t.air = s.air ∧ t.book.entries = s.book.entries) ∧
    (is [.loading, .atstop, .detour] = false →
      ∃ t, exec .goPress s = .next t ∧ t.planner = { s.planner with goIn := on } ∧
        t.panel = s.panel.raise s.start.clock .refused 0 1 ∧ t.air = s.air ∧ t.book.entries = s.book.entries) ∧
    (is [.enroute, .held] = false →
      ∃ t, exec .holdPress s = .next t ∧ t.planner = { s.planner with holdIn := on } ∧
        t.panel = s.panel.raise s.start.clock .refused 0 2 ∧ t.air = s.air ∧ t.book.entries = s.book.entries)

/-- An arrival strobe (R108 to R111, R114, R124): ENROUTE at an unserved route stop, at a served stop with something
outstanding, at the supermarket, elsewhere; HELD at a stop with something outstanding. At ATSTOP and DETOUR the run
first departs (R116). An arrival queues an ARRIVE (R108, R109, R114), the close a CLOSED notice (R110), a departure a
DEPART (R112, R115). In ACTIVE with a followed pacer the close opens a PLANNING run where the planning slot is empty, with
its request to the claim book, and announces the run of that slot (R106, R110). A strobe with a LOADING run, with the
PLANNING run as lead or with no run is ignored (R103). That the REVISIT mark stands at a departure from a detour stop is DEDUCED
(notes/assumptions/24.md). -/
def Obligations.StrobeArrivesAtStop : Prop :=
  (∀ (s : State) (v : BitVec 5), s.worksAs .train = true → s.planner.stopIn.acc = some v →
    s.planner.current = none → (∀ x, s.planner.planning = some x → x.state = .planning) →
    ∃ t, exec .arrivalStrobe s = .next t ∧ t.planner = { s.planner with strobeIn := ⟨some true, some true⟩ } ∧
      t.panel = s.panel ∧ t.air = s.air ∧ t.cnt = s.cnt ∧ (s.bookSettled = true → t.book = s.book) ∧ t.line = s.line ∧
      t.start = s.start ∧ t.prof = s.prof) ∧
  ∀ (s : State) (r : Run) (v : BitVec 5), s.worksAs .train = true → s.planner.stopIn.acc = some v →
    s.planner.current = some r →
    let stop := v.toNat
    let off : Planner → Panel → Prop := fun p q =>
      p = { s.planner with strobeIn := ⟨some true, some true⟩ } ∧
        q = s.panel.raise s.start.clock .offroute stop 0
    let arrive := fun (detour revisit : Bool) =>
      (⟨.arrive, bytes2 r.id ++ [byte stop, byte ((if detour then 1 else 0) + if revisit then 2 else 0)]⟩ : TxFrame)
    let room := fun (n : Nat) => s.isActive = true ∧ s.air.txq.length + n ≤ 8
    let opens := s.isActive = true ∧ s.synced = true ∧ s.planner.planning = none
    let opened : State → Prop := fun t =>
      (opens → ∃ x, t.planner.planning = some x ∧ x.id = s.ownByte ++ s.planner.nextRun ∧ x.state = .planning ∧
        x.served = (s.prof.route.map fun _ => false) ∧ x.present = none ∧ x.opened = s.start.clock ∧
        t.planner.nextRun = s.planner.nextRun + 1) ∧
      (¬opens → t.planner.planning = s.planner.planning ∧ t.planner.nextRun = s.planner.nextRun) ∧
      (s.bookSettled = true → s.bookTakes t opens) ∧
      (room 4 → s.synced = true → ∀ x, t.planner.planning = some x →
        ∃ f ∈ t.air.txq, f.kind = .run ∧ f.payload.take 2 = bytes2 x.id)
    let other := (∀ x, s.planner.planning = some x → x.id ≠ r.id) ∧ s.ownByte ++ s.planner.nextRun ≠ r.id
    ∃ t, exec .arrivalStrobe s = .next t ∧
      (r.state = .enroute → stop ≠ 0 →
        (s.routeServed r stop = some false ∨ (s.routeServed r stop = some true ∧ s.outstandingAt stop = true)) →
        t.planner.current = some { r with
          state := .atstop, present := some stop, revisit := s.routeServed r stop == some true } ∧
        t.planner.e = max s.planner.e (s.travelTo stop) ∧ t.panel.stopIx = 1 ∧
        (room 1 → arrive false (s.routeServed r stop == some true) ∈ t.air.txq) ∧
        ∃ e, t.planner.log.getLast? = some e ∧ e.runNumber = loByte r.id ∧ e.stop = stop ∧
          e.kind = (if s.routeServed r stop = some true then .revisit else .first) ∧ e.departed = none ∧
          (∀ a, a ∈ e.expected ↔ a < 256 ∧ ∃ m ∈ s.planner.manifest, m.station = a ∧ m.stop = stop ∧
            m.status ≠ .done)) ∧
      (r.state = .enroute → stop ≠ 0 →
        (s.routeServed r stop = none ∨ (s.routeServed r stop = some true ∧ s.outstandingAt stop = false)) →
        off t.planner t.panel ∧ t.air = s.air) ∧
      (r.state = .enroute → stop = 0 →
        t.planner.current = none ∧ t.planner.e = 0 ∧ t.planner.closeTime = some s.start.clock ∧
        t.planner.manifest = s.planner.manifest ∧ t.planner.log = s.planner.log ∧ opened t ∧
        (room 1 → s.synced = true → other →
          ∃ f ∈ t.air.txq, f.kind = .run ∧ f.payload.take 3 = bytes2 r.id ++ [6])) ∧
      (r.state = .held → s.outstandingAt stop = true →
        t.planner.current = some { r with
          state := .detour, present := some stop, revisit := s.routeServed r stop == some true } ∧
        t.planner.e = s.planner.e ∧ t.panel.stopIx = 1 ∧
        (room 1 → arrive true (s.routeServed r stop == some true) ∈ t.air.txq) ∧
        ∃ e, t.planner.log.getLast? = some e ∧ e.stop = stop ∧ e.kind = .detour ∧ e.departed = none) ∧
      (r.state = .held → s.outstandingAt stop = false → off t.planner t.panel ∧ t.air = s.air) ∧
      ((r.state = .planning ∨ r.state = .loading) →
        t.planner = { s.planner with strobeIn := ⟨some true, some true⟩ } ∧ t.panel = s.panel ∧ t.air = s.air) ∧
      (s.bookSettled = true →
        ¬((r.state = .enroute ∨ r.state = .atstop) ∧ stop = 0) → t.book = s.book) ∧
      (∀ old, (r.state = .atstop ∨ r.state = .detour) → r.present = some old →
        let gone : Run :=
          { r with state := if r.state = .atstop then .enroute else .held, present := none
                   revisit := if r.state = .atstop then false else r.revisit
                   served := match s.routeIx old with | some i => r.served.set i true | none => r.served }
        let here := s.routeServed gone stop
        (room 1 → (⟨.depart, bytes2 r.id ++ [byte old]⟩ : TxFrame) ∈ t.air.txq) ∧
        (r.state = .atstop → stop ≠ 0 → (here = some false ∨ (here = some true ∧ s.outstandingAt stop = true)) →
          t.planner.current = some { gone with
            state := .atstop, present := some stop, revisit := here == some true } ∧
          t.planner.e = max s.planner.e (s.travelTo stop) ∧ t.panel.stopIx = 1 ∧
          (room 4 → arrive false (here == some true) ∈ t.air.txq)) ∧
        (r.state = .atstop → stop ≠ 0 → (here = none ∨ (here = some true ∧ s.outstandingAt stop = false)) →
          t.planner.current = some gone ∧ t.planner.e = s.planner.e ∧
          t.panel = s.panel.raise s.start.clock .offroute stop 0) ∧
        (r.state = .atstop → stop = 0 →
          t.planner.current = none ∧ t.planner.e = 0 ∧ t.planner.closeTime = some s.start.clock ∧ opened t ∧
          (room 4 → s.synced = true → other →
            ∃ f ∈ t.air.txq, f.kind = .run ∧ f.payload.take 3 = bytes2 r.id ++ [6])) ∧
        (r.state = .detour → s.outstandingAt stop = true →
          t.planner.current = some { gone with
            state := .detour, present := some stop, revisit := here == some true } ∧
          t.planner.e = s.planner.e ∧ t.panel.stopIx = 1 ∧
          (room 4 → arrive true (here == some true) ∈ t.air.txq)) ∧
        (r.state = .detour → s.outstandingAt stop = false →
          t.planner.current = some gone ∧ t.planner.e = s.planner.e ∧
          t.panel = s.panel.raise s.start.clock .offroute stop 0)) ∧
      t.line = s.line ∧ t.start = s.start ∧ t.prof = s.prof ∧ t.book.entries = s.book.entries

/-- The run planner's refresh restarts its timer and queues a RUN notice for each run held and the MANIFEST parts of the
current run (R122, R123). That the timer restarts from the clock at which a late expiry is taken is DEDUCED
(notes/assumptions/21.md). -/
def Obligations.TrainRefreshAnnouncesRuns : Prop :=
  ∀ s : State, s.worksAs .train = true → s.due s.planner.refresh = true →
    let m := s.planner.manifest
    let count := max 1 ((m.length + 7) / 8)
    ∃ t, exec .trainRefreshExpiry s = .next t ∧
      t.planner = { s.planner with refresh := some (s.start.clock + s.prof.tRefresh) } ∧
      (s.announces = false → t.air = s.air ∧ t.cnt = s.cnt) ∧
      (∀ r, s.announces = true → s.planner.current = some r → s.txRoom = true →
        ∃ f ∈ t.air.txq, f.kind = .run ∧ f.payload.take 2 = bytes2 r.id) ∧
      (∀ r, s.announces = true → s.planner.current = some r → s.air.txq.length + 1 + count ≤ 8 → m.length ≤ 32 →
        ∀ i, i < count →
          let es := (m.drop (8 * i)).take 8
          (⟨.manifest, bytes2 r.id ++ [byte (i * 16 + count), byte es.length] ++
            es.flatMap fun e => [byte e.station, byte e.lane.val, byte e.stop, byte e.bins]⟩ : TxFrame) ∈ t.air.txq) ∧
      (∀ r, s.announces = true → s.planner.current = none → s.planner.planning = some r → s.txRoom = true →
        ∃ f ∈ t.air.txq, f.kind = .run ∧ f.payload.take 2 = bytes2 r.id) ∧
      (∀ r x, s.announces = true → s.planner.current = some r → s.planner.planning = some x →
        s.air.txq.length + 2 + count ≤ 8 →
        ∃ f ∈ t.air.txq, f.kind = .run ∧ f.payload.take 2 = bytes2 x.id) ∧
      (∀ f ∈ t.air.txq, f ∈ s.air.txq ∨ f.kind = .run ∨ f.kind = .manifest) ∧
      t.book.entries = s.book.entries ∧ t.panel = s.panel ∧ t.line = s.line ∧ t.start = s.start ∧ t.prof = s.prof

/-- Every step keeps the run slots, the manifest and the stop log within their rules (R99, R117, R124). -/
def Obligations.PlannerSlotsStayLegal : Prop :=
  ∀ s t : State, s.PlannerInv → step s = .next t → t.PlannerInv

/-- Every step keeps the run list within 6 records of different run ids (R56, R59). -/
def Obligations.RunListStaysDistinct : Prop :=
  ∀ s t : State, s.RunListInv → step s = .next t → t.RunListInv

/-! ## Lamps and panel (Section 8) -/

/-- How a notice enters the list: merged, placed, displacing the newest of the lowest priority, or dropped (R159, R160). ACK
removes the notice shown, which has the highest priority, and with none pending moves the index of the mode (R158,
R161). -/
def Obligations.NoticesRaisedAndAcknowledged : Prop :=
  ([NoticeKind.short, .missing, .late, .offroute, .refused, .overflow].map NoticeKind.priority = [1, 2, 3, 4, 5, 6]) ∧
  (∀ (p : Panel) (clock : Nat) (kind : NoticeKind) (station lane : Nat),
    let q := p.raise clock kind station lane
    let same := fun (x : Notice) => x.kind = kind ∧ x.station = station
    let new : Notice := ⟨kind, station, lane, 1, clock⟩
    ((∃ x ∈ p.notices, same x) →
      q = { p with notices := p.notices.map fun x =>
        if x.kind = kind ∧ x.station = station then { x with count := min (x.count + 1) 255, lane := lane } else x }) ∧
    ((∀ x ∈ p.notices, ¬same x) → p.notices.length < 8 → q = { p with notices := p.notices ++ [new] }) ∧
    ((∀ x ∈ p.notices, ¬same x) → 8 ≤ p.notices.length →
      (∃ x ∈ p.notices, kind.priority < x.kind.priority) →
      ∃ ahead out behind, p.notices = ahead ++ out :: behind ∧
        (∀ x ∈ p.notices, x.kind.priority ≤ out.kind.priority) ∧
        (∀ x ∈ behind, x.kind.priority < out.kind.priority) ∧
        q = { p with
          notices := ahead ++ behind ++ [new],
          lost := min (p.lost + if out.kind = .overflow then out.count + 1 else 1) 255 }) ∧
    ((∀ x ∈ p.notices, ¬same x) → 8 ≤ p.notices.length →
      (∀ x ∈ p.notices, x.kind.priority ≤ kind.priority) →
      q = { p with lost := min (p.lost + 1) 255 })) ∧
  ∀ s : State, s.worksAs .train = true →
    (∀ x, shownNotice s.panel.notices = some x →
      x ∈ s.panel.notices ∧ (∀ y ∈ s.panel.notices, x.kind.priority ≤ y.kind.priority) ∧
      ∃ t, exec .ack s = .next t ∧
        (s.panel.lost = 0 → t.panel = { s.panel with notices := s.panel.notices.erase x }) ∧
        (s.panel.lost ≠ 0 → t.panel.lost = 0 ∧
          ((s.panel.notices.erase x).all (fun y => y.kind != .overflow) = true →
            t.panel.notices = s.panel.notices.erase x ++ [⟨.overflow, 0, 0, s.panel.lost, s.start.clock⟩])) ∧
        t.panel.pick = s.panel.pick ∧ t.panel.stopIx = s.panel.stopIx ∧
        t.planner = { s.planner with ackIn := ⟨some true, some true⟩ }) ∧
    (shownNotice s.panel.notices = none →
      ∃ t, exec .ack s = .next t ∧
        t.planner = { s.planner with ackIn := ⟨some true, some true⟩ } ∧ t.panel.notices = s.panel.notices ∧
        t.panel.pick =
          (if s.planner.lead.any (fun r => r.state == .loading) ∧ s.planner.manifest ≠ [] then
            (if s.panel.pick < s.planner.manifest.length then s.panel.pick + 1 else 1) else s.panel.pick) ∧
        (∀ r, s.planner.lead = some r → r.state = .atstop ∨ r.state = .detour →
          let m := (s.stopList r).length
          t.panel.stopIx = (if m = 0 then s.panel.stopIx
            else if s.panel.stopIx < m then s.panel.stopIx + 1 else 1)))

/-- Every step keeps at most 8 notices, no two of one kind and station, with counts 1..255 (R159, R160). -/
def Obligations.NoticeListStaysDistinct : Prop :=
  ∀ s t : State, s.NoticeInv → step s = .next t → t.NoticeInv

/-- The presence inputs work the face of a LOCAL bank and leave that of a FRAME bank as it is (R152, R153, R154). -/
def Obligations.PresenceWorksLocalFace : Prop :=
  ∀ (s : State) (k : Bank), s.worksAs .rack = true →
    (∃ t, exec (.presenceRise k) s = .next t ∧
      (s.prof.isLocal k = true → (t.bank k).faceOpen = true ∧
        ∀ l, bankOf l = k →
          (t.lane l).shown = (if (s.lane l).fresh then (s.lane l).staged else (s.lane l).shown) ∧
          (t.lane l).fresh = false) ∧
      (s.prof.isLocal k = false → (t.bank k).faceOpen = (s.bank k).faceOpen ∧
        ∀ l, (t.lane l).steady = (s.lane l).steady) ∧
      (∀ l, (t.lane l).staged = (s.lane l).staged) ∧
      (∀ l, bankOf l ≠ k → (t.lane l).steady = (s.lane l).steady) ∧
      (∀ l, (t.lane l).stock = (s.lane l).stock ∧ (t.lane l).delivery = (s.lane l).delivery) ∧
      t.air = s.air ∧ t.cnt = s.cnt ∧ t.line = s.line ∧ t.runs = s.runs ∧ t.start = s.start ∧
      t.book.entries = s.book.entries) ∧
    (∃ t, exec (.presenceFall k) s = .next t ∧
      (s.prof.isLocal k = true → (t.bank k).faceOpen = false ∧
        ∀ l, bankOf l = k → (t.lane l).shown = .off ∧ (t.lane l).overfill = false ∧
          ((t.lane l).staged ≠ .off → (t.lane l).fresh = true)) ∧
      (s.prof.isLocal k = false → (t.bank k).faceOpen = (s.bank k).faceOpen ∧
        ∀ l, (t.lane l).steady = (s.lane l).steady) ∧
      (∀ l, bankOf l ≠ k → (t.lane l).steady = (s.lane l).steady) ∧
      (∀ l, (t.lane l).stock = (s.lane l).stock ∧ (t.lane l).delivery = (s.lane l).delivery) ∧
      t.air = s.air ∧ t.cnt = s.cnt ∧ t.line = s.line ∧ t.runs = s.runs ∧ t.start = s.start ∧
      t.book.entries = s.book.entries)

/-- AT-RISK of a lane holds in the three cases of R149, and every step keeps it derived. -/
def Obligations.AtRiskFollowsLaneAndRun : Prop :=
  (∀ (s : State) (l : LaneIx),
    let r := s.lane l
    s.riskOf l = true ↔ r.present = true ∧
      ((r.call = .calling ∧ ∃ f, r.forecast = some f ∧ offset s.line.n f.rref ≤ r.cfg.safety) ∨
        ((r.call = .waiting ∨ r.call = .admitted) ∧ r.late = true) ∨
        ((r.call = .manifested ∨ r.call = .due) ∧ ∃ f id run e, r.forecast = some f ∧ r.onRun = some id ∧
          s.runRec id = some run ∧ run.stopOf (bankOf l) = some e ∧ e.served = false ∧
          after e.eta f.rref = true))) ∧
  ∀ s t : State, s.RiskInv → step s = .next t → t.RiskInv

/-- A lamp frame shows 33 lamps at the blink phase, which rises and wraps (R146, R147): the status lamp (R155), the line faces
(R148) and the loading faces (R151). -/
def Obligations.LampFrameShowsLamps : Prop :=
  ∀ s : State, s.start.resetLow = false → s.start.role ≠ .train →
    let slow : Bool := decide (s.panel.phase ≤ 24)
    let fast : Bool := [0, 12, 25, 37].any fun q => decide (q ≤ s.panel.phase ∧ s.panel.phase < q + 6)
    let lit := fun (p : Pattern) =>
      match p with
      | .off => false
      | .steady => true
      | .slow => slow
      | .fast => fast
    ∃ t, exec .lampFrame s = .next t ∧ t = { s with panel := t.panel } ∧
      t.panel = { s.panel with chain := t.panel.chain, phase := (s.panel.phase + 1) % 50 } ∧
      t.panel.chain.length = 33 ∧
      t.panel.chain[0]? = some
        (if s.start.state = .load ∨ s.start.state = .check then false
         else if s.start.state = .fault then fast
         else if s.air.clash then fast
         else if s.start.state = .listen then slow
         else if s.line.state = .unsynced ∨ s.line.state = .stale then slow
         else true) ∧
      (∀ l : LaneIx,
        (s.worksAs .rack = true →
          t.panel.chain[l.val + 1]? = some ((s.lane l).present &&
            (if (s.lane l).starved then fast else (s.lane l).atRisk && slow)) ∧
          t.panel.chain[l.val + 17]? = some (lit (s.lane l).shown)) ∧
        (s.worksAs .rack = false →
          t.panel.chain[l.val + 1]? = some false ∧ t.panel.chain[l.val + 17]? = some false))

/-- A display frame carries 40 printable characters, each most significant bit first, blank in LOAD and CHECK, with the
status field in LISTEN and ACTIVE, and changes nothing but the display and a STOP index past the end of its list, which
becomes 1 (R156, R158). -/
def Obligations.DisplayFrameHoldsForty : Prop :=
  ∀ s : State, s.start.resetLow = false → s.start.role = .train →
    let working := s.start.state = .listen ∨ s.start.state = .active
    let past := working ∧ ∃ r, s.planner.current.or s.planner.planning = some r ∧
      (r.state = .atstop ∨ r.state = .detour) ∧
      (s.planner.manifest.filter fun e => some e.stop == r.present && e.status != .done).length < s.panel.stopIx
    ∃ t, exec .displayFrame s = .next t ∧
      t = { s with panel.display := t.panel.display, panel.stopIx := t.panel.stopIx } ∧
      (past → t.panel.stopIx = 1) ∧ (¬past → t.panel.stopIx = s.panel.stopIx) ∧
      t.displayBits = t.panel.display.flatMap (fun x => [x.getLsbD 7, x.getLsbD 6, x.getLsbD 5, x.getLsbD 4, x.getLsbD 3,
        x.getLsbD 2, x.getLsbD 1, x.getLsbD 0]) ∧
      t.panel.display.length = 40 ∧ (∀ x ∈ t.panel.display, 0x20 ≤ x.toNat ∧ x.toNat ≤ 0x7E) ∧
      (s.start.state = .load ∨ s.start.state = .check → ∀ x ∈ t.panel.display, x = 0x20) ∧
      (s.start.state = .fault → t.panel.display.take 5 = [0x46, 0x41, 0x55, 0x4C, 0x54]) ∧
      (working → (t.panel.display.drop 16).take 4 =
        (if s.air.clash then [0x43, 0x4C, 0x53, 0x48]
         else if s.start.state = .listen then [0x4C, 0x53, 0x54, 0x4E]
         else if s.line.state = .unsynced then [0x53, 0x59, 0x4E, 0x43]
         else if s.line.state = .stale then [0x53, 0x54, 0x41, 0x4C]
         else [0x20, 0x20, 0x20, 0x20]))

/-! ## The aisle channel (Section 9) -/

/-- A frame as one station sends it is complete at another and its CRC matches (R165, R166, R168, R171); the same frame with
other CRC bytes is counted in CRC and reaches no owner. -/
def Obligations.FrameReceivedAsSent : Prop :=
  ∀ (s : State) (src : Byte) (f : TxFrame), s.receiving = true → s.air.rx = .inFrame → f.payload.length ≤ 248 →
    exec (.frameComplete ((wireBytes src f).drop 1)) s =
      .next (({ s with air.rx := .hunting } : State).acceptFrame f.kind.code src f.payload) ∧
    ∀ (body : List Byte) (lo hi : Byte), (wireBytes src f).drop 1 = body ++ [lo, hi] →
      ∀ lo' hi' : Byte, (lo', hi') ≠ (lo, hi) →
        exec (.frameComplete (body ++ [lo', hi'])) s =
          .next { s with air.rx := .hunting, cnt.crc := min (s.cnt.crc + 1) 65535 }

/-- The faults of reception, each with its counter: between frames (R168, R169), SYNC enters a frame, and a LEN out of range,
a gap or a low stop bit abandons it, while hunting they change nothing; on a frame whose CRC matched, the tests in the
order of R171. That a QUERY or an ARRIVE command is such a frame is a DESIGN CHOICE (notes/assumptions/9.md); with the
receiver off, KEY being high or the port idle, no reception completes (R168). -/
def Obligations.ReceptionFaultsCounted : Prop :=
  (∀ (s : State) (len : Byte), s.receiving = true →
      exec .syncByte s = .next { s with air.rx := .inFrame } ∧
      (s.air.rx = .inFrame → len.toNat < 2 ∨ 250 < len.toNat →
        exec (.lengthAbandon len) s = .next { s with air.rx := .hunting, cnt.length := min (s.cnt.length + 1) 65535 }) ∧
      (s.air.rx = .inFrame →
        exec .byteGapTimeout s = .next { s with air.rx := .hunting, cnt.broken := min (s.cnt.broken + 1) 65535 } ∧
        exec .lowStopBit s = .next { s with air.rx := .hunting, cnt.broken := min (s.cnt.broken + 1) 65535 }) ∧
      (s.air.rx = .hunting → exec (.lengthAbandon len) s = .next s ∧ exec .byteGapTimeout s = .next s ∧
        exec .lowStopBit s = .next s)) ∧
  (∀ (s : State) (src : Byte) (p : List Byte), s.receiving = true →
      (src = s.ownByte → exec (.query src p) s =
        .next { s with air.rx := .hunting, air.clash := true, cnt.clash := min (s.cnt.clash + 1) 65535 }) ∧
      (src ≠ s.ownByte → src = 0 ∨ 128 ≤ src.toNat → exec (.query src p) s =
        .next { s with air.rx := .hunting, cnt.source := min (s.cnt.source + 1) 65535 }) ∧
      (src ≠ s.ownByte → src = 127 → exec (.arrive src p) s =
        .next { s with air.rx := .hunting, cnt.source := min (s.cnt.source + 1) 65535 }) ∧
      (src ≠ s.ownByte → 1 ≤ src.toNat → src.toNat ≤ 126 → p.length ≠ 4 → exec (.arrive src p) s =
        .next { s with air.rx := .hunting, cnt.length := min (s.cnt.length + 1) 65535 }) ∧
      (src ≠ s.ownByte → 1 ≤ src.toNat → src.toNat ≤ 126 → p.length = 4 → 8 ≤ s.air.rxq.length →
        exec (.arrive src p) s =
          .next { s with air.rx := .hunting, cnt.overrun := min (s.cnt.overrun + 1) 65535 })) ∧
  (∀ (s : State) (code src : Byte) (p : List Byte), s.receiving = true → s.air.rx = .inFrame → p.length ≤ 248 →
      code ∉ ([0x21, 0x22, 0x23, 0x24, 0x25, 0x26, 0x27, 0x2E, 0x2F] : List Byte) →
      src ≠ s.ownByte → 1 ≤ src.toNat → src.toNat ≤ 126 →
      let body := BitVec.ofNat 8 (p.length + 2) :: code :: src :: p
      exec (.frameComplete (body ++ [loByte (crc body), hiByte (crc body)])) s =
        .next { s with air.rx := .hunting, cnt.kind := min (s.cnt.kind + 1) 65535 }) ∧
  (∀ (s : State) (src : Byte) (p : List Byte), s.receiving = false →
      exec .syncByte s = .next s ∧ exec (.frameComplete p) s = .next s ∧ exec (.unit src p) s = .next s ∧
      exec (.runNotice src p) s = .next s ∧ exec (.manifestPart src p) s = .next s ∧
      exec (.claimset src p) s = .next s ∧ exec (.arrive src p) s = .next s ∧ exec (.depart src p) s = .next s ∧
      exec (.receipt src p) s = .next s ∧ exec (.query src p) s = .next s)

/-- A QUERY for the own address queues a REPORT of its page, with no-page set for a page the station does not have; one for
another station queues nothing (R197, R198). The content of the pages (R199 to R202); that a single mark is one byte and
a set of flags is packed into whole bytes is a DESIGN CHOICE (notes/assumptions/19.md). -/
def Obligations.QueryAnsweredByReport : Prop :=
  (∀ (s : State) (src dest page : Byte), s.receiving = true → s.air.rxq = [] → s.bookSettled = true →
    src ≠ s.ownByte → 1 ≤ src.toNat → src.toNat ≤ 127 →
    (dest = s.ownByte → s.txRoom = true →
      ∃ t f, exec (.query src [dest, page]) s = .next t ∧ f ∈ t.air.txq ∧ f.kind = .report ∧
        (∀ content, s.page page.toNat = some content →
          f.payload = src :: page :: byte ((if s.air.clash then 2 else 0) + if s.start.state = .fault then 4 else 0) ::
            content) ∧
        (s.page page.toNat = none →
          f.payload =
            [src, page, byte (1 + (if s.air.clash then 2 else 0) + if s.start.state = .fault then 4 else 0)]) ∧
        t.cnt = s.cnt ∧ t.line = s.line ∧ t.start = s.start ∧ t.runs = s.runs ∧ t.planner = s.planner) ∧
    (dest ≠ s.ownByte →
      ∃ t, exec (.query src [dest, page]) s = .next t ∧ t.air = { s.air with rx := .hunting } ∧ t.cnt = s.cnt ∧
        t.free = s.free)) ∧
  ∀ s : State,
    let code := fun (x : Nat) => byte x
    (∀ p, (s.page p).isSome = true ↔ p = 0 ∨ (s.worksAs .rack = true ∧ p ≤ 4) ∨ (s.worksAs .train = true ∧ p ≤ 6) ∨
      (s.worksAs .pacer = true ∧ p ≤ 1)) ∧
    s.page 0 = some
      ([(match s.start.role with | .rack => 0 | .train => 1 | .pacer => 2 | .unknown => 3), s.ownByte,
        (match s.start.state with | .load => 0 | .check => 1 | .listen => 2 | .active => 3 | .fault => 4),
        (match s.start.cause with | .powerOn => 0 | .pin => 1),
        (match s.start.faultCause with
          | .noFault => 0 | .badStraps => 1 | .noProfile => 2 | .badCheck => 3 | .roleMismatch => 4),
        s.line.followed.getD 0, (match s.line.state with | .unsynced => 0 | .tracking => 1 | .stale => 2)] ++
        bytes2 s.line.n ++ le2 s.line.takt ++ le2 s.cnt.crc ++ le2 s.cnt.broken ++ le2 s.cnt.length ++
        le2 s.cnt.source ++ le2 s.cnt.kind ++ le2 s.cnt.overrun ++ le2 s.cnt.txdrop ++ le2 s.cnt.resync ++
        le2 s.cnt.gap ++ le2 s.cnt.conflict ++ le2 s.cnt.clash ++ le2 s.cnt.bookfull ++ le2 s.cnt.rundrop ++
        le2 s.cnt.double ++ le2 s.cnt.phantom ++ [code s.start.clamped]) ∧
    (s.worksAs .rack = true → ∀ l : LaneIx,
      let r := s.lane l
      let bits := fun (xs : List Bool) => code ((xs.zipIdx.map fun x => if x.1 then 2 ^ x.2 else 0).sum)
      ∃ content, s.page (l.val / 4 + 1) = some content ∧ content.length = 80 ∧
        (content.drop (20 * (l.val % 4))).take 20 =
          (if r.present then
            ([(match r.call with
              | .quiet => 0 | .calling => 1 | .waiting => 2 | .admitted => 3 | .manifested => 4 | .due => 5)] :
              List Byte) ++
            le2 r.s ++ [code r.b] ++
            (match r.forecast with | some f => bytes2 (f.rref - s.line.n) | none => [0, 0]) ++
            bytes2 (match r.call with
              | .waiting | .admitted => r.claimRun.getD 0
              | .manifested | .due => r.onRun.getD 0
              | .quiet | .calling => 0)
           else List.replicate 8 0) ++
          [code r.requested, code r.delivered] ++ bytes2 (BitVec.ofInt 16 r.drift) ++ le2 r.shortfall ++
          le2 r.shortBins ++ le2 r.surplus ++
          [bits [!r.present, r.starved, r.atRisk, r.late, r.uncounted, r.forecast.any Forecast.beyond, r.provisional],
            bits [r.feedIn.latch, r.emptyIn.latch, r.reserveIn.latch]]) ∧
    (s.worksAs .train = true →
      (∀ c x, s.planner.current = some c → s.planner.planning = some x →
        let slot := fun (r : Run) =>
          bytes2 r.id ++ [(match r.state with
              | .planning => 0 | .loading => 1 | .enroute => 2 | .atstop => 3 | .held => 4 | .detour => 5),
            code (r.present.getD 0), if r.revisit then 1 else 0] ++ packFlags r.served
        s.page 1 = some (slot c ++ slot x ++ le2 s.planner.e ++
          [s.planner.nextRun, code s.planner.manifest.length, code s.book.entries.length])) ∧
      (∀ p, 2 ≤ p → p ≤ 5 → s.page p = some (((s.planner.manifest.drop (8 * (p - 2))).take 8).flatMap fun e =>
        [code e.station, code e.lane.val, code e.stop, code e.cls, code e.size, code e.bins, if e.late then 1 else 0,
          code e.delivered, (match e.status with | .pending => 0 | .done => 1 | .short => 2)])) ∧
      s.page 6 = some (s.planner.log.reverse.flatMap fun e =>
        [e.runNumber, code e.stop, (match e.kind with | .first => 0 | .revisit => 1 | .detour => 2),
          (match e.timer with | .stopped => 0 | .running _ => 1 | .expired => 2), code e.expected.length,
          code e.heard.length])) ∧
    (s.worksAs .pacer = true →
      s.page 1 = some (([(match s.pacer.state with | .listen => 0 | .active => 1 | .standby => 2)] : List Byte) ++
        bytes2 s.pacer.nLocal ++ le2 s.pacer.measured ++
        [s.pacer.record.v3.setWidth 8, s.pacer.record.v2.setWidth 8, s.pacer.record.v1.setWidth 8,
          s.pacer.record.v0.setWidth 8]))

/-- Channel access (R178, R179, R181, R182): carrier stops and restarts the quiet time; a head that may be sent goes to the
transmitter and the next head draws; at the end KEY falls and the quiet time starts again. That a SEND_START does
nothing where no sending may begin is a DESIGN CHOICE (notes/assumptions/7.md), and that the quiet time does not start
while CARRIER is high is DEDUCED (notes/assumptions/16.md). The levels on TXD: idle high in the key-up lead, then for
each byte a start bit low, eight data bits least significant first and a stop bit high (R163). -/
def Obligations.SendingFollowsChannelAccess : Prop :=
  ∀ s : State,
    exec .carrierRise s = .next { s with air.carrier := true, air.quiet := none } ∧
    (s.portWorks = true → s.air.tx = none →
      exec .carrierFall s = .next { s with air.carrier := false, air.quiet := some 0 }) ∧
    (∀ f rest, s.portWorks = true → s.air.tx = none → s.air.txq = f :: rest → s.air.backoff = 0 →
      s.channelQuiet = true →
      ∃ t, exec .sendStart s = .next t ∧
        t.air.tx = some ⟨wireBytes s.ownByte f, f.payload.length + 7⟩ ∧ t.air.txq = rest ∧ t.air.quiet = none ∧
        t.air.rx = .hunting ∧
        t.cnt = { s.cnt with broken := if s.air.rx = .inFrame then min (s.cnt.broken + 1) 65535 else s.cnt.broken } ∧
        (∀ g more, rest = g :: more →
          t.air.random = randomDraw s.air.random ∧ t.air.backoff = (randomDraw s.air.random).toNat % g.kind.window) ∧
        (rest = [] → t.air.random = s.air.random) ∧ t.air.rxq = s.air.rxq ∧ t.air.clash = s.air.clash ∧
        t = { s with air := t.air, cnt := t.cnt }) ∧
    ((s.air.tx.isSome = true ∨ s.air.txq = [] ∨ s.air.backoff ≠ 0 ∨ s.channelQuiet = false) →
      exec .sendStart s = .next s) ∧
    (s.air.tx = none → s.txdBits = List.replicate 10 true) ∧
    (∀ bytes : List Byte,
      s.air.tx = some ⟨bytes, bytes.length + 1⟩ ∨ s.air.tx = some ⟨bytes, 0⟩ → s.txdBits = List.replicate 10 true) ∧
    (∀ (bytes : List Byte) (i : Nat) (x : Byte), bytes[i]? = some x → s.air.tx = some ⟨bytes, bytes.length - i⟩ →
      s.txdBits = [false, x.getLsbD 0, x.getLsbD 1, x.getLsbD 2, x.getLsbD 3, x.getLsbD 4, x.getLsbD 5, x.getLsbD 6,
        x.getLsbD 7, true]) ∧
    (∀ x, s.air.tx = some x → x.left = 0 →
      exec .sendEnd s =
        .next { s with air.tx := none, air.rx := .hunting, air.quiet := if s.air.carrier then none else some 0 })

/-- Every step keeps the transmit queue within 8 frames of different replacement keys, REPORT alone outside ACTIVE (R176,
R177). A frame that an owner offers: not accepted, it is neither queued nor counted (R176); accepted, it takes the place of
the waiting frame of its key, with the backoff count kept, or joins the tail of a queue with room, as the head of an empty
one with a backoff count drawn (R178), or is dropped and TXDROP rises (R177). -/
def Obligations.TransmitQueueStaysDistinct : Prop :=
  (∀ s t : State, s.TransmitInv → step s = .next t → t.TransmitInv) ∧
  ∀ (s : State) (f : TxFrame),
    (s.accepts f.kind = false → s.offer f = s) ∧
    (s.accepts f.kind = true → (s.air.txq.map TxFrame.key).Nodup →
      (∀ i g, s.air.txq[i]? = some g → g.key = f.key → s.offer f = { s with air.txq := s.air.txq.set i f }) ∧
      ((∀ g ∈ s.air.txq, g.key ≠ f.key) →
        (s.air.txq = [] → s.offer f = { s with
          air.txq := [f], air.random := randomDraw s.air.random,
          air.backoff := (randomDraw s.air.random).toNat % f.kind.window }) ∧
        (s.air.txq ≠ [] → s.air.txq.length < 8 → s.offer f = { s with air.txq := s.air.txq ++ [f] }) ∧
        (8 ≤ s.air.txq.length → s.offer f = { s with cnt.txdrop := min (s.cnt.txdrop + 1) 65535 })))

/-- Every step keeps the receive queue within 8 frames, held only behind a CLAIMSET that waits for a busy book (R173, R175). -/
def Obligations.ReceiveQueueWaitsForBook : Prop :=
  ∀ s t : State, s.ReceiveInv → step s = .next t → t.ReceiveInv

/-- Every step keeps the window of a rack that follows a pacer at P entries (R16, R17, R18). -/
def Obligations.WindowHoldsPUnits : Prop :=
  ∀ s t : State, s.WindowInv → step s = .next t → t.WindowInv

/-- The invariants hold at reset. -/
def Obligations.InvariantsHoldAtReset : Prop :=
  State.reset.StockInv ∧ State.reset.TransmitInv ∧ State.reset.ReceiveInv ∧ State.reset.WindowInv ∧
    State.reset.RunListInv ∧ State.reset.PlannerInv ∧ State.reset.NoticeInv ∧ State.reset.BookInv ∧
    State.reset.RiskInv

/-- Every payload an owner writes is read back whole by the owner that takes it, for every value its fields admit (R167). -/
def Obligations.PayloadsReadBack : Prop :=
  (∀ u : UnitNotice, readUnit (writeUnit u) = some u) ∧
  (∀ r : RunNotice, r.caps.c0 < 256 → r.caps.c1 < 256 → r.caps.c2 < 256 → r.caps.c3 < 256 → r.stops.length < 256 →
    (∀ i ∈ r.stops, i.stop < 128) → readRun (writeRun r) = some r ∧ shapeFits .run (writeRun r) = true) ∧
  (∀ (src : Byte) (items : List ClaimItem), items.length ≤ 16 →
    (∀ c ∈ items, c.lane < 256 ∧ c.stop < 256 ∧ c.cls < 128 ∧ c.size < 256 ∧ c.bins < 256) →
    readClaimset src (writeClaimset items) = some ⟨src.toNat, items⟩) ∧
  (∀ p : ManifestPart, p.index < 4 → 1 ≤ p.count → p.count ≤ 4 → p.entries.length ≤ 8 →
    (∀ e ∈ p.entries, e.station < 256 ∧ e.lane < 256 ∧ e.stop < 256 ∧ e.bins < 256) →
    readPart (writePart p) = some p ∧ shapeFits .manifest (writePart p) = true) ∧
  (∀ a : Arrival, a.stop < 256 → readArrive (writeArrive a) = some a) ∧
  (∀ d : Departure, d.stop < 256 → readDepart (writeDepart d) = some d) ∧
  (∀ r : Receipt, r.stop < 256 → r.items.length ≤ 8 →
    (∀ i ∈ r.items, i.lane < 256 ∧ i.delivered < 256 ∧ i.requested < 256) →
    readReceipt (writeReceipt r) = some r)

/-! ## Inputs (R2, R22 to R25, R102) -/

/-- A 20 ms sample: outside LISTEN and ACTIVE nothing is sampled and the SENSE chain is not scanned, and in them one scan is
an SNS_LD pulse and 48 clocks on SNS_CLK in every role (R22); an input changes its accepted level at the second equal
sample, and an accepted change is its event: TAKT of a pacer (R2), FEED, EMPTY and RESERVE of a rack's lane (R23 to R30)
and the presence inputs of a LOCAL bank (R153), the strobe and the buttons of a train (R102). That one command carries
out all the changes of a sample, and that an event command leaves its input accepted, is a DESIGN CHOICE
(notes/assumptions/8.md). -/
def Obligations.InputSampleTakesAcceptedChanges : Prop :=
  ∀ (s : State) (pins : Pins),
    (s.working = false → exec (.inputSample pins) s = .next s ∧ s.scanPulses = []) ∧
    (s.working = true → s.scanPulses = .load :: List.replicate 48 .clock) ∧
    (s.worksAs .pacer = true →
      ∃ t, exec (.inputSample pins) s = .next t ∧
        (pins.rp.getLsbD 7 = true → s.pacer.taktIn = ⟨some true, some false⟩ →
          t.pacer.nLocal = s.pacer.nLocal + 1 ∧ t.pacer.taktIn = ⟨some true, some true⟩) ∧
        (¬(pins.rp.getLsbD 7 = true ∧ s.pacer.taktIn.last = some true ∧ s.pacer.taktIn.acc = some false) →
          t.pacer.nLocal = s.pacer.nLocal ∧ t.pacer.record = s.pacer.record ∧ t.air = s.air ∧ t.line = s.line)) ∧
    (s.worksAs .rack = true →
      ∃ t, exec (.inputSample pins) s = .next t ∧
        (∀ l : LaneIx, (s.lane l).present = true →
          let feed := pins.sense.getLsbD (3 * l.val)
          let empty := pins.sense.getLsbD (3 * l.val + 1)
          let reserve := pins.sense.getLsbD (3 * l.val + 2)
          let still := fun (i : SensorIn) (x : Bool) => i.level.last ≠ some x
          let rises := fun (i : SensorIn) (x : Bool) => x = true ∧ i.level = ⟨some true, some false⟩
          let r := s.lane l
          (rises r.feedIn feed → still r.emptyIn empty → still r.reserveIn reserve → r.b < r.cfg.binsMax →
            (t.lane l).b = r.b + 1) ∧
          (still r.feedIn feed → rises r.emptyIn empty → still r.reserveIn reserve → 0 < r.b →
            (t.lane l).b = r.b - 1 ∧ (t.lane l).s = (r.b - 1) * r.cfg.q) ∧
          (still r.feedIn feed → still r.emptyIn empty → rises r.reserveIn reserve → 1 < r.b →
            (t.lane l).b = 1 ∧ (t.lane l).s = min r.s r.cfg.q)) ∧
        (∀ l : LaneIx, (s.lane l).feedIn.level.last ≠ some (pins.sense.getLsbD (3 * l.val)) →
          (s.lane l).emptyIn.level.last ≠ some (pins.sense.getLsbD (3 * l.val + 1)) →
          (s.lane l).reserveIn.level.last ≠ some (pins.sense.getLsbD (3 * l.val + 2)) →
          (t.lane l).stock = (s.lane l).stock ∧ (t.lane l).delivery = (s.lane l).delivery) ∧
        (∀ k : Bank,
          let x := match k with
            | .a => pins.rp.getLsbD 0
            | .b => pins.rp.getLsbD 1
          let p := (s.bank k).presence
          (t.bank k).presence = (if p.last = some x then ⟨some x, some x⟩ else ⟨some x, p.acc⟩) ∧
          (p = ⟨some true, some false⟩ → x = true → s.prof.isLocal k = true → (t.bank k).faceOpen = true) ∧
          (p = ⟨some false, some true⟩ → x = false → s.prof.isLocal k = true → (t.bank k).faceOpen = false) ∧
          (s.prof.isLocal k = false → (t.bank k).faceOpen = (s.bank k).faceOpen))) ∧
    (s.worksAs .train = true →
      let q := s.planner
      let next := fun (d : Debounce Bool) (x : Bool) =>
        if d.last = some x then (⟨some x, some x⟩ : Debounce Bool) else ⟨some x, d.acc⟩
      let rises := fun (d : Debounce Bool) (x : Bool) => x && d.last == some true && d.acc == some false
      let stop := pins.rp.extractLsb' 0 5
      let u : State := { s with
        planner.stopIn := if q.stopIn.last = some stop then ⟨some stop, some stop⟩ else ⟨some stop, q.stopIn.acc⟩,
        planner.strobeIn := next q.strobeIn (pins.rp.getLsbD 5),
        planner.loadIn := next q.loadIn (pins.rp.getLsbD 6),
        planner.goIn := next q.goIn (pins.rp.getLsbD 7),
        planner.holdIn := next q.holdIn (pins.rp.getLsbD 8),
        planner.ackIn := next q.ackIn (pins.rp.getLsbD 9) }
      let risen := [rises q.strobeIn (pins.rp.getLsbD 5), rises q.loadIn (pins.rp.getLsbD 6),
        rises q.goIn (pins.rp.getLsbD 7), rises q.holdIn (pins.rp.getLsbD 8), rises q.ackIn (pins.rp.getLsbD 9)]
      (risen = [false, false, false, false, false] → exec (.inputSample pins) s = .next u) ∧
      (risen = [true, false, false, false, false] → exec (.inputSample pins) s = exec .arrivalStrobe u) ∧
      (risen = [false, true, false, false, false] → exec (.inputSample pins) s = exec .loadPress u) ∧
      (risen = [false, false, true, false, false] → exec (.inputSample pins) s = exec .goPress u) ∧
      (risen = [false, false, false, true, false] → exec (.inputSample pins) s = exec .holdPress u) ∧
      (risen = [false, false, false, false, true] → exec (.inputSample pins) s = exec .ack u))
end

