-- ==== Sys2Proof/Laws/State.lean ====
section
/-! SUPPORT. What the updates of the state leave in each field, and what reading a lane or a bank gives after a write. -/

namespace Sys2Proof.Machine

/-! ## One lemma per field per update -/

@[simp] theorem State.takeFree2_start (s : State) : (s.takeFree.2).start = s.start := rfl
@[simp] theorem State.takeFree2_prof (s : State) : (s.takeFree.2).prof = s.prof := rfl
@[simp] theorem State.takeFree2_cnt (s : State) : (s.takeFree.2).cnt = s.cnt := rfl
@[simp] theorem State.takeFree2_air (s : State) : (s.takeFree.2).air = s.air := rfl
@[simp] theorem State.takeFree2_line (s : State) : (s.takeFree.2).line = s.line := rfl
@[simp] theorem State.takeFree2_pacer (s : State) : (s.takeFree.2).pacer = s.pacer := rfl
@[simp] theorem State.takeFree2_lanes (s : State) : (s.takeFree.2).lanes = s.lanes := rfl
@[simp] theorem State.takeFree2_bankA (s : State) : (s.takeFree.2).bankA = s.bankA := rfl
@[simp] theorem State.takeFree2_bankB (s : State) : (s.takeFree.2).bankB = s.bankB := rfl
@[simp] theorem State.takeFree2_runs (s : State) : (s.takeFree.2).runs = s.runs := rfl
@[simp] theorem State.takeFree2_book (s : State) : (s.takeFree.2).book = s.book := rfl
@[simp] theorem State.takeFree2_planner (s : State) : (s.takeFree.2).planner = s.planner := rfl
@[simp] theorem State.takeFree2_panel (s : State) : (s.takeFree.2).panel = s.panel := rfl
@[simp] theorem State.takeFree2_free (s : State) : (s.takeFree.2).free = s.free + 1 := rfl
@[simp] theorem State.takeFree2_pending (s : State) : (s.takeFree.2).pending = s.pending := rfl

@[simp] theorem State.setLane_start (s : State) (l : LaneIx) (r : LaneRec) : (s.setLane l r).start = s.start := rfl
@[simp] theorem State.setLane_prof (s : State) (l : LaneIx) (r : LaneRec) : (s.setLane l r).prof = s.prof := rfl
@[simp] theorem State.setLane_cnt (s : State) (l : LaneIx) (r : LaneRec) : (s.setLane l r).cnt = s.cnt := rfl
@[simp] theorem State.setLane_air (s : State) (l : LaneIx) (r : LaneRec) : (s.setLane l r).air = s.air := rfl
@[simp] theorem State.setLane_line (s : State) (l : LaneIx) (r : LaneRec) : (s.setLane l r).line = s.line := rfl
@[simp] theorem State.setLane_pacer (s : State) (l : LaneIx) (r : LaneRec) : (s.setLane l r).pacer = s.pacer := rfl
@[simp] theorem State.setLane_lanes (s : State) (l : LaneIx) (r : LaneRec) : (s.setLane l r).lanes = s.lanes.set l r := rfl
@[simp] theorem State.setLane_bankA (s : State) (l : LaneIx) (r : LaneRec) : (s.setLane l r).bankA = s.bankA := rfl
@[simp] theorem State.setLane_bankB (s : State) (l : LaneIx) (r : LaneRec) : (s.setLane l r).bankB = s.bankB := rfl
@[simp] theorem State.setLane_runs (s : State) (l : LaneIx) (r : LaneRec) : (s.setLane l r).runs = s.runs := rfl
@[simp] theorem State.setLane_book (s : State) (l : LaneIx) (r : LaneRec) : (s.setLane l r).book = s.book := rfl
@[simp] theorem State.setLane_planner (s : State) (l : LaneIx) (r : LaneRec) : (s.setLane l r).planner = s.planner := rfl
@[simp] theorem State.setLane_panel (s : State) (l : LaneIx) (r : LaneRec) : (s.setLane l r).panel = s.panel := rfl
@[simp] theorem State.setLane_free (s : State) (l : LaneIx) (r : LaneRec) : (s.setLane l r).free = s.free := rfl
@[simp] theorem State.setLane_pending (s : State) (l : LaneIx) (r : LaneRec) : (s.setLane l r).pending = s.pending := rfl

@[simp] theorem State.modLane_start (s : State) (l : LaneIx) (f : LaneRec → LaneRec) : (s.modLane l f).start = s.start := rfl
@[simp] theorem State.modLane_prof (s : State) (l : LaneIx) (f : LaneRec → LaneRec) : (s.modLane l f).prof = s.prof := rfl
@[simp] theorem State.modLane_cnt (s : State) (l : LaneIx) (f : LaneRec → LaneRec) : (s.modLane l f).cnt = s.cnt := rfl
@[simp] theorem State.modLane_air (s : State) (l : LaneIx) (f : LaneRec → LaneRec) : (s.modLane l f).air = s.air := rfl
@[simp] theorem State.modLane_line (s : State) (l : LaneIx) (f : LaneRec → LaneRec) : (s.modLane l f).line = s.line := rfl
@[simp] theorem State.modLane_pacer (s : State) (l : LaneIx) (f : LaneRec → LaneRec) : (s.modLane l f).pacer = s.pacer := rfl
@[simp] theorem State.modLane_lanes (s : State) (l : LaneIx) (f : LaneRec → LaneRec) : (s.modLane l f).lanes = s.lanes.set l (f (s.lane l)) := rfl
@[simp] theorem State.modLane_bankA (s : State) (l : LaneIx) (f : LaneRec → LaneRec) : (s.modLane l f).bankA = s.bankA := rfl
@[simp] theorem State.modLane_bankB (s : State) (l : LaneIx) (f : LaneRec → LaneRec) : (s.modLane l f).bankB = s.bankB := rfl
@[simp] theorem State.modLane_runs (s : State) (l : LaneIx) (f : LaneRec → LaneRec) : (s.modLane l f).runs = s.runs := rfl
@[simp] theorem State.modLane_book (s : State) (l : LaneIx) (f : LaneRec → LaneRec) : (s.modLane l f).book = s.book := rfl
@[simp] theorem State.modLane_planner (s : State) (l : LaneIx) (f : LaneRec → LaneRec) : (s.modLane l f).planner = s.planner := rfl
@[simp] theorem State.modLane_panel (s : State) (l : LaneIx) (f : LaneRec → LaneRec) : (s.modLane l f).panel = s.panel := rfl
@[simp] theorem State.modLane_free (s : State) (l : LaneIx) (f : LaneRec → LaneRec) : (s.modLane l f).free = s.free := rfl
@[simp] theorem State.modLane_pending (s : State) (l : LaneIx) (f : LaneRec → LaneRec) : (s.modLane l f).pending = s.pending := rfl

@[simp] theorem State.mapLanes_start (s : State) (f : LaneIx → LaneRec → LaneRec) : (s.mapLanes f).start = s.start := rfl
@[simp] theorem State.mapLanes_prof (s : State) (f : LaneIx → LaneRec → LaneRec) : (s.mapLanes f).prof = s.prof := rfl
@[simp] theorem State.mapLanes_cnt (s : State) (f : LaneIx → LaneRec → LaneRec) : (s.mapLanes f).cnt = s.cnt := rfl
@[simp] theorem State.mapLanes_air (s : State) (f : LaneIx → LaneRec → LaneRec) : (s.mapLanes f).air = s.air := rfl
@[simp] theorem State.mapLanes_line (s : State) (f : LaneIx → LaneRec → LaneRec) : (s.mapLanes f).line = s.line := rfl
@[simp] theorem State.mapLanes_pacer (s : State) (f : LaneIx → LaneRec → LaneRec) : (s.mapLanes f).pacer = s.pacer := rfl
@[simp] theorem State.mapLanes_lanes (s : State) (f : LaneIx → LaneRec → LaneRec) : (s.mapLanes f).lanes = Vector.ofFn fun l => f l s.lanes[l] := rfl
@[simp] theorem State.mapLanes_bankA (s : State) (f : LaneIx → LaneRec → LaneRec) : (s.mapLanes f).bankA = s.bankA := rfl
@[simp] theorem State.mapLanes_bankB (s : State) (f : LaneIx → LaneRec → LaneRec) : (s.mapLanes f).bankB = s.bankB := rfl
@[simp] theorem State.mapLanes_runs (s : State) (f : LaneIx → LaneRec → LaneRec) : (s.mapLanes f).runs = s.runs := rfl
@[simp] theorem State.mapLanes_book (s : State) (f : LaneIx → LaneRec → LaneRec) : (s.mapLanes f).book = s.book := rfl
@[simp] theorem State.mapLanes_planner (s : State) (f : LaneIx → LaneRec → LaneRec) : (s.mapLanes f).planner = s.planner := rfl
@[simp] theorem State.mapLanes_panel (s : State) (f : LaneIx → LaneRec → LaneRec) : (s.mapLanes f).panel = s.panel := rfl
@[simp] theorem State.mapLanes_free (s : State) (f : LaneIx → LaneRec → LaneRec) : (s.mapLanes f).free = s.free := rfl
@[simp] theorem State.mapLanes_pending (s : State) (f : LaneIx → LaneRec → LaneRec) : (s.mapLanes f).pending = s.pending := rfl

@[simp] theorem State.setBank_start (s : State) (k : Bank) (r : BankRec) : (s.setBank k r).start = s.start := by cases k <;> rfl
@[simp] theorem State.setBank_prof (s : State) (k : Bank) (r : BankRec) : (s.setBank k r).prof = s.prof := by cases k <;> rfl
@[simp] theorem State.setBank_cnt (s : State) (k : Bank) (r : BankRec) : (s.setBank k r).cnt = s.cnt := by cases k <;> rfl
@[simp] theorem State.setBank_air (s : State) (k : Bank) (r : BankRec) : (s.setBank k r).air = s.air := by cases k <;> rfl
@[simp] theorem State.setBank_line (s : State) (k : Bank) (r : BankRec) : (s.setBank k r).line = s.line := by cases k <;> rfl
@[simp] theorem State.setBank_pacer (s : State) (k : Bank) (r : BankRec) : (s.setBank k r).pacer = s.pacer := by cases k <;> rfl
@[simp] theorem State.setBank_lanes (s : State) (k : Bank) (r : BankRec) : (s.setBank k r).lanes = s.lanes := by cases k <;> rfl
@[simp] theorem State.setBank_runs (s : State) (k : Bank) (r : BankRec) : (s.setBank k r).runs = s.runs := by cases k <;> rfl
@[simp] theorem State.setBank_book (s : State) (k : Bank) (r : BankRec) : (s.setBank k r).book = s.book := by cases k <;> rfl
@[simp] theorem State.setBank_planner (s : State) (k : Bank) (r : BankRec) : (s.setBank k r).planner = s.planner := by cases k <;> rfl
@[simp] theorem State.setBank_panel (s : State) (k : Bank) (r : BankRec) : (s.setBank k r).panel = s.panel := by cases k <;> rfl
@[simp] theorem State.setBank_free (s : State) (k : Bank) (r : BankRec) : (s.setBank k r).free = s.free := by cases k <;> rfl
@[simp] theorem State.setBank_pending (s : State) (k : Bank) (r : BankRec) : (s.setBank k r).pending = s.pending := by cases k <;> rfl

@[simp] theorem State.modBank_start (s : State) (k : Bank) (f : BankRec → BankRec) : (s.modBank k f).start = s.start := by cases k <;> rfl
@[simp] theorem State.modBank_prof (s : State) (k : Bank) (f : BankRec → BankRec) : (s.modBank k f).prof = s.prof := by cases k <;> rfl
@[simp] theorem State.modBank_cnt (s : State) (k : Bank) (f : BankRec → BankRec) : (s.modBank k f).cnt = s.cnt := by cases k <;> rfl
@[simp] theorem State.modBank_air (s : State) (k : Bank) (f : BankRec → BankRec) : (s.modBank k f).air = s.air := by cases k <;> rfl
@[simp] theorem State.modBank_line (s : State) (k : Bank) (f : BankRec → BankRec) : (s.modBank k f).line = s.line := by cases k <;> rfl
@[simp] theorem State.modBank_pacer (s : State) (k : Bank) (f : BankRec → BankRec) : (s.modBank k f).pacer = s.pacer := by cases k <;> rfl
@[simp] theorem State.modBank_lanes (s : State) (k : Bank) (f : BankRec → BankRec) : (s.modBank k f).lanes = s.lanes := by cases k <;> rfl
@[simp] theorem State.modBank_runs (s : State) (k : Bank) (f : BankRec → BankRec) : (s.modBank k f).runs = s.runs := by cases k <;> rfl
@[simp] theorem State.modBank_book (s : State) (k : Bank) (f : BankRec → BankRec) : (s.modBank k f).book = s.book := by cases k <;> rfl
@[simp] theorem State.modBank_planner (s : State) (k : Bank) (f : BankRec → BankRec) : (s.modBank k f).planner = s.planner := by cases k <;> rfl
@[simp] theorem State.modBank_panel (s : State) (k : Bank) (f : BankRec → BankRec) : (s.modBank k f).panel = s.panel := by cases k <;> rfl
@[simp] theorem State.modBank_free (s : State) (k : Bank) (f : BankRec → BankRec) : (s.modBank k f).free = s.free := by cases k <;> rfl
@[simp] theorem State.modBank_pending (s : State) (k : Bank) (f : BankRec → BankRec) : (s.modBank k f).pending = s.pending := by cases k <;> rfl

@[simp] theorem State.ask_start (s : State) : (s.ask).start = s.start := rfl
@[simp] theorem State.ask_prof (s : State) : (s.ask).prof = s.prof := rfl
@[simp] theorem State.ask_cnt (s : State) : (s.ask).cnt = s.cnt := rfl
@[simp] theorem State.ask_air (s : State) : (s.ask).air = s.air := rfl
@[simp] theorem State.ask_line (s : State) : (s.ask).line = s.line := rfl
@[simp] theorem State.ask_pacer (s : State) : (s.ask).pacer = s.pacer := rfl
@[simp] theorem State.ask_lanes (s : State) : (s.ask).lanes = s.lanes := rfl
@[simp] theorem State.ask_bankA (s : State) : (s.ask).bankA = s.bankA := rfl
@[simp] theorem State.ask_bankB (s : State) : (s.ask).bankB = s.bankB := rfl
@[simp] theorem State.ask_runs (s : State) : (s.ask).runs = s.runs := rfl
@[simp] theorem State.ask_book (s : State) : (s.ask).book = { s.book with asked := true } := rfl
@[simp] theorem State.ask_planner (s : State) : (s.ask).planner = s.planner := rfl
@[simp] theorem State.ask_panel (s : State) : (s.ask).panel = s.panel := rfl
@[simp] theorem State.ask_free (s : State) : (s.ask).free = s.free := rfl
@[simp] theorem State.ask_pending (s : State) : (s.ask).pending = s.pending := rfl

@[simp] theorem State.askRefresh_start (s : State) : (s.askRefresh).start = s.start := rfl
@[simp] theorem State.askRefresh_prof (s : State) : (s.askRefresh).prof = s.prof := rfl
@[simp] theorem State.askRefresh_cnt (s : State) : (s.askRefresh).cnt = s.cnt := rfl
@[simp] theorem State.askRefresh_air (s : State) : (s.askRefresh).air = s.air := rfl
@[simp] theorem State.askRefresh_line (s : State) : (s.askRefresh).line = s.line := rfl
@[simp] theorem State.askRefresh_pacer (s : State) : (s.askRefresh).pacer = s.pacer := rfl
@[simp] theorem State.askRefresh_lanes (s : State) : (s.askRefresh).lanes = s.lanes := rfl
@[simp] theorem State.askRefresh_bankA (s : State) : (s.askRefresh).bankA = s.bankA := rfl
@[simp] theorem State.askRefresh_bankB (s : State) : (s.askRefresh).bankB = s.bankB := rfl
@[simp] theorem State.askRefresh_runs (s : State) : (s.askRefresh).runs = s.runs := rfl
@[simp] theorem State.askRefresh_book (s : State) : (s.askRefresh).book = { s.book with askedRefresh := true } := rfl
@[simp] theorem State.askRefresh_planner (s : State) : (s.askRefresh).planner = s.planner := rfl
@[simp] theorem State.askRefresh_panel (s : State) : (s.askRefresh).panel = s.panel := rfl
@[simp] theorem State.askRefresh_free (s : State) : (s.askRefresh).free = s.free := rfl
@[simp] theorem State.askRefresh_pending (s : State) : (s.askRefresh).pending = s.pending := rfl

@[simp] theorem State.dropOwnEntry_start (s : State) (l : LaneIx) : (s.dropOwnEntry l).start = s.start := rfl
@[simp] theorem State.dropOwnEntry_prof (s : State) (l : LaneIx) : (s.dropOwnEntry l).prof = s.prof := rfl
@[simp] theorem State.dropOwnEntry_cnt (s : State) (l : LaneIx) : (s.dropOwnEntry l).cnt = s.cnt := rfl
@[simp] theorem State.dropOwnEntry_air (s : State) (l : LaneIx) : (s.dropOwnEntry l).air = s.air := rfl
@[simp] theorem State.dropOwnEntry_line (s : State) (l : LaneIx) : (s.dropOwnEntry l).line = s.line := rfl
@[simp] theorem State.dropOwnEntry_pacer (s : State) (l : LaneIx) : (s.dropOwnEntry l).pacer = s.pacer := rfl
@[simp] theorem State.dropOwnEntry_lanes (s : State) (l : LaneIx) : (s.dropOwnEntry l).lanes = s.lanes := rfl
@[simp] theorem State.dropOwnEntry_bankA (s : State) (l : LaneIx) : (s.dropOwnEntry l).bankA = s.bankA := rfl
@[simp] theorem State.dropOwnEntry_bankB (s : State) (l : LaneIx) : (s.dropOwnEntry l).bankB = s.bankB := rfl
@[simp] theorem State.dropOwnEntry_runs (s : State) (l : LaneIx) : (s.dropOwnEntry l).runs = s.runs := rfl
@[simp] theorem State.dropOwnEntry_book (s : State) (l : LaneIx) : (s.dropOwnEntry l).book = { s.book with entries := s.book.entries.filter fun e => !(e.own && e.lane == l) } := rfl
@[simp] theorem State.dropOwnEntry_planner (s : State) (l : LaneIx) : (s.dropOwnEntry l).planner = s.planner := rfl
@[simp] theorem State.dropOwnEntry_panel (s : State) (l : LaneIx) : (s.dropOwnEntry l).panel = s.panel := rfl
@[simp] theorem State.dropOwnEntry_free (s : State) (l : LaneIx) : (s.dropOwnEntry l).free = s.free := rfl
@[simp] theorem State.dropOwnEntry_pending (s : State) (l : LaneIx) : (s.dropOwnEntry l).pending = s.pending := rfl

@[simp] theorem State.modRun_start (s : State) (r : RunId) (f : RunRec → RunRec) : (s.modRun r f).start = s.start := rfl
@[simp] theorem State.modRun_prof (s : State) (r : RunId) (f : RunRec → RunRec) : (s.modRun r f).prof = s.prof := rfl
@[simp] theorem State.modRun_cnt (s : State) (r : RunId) (f : RunRec → RunRec) : (s.modRun r f).cnt = s.cnt := rfl
@[simp] theorem State.modRun_air (s : State) (r : RunId) (f : RunRec → RunRec) : (s.modRun r f).air = s.air := rfl
@[simp] theorem State.modRun_line (s : State) (r : RunId) (f : RunRec → RunRec) : (s.modRun r f).line = s.line := rfl
@[simp] theorem State.modRun_pacer (s : State) (r : RunId) (f : RunRec → RunRec) : (s.modRun r f).pacer = s.pacer := rfl
@[simp] theorem State.modRun_lanes (s : State) (r : RunId) (f : RunRec → RunRec) : (s.modRun r f).lanes = s.lanes := rfl
@[simp] theorem State.modRun_bankA (s : State) (r : RunId) (f : RunRec → RunRec) : (s.modRun r f).bankA = s.bankA := rfl
@[simp] theorem State.modRun_bankB (s : State) (r : RunId) (f : RunRec → RunRec) : (s.modRun r f).bankB = s.bankB := rfl
@[simp] theorem State.modRun_runs (s : State) (r : RunId) (f : RunRec → RunRec) : (s.modRun r f).runs = s.runs.map fun x => if x.id = r then f x else x := rfl
@[simp] theorem State.modRun_book (s : State) (r : RunId) (f : RunRec → RunRec) : (s.modRun r f).book = s.book := rfl
@[simp] theorem State.modRun_planner (s : State) (r : RunId) (f : RunRec → RunRec) : (s.modRun r f).planner = s.planner := rfl
@[simp] theorem State.modRun_panel (s : State) (r : RunId) (f : RunRec → RunRec) : (s.modRun r f).panel = s.panel := rfl
@[simp] theorem State.modRun_free (s : State) (r : RunId) (f : RunRec → RunRec) : (s.modRun r f).free = s.free := rfl
@[simp] theorem State.modRun_pending (s : State) (r : RunId) (f : RunRec → RunRec) : (s.modRun r f).pending = s.pending := rfl

/-! ## Lanes and banks read after a write -/

@[simp] theorem State.lane_setLane_same (s : State) (l : LaneIx) (r : LaneRec) : (s.setLane l r).lane l = r := by
  simp [State.lane, State.setLane]

theorem State.lane_setLane_ne (s : State) {l m : LaneIx} (h : m ≠ l) (r : LaneRec) :
    (s.setLane l r).lane m = s.lane m := by
  have : l.val ≠ m.val := fun e => h (Fin.ext e.symm)
  simp [State.lane, State.setLane, this]

/-- A lane read after a lane was replaced. -/
theorem State.lane_setLane (s : State) (l m : LaneIx) (r : LaneRec) :
    (s.setLane l r).lane m = if m = l then r else s.lane m := by
  by_cases h : m = l
  · subst h; simp
  · simp [h, State.lane_setLane_ne]

/-- A lane read after a lane was changed. -/
theorem State.lane_modLane (s : State) (l m : LaneIx) (f : LaneRec → LaneRec) :
    (s.modLane l f).lane m = if m = l then f (s.lane l) else s.lane m := by
  simp [State.modLane, State.lane_setLane]

@[simp] theorem State.lane_modLane_same (s : State) (l : LaneIx) (f : LaneRec → LaneRec) :
    (s.modLane l f).lane l = f (s.lane l) := by simp [State.lane_modLane]

/-- A lane read after every lane was changed. -/
@[simp] theorem State.lane_mapLanes (s : State) (f : LaneIx → LaneRec → LaneRec) (l : LaneIx) :
    (s.mapLanes f).lane l = f l (s.lane l) := by
  simp [State.lane, State.mapLanes]

/-- Lanes are read from the field alone. -/
theorem State.lane_congr {s t : State} (h : t.lanes = s.lanes) (l : LaneIx) : t.lane l = s.lane l := by
  simp [State.lane, h]

@[simp] theorem State.bank_setBank_same (s : State) (k : Bank) (r : BankRec) : (s.setBank k r).bank k = r := by
  cases k <;> rfl

/-- A bank read after a bank was replaced. -/
theorem State.bank_setBank (s : State) (k j : Bank) (r : BankRec) :
    (s.setBank k r).bank j = if j = k then r else s.bank j := by
  cases k <;> cases j <;> rfl

/-- A bank read after a bank was changed. -/
theorem State.bank_modBank (s : State) (k j : Bank) (f : BankRec → BankRec) :
    (s.modBank k f).bank j = if j = k then f (s.bank k) else s.bank j := by
  simp [State.modBank, State.bank_setBank]

/-- Banks are read from their two fields alone. -/
theorem State.bank_congr {s t : State} (ha : t.bankA = s.bankA) (hb : t.bankB = s.bankB) (k : Bank) :
    t.bank k = s.bank k := by
  cases k <;> simp [State.bank, ha, hb]

end Sys2Proof.Machine
end

