-- ==== Sys2Proof/Laws/Frames.lean ====
section
/-! SUPPORT. Frames: for every block function of the model, the parts of the state it leaves as they are. The statements
follow the order of the definitions. -/

namespace Sys2Proof.Machine

@[simp] theorem State.openPort_frame (s : State) :
    s.openPort.start = s.start ∧ s.openPort.prof = s.prof ∧ s.openPort.cnt = s.cnt ∧ s.openPort.line = s.line ∧
    s.openPort.pacer = s.pacer ∧ s.openPort.lanes = s.lanes ∧ s.openPort.bankA = s.bankA ∧
    s.openPort.bankB = s.bankB ∧ s.openPort.runs = s.runs ∧ s.openPort.book = s.book ∧
    s.openPort.planner = s.planner ∧ s.openPort.panel = s.panel ∧ s.openPort.free = s.free ∧
    s.openPort.pending = s.pending := by
  simp only [State.openPort]; simp

@[simp] theorem State.drawHead_frame (s : State) :
    s.drawHead.start = s.start ∧ s.drawHead.prof = s.prof ∧ s.drawHead.cnt = s.cnt ∧ s.drawHead.line = s.line ∧
    s.drawHead.pacer = s.pacer ∧ s.drawHead.lanes = s.lanes ∧ s.drawHead.bankA = s.bankA ∧
    s.drawHead.bankB = s.bankB ∧ s.drawHead.runs = s.runs ∧ s.drawHead.book = s.book ∧
    s.drawHead.planner = s.planner ∧ s.drawHead.panel = s.panel ∧ s.drawHead.free = s.free ∧
    s.drawHead.pending = s.pending := by
  simp only [State.drawHead]; (repeat' split) <;> simp

@[simp] theorem State.place_frame (s : State) (f : TxFrame) :
    (s.place f).start = s.start ∧ (s.place f).prof = s.prof ∧ (s.place f).line = s.line ∧
    (s.place f).pacer = s.pacer ∧ (s.place f).lanes = s.lanes ∧ (s.place f).bankA = s.bankA ∧
    (s.place f).bankB = s.bankB ∧ (s.place f).runs = s.runs ∧ (s.place f).book = s.book ∧
    (s.place f).planner = s.planner ∧ (s.place f).panel = s.panel ∧ (s.place f).free = s.free ∧
    (s.place f).pending = s.pending := by
  simp only [State.place]; (repeat' split) <;> simp

@[simp] theorem State.offer_frame (s : State) (f : TxFrame) :
    (s.offer f).start = s.start ∧ (s.offer f).prof = s.prof ∧ (s.offer f).line = s.line ∧
    (s.offer f).pacer = s.pacer ∧ (s.offer f).lanes = s.lanes ∧ (s.offer f).bankA = s.bankA ∧
    (s.offer f).bankB = s.bankB ∧ (s.offer f).runs = s.runs ∧ (s.offer f).book = s.book ∧
    (s.offer f).planner = s.planner ∧ (s.offer f).panel = s.panel ∧ (s.offer f).free = s.free ∧
    (s.offer f).pending = s.pending := by
  simp only [State.offer]; (repeat' split) <;> simp

@[simp] theorem State.offerPart_foldl_frame (run : RunId) (m : List ManifestEntry) (xs : List Nat) (s : State) :
    (xs.foldl (fun t i => t.offer (manifestFrame run m i)) s).start = s.start ∧
    (xs.foldl (fun t i => t.offer (manifestFrame run m i)) s).prof = s.prof ∧
    (xs.foldl (fun t i => t.offer (manifestFrame run m i)) s).line = s.line ∧
    (xs.foldl (fun t i => t.offer (manifestFrame run m i)) s).pacer = s.pacer ∧
    (xs.foldl (fun t i => t.offer (manifestFrame run m i)) s).lanes = s.lanes ∧
    (xs.foldl (fun t i => t.offer (manifestFrame run m i)) s).bankA = s.bankA ∧
    (xs.foldl (fun t i => t.offer (manifestFrame run m i)) s).bankB = s.bankB ∧
    (xs.foldl (fun t i => t.offer (manifestFrame run m i)) s).runs = s.runs ∧
    (xs.foldl (fun t i => t.offer (manifestFrame run m i)) s).book = s.book ∧
    (xs.foldl (fun t i => t.offer (manifestFrame run m i)) s).planner = s.planner ∧
    (xs.foldl (fun t i => t.offer (manifestFrame run m i)) s).panel = s.panel ∧
    (xs.foldl (fun t i => t.offer (manifestFrame run m i)) s).free = s.free ∧
    (xs.foldl (fun t i => t.offer (manifestFrame run m i)) s).pending = s.pending := by
  induction xs generalizing s with
  | nil => simp
  | cons x xs ih => simp only [List.foldl_cons, ih]; simp

@[simp] theorem State.removeUnit_frame (s : State) :
    s.removeUnit.start = s.start ∧ s.removeUnit.prof = s.prof ∧ s.removeUnit.cnt = s.cnt ∧
    s.removeUnit.line = s.line ∧ s.removeUnit.pacer = s.pacer ∧ s.removeUnit.lanes = s.lanes ∧
    s.removeUnit.bankA = s.bankA ∧ s.removeUnit.bankB = s.bankB ∧ s.removeUnit.runs = s.runs ∧
    s.removeUnit.book = s.book ∧ s.removeUnit.planner = s.planner ∧ s.removeUnit.panel = s.panel ∧
    s.removeUnit.free = s.free ∧ s.removeUnit.pending = s.pending := by
  simp only [State.removeUnit]; (repeat' split) <;> simp

@[simp] theorem State.carrierRise_frame (s : State) :
    s.carrierRise.start = s.start ∧ s.carrierRise.prof = s.prof ∧ s.carrierRise.cnt = s.cnt ∧
    s.carrierRise.line = s.line ∧ s.carrierRise.pacer = s.pacer ∧ s.carrierRise.lanes = s.lanes ∧
    s.carrierRise.bankA = s.bankA ∧ s.carrierRise.bankB = s.bankB ∧ s.carrierRise.runs = s.runs ∧
    s.carrierRise.book = s.book ∧ s.carrierRise.planner = s.planner ∧ s.carrierRise.panel = s.panel ∧
    s.carrierRise.free = s.free ∧ s.carrierRise.pending = s.pending := by
  simp [State.carrierRise]

@[simp] theorem State.carrierFall_frame (s : State) :
    s.carrierFall.start = s.start ∧ s.carrierFall.prof = s.prof ∧ s.carrierFall.cnt = s.cnt ∧
    s.carrierFall.line = s.line ∧ s.carrierFall.pacer = s.pacer ∧ s.carrierFall.lanes = s.lanes ∧
    s.carrierFall.bankA = s.bankA ∧ s.carrierFall.bankB = s.bankB ∧ s.carrierFall.runs = s.runs ∧
    s.carrierFall.book = s.book ∧ s.carrierFall.planner = s.planner ∧ s.carrierFall.panel = s.panel ∧
    s.carrierFall.free = s.free ∧ s.carrierFall.pending = s.pending := by
  simp only [State.carrierFall]; simp

@[simp] theorem State.abandonBroken_frame (s : State) :
    s.abandonBroken.start = s.start ∧ s.abandonBroken.prof = s.prof ∧ s.abandonBroken.line = s.line ∧
    s.abandonBroken.pacer = s.pacer ∧ s.abandonBroken.lanes = s.lanes ∧ s.abandonBroken.bankA = s.bankA ∧
    s.abandonBroken.bankB = s.bankB ∧ s.abandonBroken.runs = s.runs ∧ s.abandonBroken.book = s.book ∧
    s.abandonBroken.planner = s.planner ∧ s.abandonBroken.panel = s.panel ∧ s.abandonBroken.free = s.free ∧
    s.abandonBroken.pending = s.pending := by
  simp only [State.abandonBroken]; (repeat' split) <;> simp

@[simp] theorem State.beginSend_frame (s : State) :
    s.beginSend.start = s.start ∧ s.beginSend.prof = s.prof ∧ s.beginSend.line = s.line ∧
    s.beginSend.pacer = s.pacer ∧ s.beginSend.lanes = s.lanes ∧ s.beginSend.bankA = s.bankA ∧
    s.beginSend.bankB = s.bankB ∧ s.beginSend.runs = s.runs ∧ s.beginSend.book = s.book ∧
    s.beginSend.planner = s.planner ∧ s.beginSend.panel = s.panel ∧ s.beginSend.free = s.free ∧
    s.beginSend.pending = s.pending := by
  simp only [State.beginSend]; (repeat' split) <;> simp

@[simp] theorem State.finishSend_frame (s : State) :
    s.finishSend.start = s.start ∧ s.finishSend.prof = s.prof ∧ s.finishSend.cnt = s.cnt ∧
    s.finishSend.line = s.line ∧ s.finishSend.pacer = s.pacer ∧ s.finishSend.lanes = s.lanes ∧
    s.finishSend.bankA = s.bankA ∧ s.finishSend.bankB = s.bankB ∧ s.finishSend.runs = s.runs ∧
    s.finishSend.book = s.book ∧ s.finishSend.planner = s.planner ∧ s.finishSend.panel = s.panel ∧
    s.finishSend.free = s.free ∧ s.finishSend.pending = s.pending := by
  simp only [State.finishSend]; simp

@[simp] theorem State.byteTime_frame (s : State) :
    s.byteTime.start = s.start ∧ s.byteTime.prof = s.prof ∧ s.byteTime.cnt = s.cnt ∧ s.byteTime.line = s.line ∧
    s.byteTime.pacer = s.pacer ∧ s.byteTime.lanes = s.lanes ∧ s.byteTime.bankA = s.bankA ∧
    s.byteTime.bankB = s.bankB ∧ s.byteTime.runs = s.runs ∧ s.byteTime.book = s.book ∧
    s.byteTime.planner = s.planner ∧ s.byteTime.panel = s.panel ∧ s.byteTime.free = s.free ∧
    s.byteTime.pending = s.pending := by
  simp only [State.byteTime]; (repeat' split) <;> simp

@[simp] theorem State.refreshRisk_frame (s : State) :
    s.refreshRisk.start = s.start ∧ s.refreshRisk.prof = s.prof ∧ s.refreshRisk.cnt = s.cnt ∧
    s.refreshRisk.air = s.air ∧ s.refreshRisk.line = s.line ∧ s.refreshRisk.pacer = s.pacer ∧
    s.refreshRisk.bankA = s.bankA ∧ s.refreshRisk.bankB = s.bankB ∧ s.refreshRisk.runs = s.runs ∧
    s.refreshRisk.book = s.book ∧ s.refreshRisk.planner = s.planner ∧ s.refreshRisk.panel = s.panel ∧
    s.refreshRisk.free = s.free ∧ s.refreshRisk.pending = s.pending := by
  simp [State.refreshRisk]

@[simp] theorem State.trigger_frame (s : State) (k : Bank) :
    (s.trigger k).start = s.start ∧ (s.trigger k).prof = s.prof ∧ (s.trigger k).cnt = s.cnt ∧
    (s.trigger k).air = s.air ∧ (s.trigger k).line = s.line ∧ (s.trigger k).pacer = s.pacer ∧
    (s.trigger k).runs = s.runs ∧ (s.trigger k).book = s.book ∧ (s.trigger k).planner = s.planner ∧
    (s.trigger k).panel = s.panel ∧ (s.trigger k).free = s.free ∧ (s.trigger k).pending = s.pending := by
  simp only [State.trigger]; simp

@[simp] theorem State.restage_frame (s : State) (l : LaneIx) :
    (s.restage l).start = s.start ∧ (s.restage l).prof = s.prof ∧ (s.restage l).cnt = s.cnt ∧
    (s.restage l).air = s.air ∧ (s.restage l).line = s.line ∧ (s.restage l).pacer = s.pacer ∧
    (s.restage l).runs = s.runs ∧ (s.restage l).book = s.book ∧ (s.restage l).planner = s.planner ∧
    (s.restage l).panel = s.panel ∧ (s.restage l).free = s.free ∧ (s.restage l).pending = s.pending := by
  simp only [State.restage]; split
  · simp
  · split
    · simp
    · split <;> simp

@[simp] theorem State.closeFace_frame (s : State) (k : Bank) :
    (s.closeFace k).start = s.start ∧ (s.closeFace k).prof = s.prof ∧ (s.closeFace k).cnt = s.cnt ∧
    (s.closeFace k).air = s.air ∧ (s.closeFace k).line = s.line ∧ (s.closeFace k).pacer = s.pacer ∧
    (s.closeFace k).runs = s.runs ∧ (s.closeFace k).book = s.book ∧ (s.closeFace k).planner = s.planner ∧
    (s.closeFace k).panel = s.panel ∧ (s.closeFace k).free = s.free ∧ (s.closeFace k).pending = s.pending := by
  simp only [State.closeFace]; simp

@[simp] theorem State.moveLane_frame (s : State) (l : LaneIx) (f : LaneRec → LaneRec) :
    (s.moveLane l f).start = s.start ∧ (s.moveLane l f).prof = s.prof ∧ (s.moveLane l f).cnt = s.cnt ∧
    (s.moveLane l f).air = s.air ∧ (s.moveLane l f).line = s.line ∧ (s.moveLane l f).pacer = s.pacer ∧
    (s.moveLane l f).runs = s.runs ∧ (s.moveLane l f).book = { s.book with asked := s.book.asked || s.busy } ∧
    (s.moveLane l f).planner = s.planner ∧ (s.moveLane l f).panel = s.panel ∧ (s.moveLane l f).free = s.free ∧
    (s.moveLane l f).pending = s.pending := by
  cases h : s.busy <;> simp [State.moveLane, h]

@[simp] theorem State.presenceUp_frame (s : State) (k : Bank) :
    (s.presenceUp k).start = s.start ∧ (s.presenceUp k).prof = s.prof ∧ (s.presenceUp k).cnt = s.cnt ∧
    (s.presenceUp k).air = s.air ∧ (s.presenceUp k).line = s.line ∧ (s.presenceUp k).pacer = s.pacer ∧
    (s.presenceUp k).runs = s.runs ∧ (s.presenceUp k).book = s.book ∧ (s.presenceUp k).planner = s.planner ∧
    (s.presenceUp k).panel = s.panel ∧ (s.presenceUp k).free = s.free ∧ (s.presenceUp k).pending = s.pending := by
  simp only [State.presenceUp]; (repeat' split) <;> simp

@[simp] theorem State.presenceDown_frame (s : State) (k : Bank) :
    (s.presenceDown k).start = s.start ∧ (s.presenceDown k).prof = s.prof ∧ (s.presenceDown k).cnt = s.cnt ∧
    (s.presenceDown k).air = s.air ∧ (s.presenceDown k).line = s.line ∧ (s.presenceDown k).pacer = s.pacer ∧
    (s.presenceDown k).runs = s.runs ∧ (s.presenceDown k).book = s.book ∧ (s.presenceDown k).planner = s.planner ∧
    (s.presenceDown k).panel = s.panel ∧ (s.presenceDown k).free = s.free ∧ (s.presenceDown k).pending = s.pending := by
  simp only [State.presenceDown]; (repeat' split) <;> simp

@[simp] theorem State.shiftLamps_frame (s : State) :
    s.shiftLamps.start = s.start ∧ s.shiftLamps.prof = s.prof ∧ s.shiftLamps.cnt = s.cnt ∧ s.shiftLamps.air = s.air ∧
    s.shiftLamps.line = s.line ∧ s.shiftLamps.pacer = s.pacer ∧ s.shiftLamps.lanes = s.lanes ∧
    s.shiftLamps.bankA = s.bankA ∧ s.shiftLamps.bankB = s.bankB ∧ s.shiftLamps.runs = s.runs ∧
    s.shiftLamps.book = s.book ∧ s.shiftLamps.planner = s.planner ∧ s.shiftLamps.free = s.free ∧
    s.shiftLamps.pending = s.pending := by
  simp only [State.shiftLamps]; (repeat' split) <;> simp

@[simp] theorem State.forecastLane_frame (s : State) (l : LaneIx) :
    (s.forecastLane l).start = s.start ∧ (s.forecastLane l).prof = s.prof ∧ (s.forecastLane l).cnt = s.cnt ∧
    (s.forecastLane l).air = s.air ∧ (s.forecastLane l).line = s.line ∧ (s.forecastLane l).pacer = s.pacer ∧
    (s.forecastLane l).bankA = s.bankA ∧ (s.forecastLane l).bankB = s.bankB ∧ (s.forecastLane l).runs = s.runs ∧
    (s.forecastLane l).planner = s.planner ∧ (s.forecastLane l).panel = s.panel ∧ (s.forecastLane l).free = s.free ∧
    (s.forecastLane l).pending = s.pending := by
  simp only [State.forecastLane]; (repeat' split) <;> simp

@[simp] theorem State.forecastLane_foldl_frame (xs : List LaneIx) (s : State) :
    (xs.foldl State.forecastLane s).start = s.start ∧ (xs.foldl State.forecastLane s).prof = s.prof ∧
    (xs.foldl State.forecastLane s).cnt = s.cnt ∧ (xs.foldl State.forecastLane s).air = s.air ∧
    (xs.foldl State.forecastLane s).line = s.line ∧ (xs.foldl State.forecastLane s).pacer = s.pacer ∧
    (xs.foldl State.forecastLane s).bankA = s.bankA ∧ (xs.foldl State.forecastLane s).bankB = s.bankB ∧
    (xs.foldl State.forecastLane s).runs = s.runs ∧ (xs.foldl State.forecastLane s).planner = s.planner ∧
    (xs.foldl State.forecastLane s).panel = s.panel ∧ (xs.foldl State.forecastLane s).free = s.free ∧
    (xs.foldl State.forecastLane s).pending = s.pending := by
  induction xs generalizing s with
  | nil => simp
  | cons x xs ih => simp only [List.foldl_cons, ih]; simp

@[simp] theorem State.forecastAll_frame (s : State) :
    s.forecastAll.start = s.start ∧ s.forecastAll.prof = s.prof ∧ s.forecastAll.cnt = s.cnt ∧
    s.forecastAll.air = s.air ∧ s.forecastAll.line = s.line ∧ s.forecastAll.pacer = s.pacer ∧
    s.forecastAll.bankA = s.bankA ∧ s.forecastAll.bankB = s.bankB ∧ s.forecastAll.runs = s.runs ∧
    s.forecastAll.planner = s.planner ∧ s.forecastAll.panel = s.panel ∧ s.forecastAll.free = s.free ∧
    s.forecastAll.pending = s.pending := by
  simp [State.forecastAll]

@[simp] theorem State.joinItems_frame (s : State) (l : LaneIx) :
    (s.joinItems l).start = s.start ∧ (s.joinItems l).prof = s.prof ∧ (s.joinItems l).cnt = s.cnt ∧
    (s.joinItems l).air = s.air ∧ (s.joinItems l).line = s.line ∧ (s.joinItems l).pacer = s.pacer ∧
    (s.joinItems l).lanes = s.lanes ∧ (s.joinItems l).runs = s.runs ∧ (s.joinItems l).book = s.book ∧
    (s.joinItems l).planner = s.planner ∧ (s.joinItems l).panel = s.panel ∧ (s.joinItems l).free = s.free ∧
    (s.joinItems l).pending = s.pending := by
  simp [State.joinItems]

@[simp] theorem State.followItem_frame (s : State) (l : LaneIx) :
    (s.followItem l).start = s.start ∧ (s.followItem l).prof = s.prof ∧ (s.followItem l).cnt = s.cnt ∧
    (s.followItem l).air = s.air ∧ (s.followItem l).line = s.line ∧ (s.followItem l).pacer = s.pacer ∧
    (s.followItem l).lanes = s.lanes ∧ (s.followItem l).runs = s.runs ∧ (s.followItem l).book = s.book ∧
    (s.followItem l).planner = s.planner ∧ (s.followItem l).panel = s.panel ∧ (s.followItem l).free = s.free ∧
    (s.followItem l).pending = s.pending := by
  simp only [State.followItem]; (repeat' split) <;> simp

@[simp] theorem State.complete_frame (s : State) (l : LaneIx) :
    (s.complete l).start = s.start ∧ (s.complete l).prof = s.prof ∧ (s.complete l).cnt = s.cnt ∧
    (s.complete l).air = s.air ∧ (s.complete l).line = s.line ∧ (s.complete l).pacer = s.pacer ∧
    (s.complete l).runs = s.runs ∧ (s.complete l).planner = s.planner ∧ (s.complete l).panel = s.panel ∧
    (s.complete l).free = s.free ∧ (s.complete l).pending = s.pending := by
  simp only [State.complete]; (repeat' split) <;> simp

@[simp] theorem State.completeIfDone_frame (s : State) (l : LaneIx) :
    (s.completeIfDone l).start = s.start ∧ (s.completeIfDone l).prof = s.prof ∧ (s.completeIfDone l).cnt = s.cnt ∧
    (s.completeIfDone l).air = s.air ∧ (s.completeIfDone l).line = s.line ∧ (s.completeIfDone l).pacer = s.pacer ∧
    (s.completeIfDone l).runs = s.runs ∧ (s.completeIfDone l).planner = s.planner ∧
    (s.completeIfDone l).panel = s.panel ∧ (s.completeIfDone l).free = s.free ∧
    (s.completeIfDone l).pending = s.pending := by
  simp only [State.completeIfDone]; (repeat' split) <;> simp

@[simp] theorem State.countFeed_frame (s : State) (l : LaneIx) :
    (s.countFeed l).start = s.start ∧ (s.countFeed l).prof = s.prof ∧ (s.countFeed l).cnt = s.cnt ∧
    (s.countFeed l).air = s.air ∧ (s.countFeed l).line = s.line ∧ (s.countFeed l).pacer = s.pacer ∧
    (s.countFeed l).runs = s.runs ∧ (s.countFeed l).planner = s.planner ∧ (s.countFeed l).panel = s.panel ∧
    (s.countFeed l).free = s.free ∧ (s.countFeed l).pending = s.pending := by
  simp only [State.countFeed]; (repeat' split) <;> simp

@[simp] theorem State.settleLane_frame (run : RunId) (s : State) (l : LaneIx) :
    (s.settleLane run l).start = s.start ∧ (s.settleLane run l).prof = s.prof ∧ (s.settleLane run l).cnt = s.cnt ∧
    (s.settleLane run l).air = s.air ∧ (s.settleLane run l).line = s.line ∧ (s.settleLane run l).pacer = s.pacer ∧
    (s.settleLane run l).runs = s.runs ∧ (s.settleLane run l).planner = s.planner ∧
    (s.settleLane run l).panel = s.panel ∧ (s.settleLane run l).free = s.free ∧
    (s.settleLane run l).pending = s.pending := by
  simp only [State.settleLane]; (repeat' split) <;> simp

@[simp] theorem State.settleLane_foldl_frame (run : RunId) (xs : List LaneIx) (s : State) :
    (xs.foldl (State.settleLane run) s).start = s.start ∧ (xs.foldl (State.settleLane run) s).prof = s.prof ∧
    (xs.foldl (State.settleLane run) s).cnt = s.cnt ∧ (xs.foldl (State.settleLane run) s).air = s.air ∧
    (xs.foldl (State.settleLane run) s).line = s.line ∧ (xs.foldl (State.settleLane run) s).pacer = s.pacer ∧
    (xs.foldl (State.settleLane run) s).runs = s.runs ∧ (xs.foldl (State.settleLane run) s).planner = s.planner ∧
    (xs.foldl (State.settleLane run) s).panel = s.panel ∧ (xs.foldl (State.settleLane run) s).free = s.free ∧
    (xs.foldl (State.settleLane run) s).pending = s.pending := by
  induction xs generalizing s with
  | nil => simp
  | cons x xs ih => simp only [List.foldl_cons, ih]; simp

@[simp] theorem State.closeBusiness_frame (s : State) (k : Bank) (run : RunId) :
    (s.closeBusiness k run).start = s.start ∧ (s.closeBusiness k run).prof = s.prof ∧
    (s.closeBusiness k run).cnt = s.cnt ∧ (s.closeBusiness k run).air = s.air ∧
    (s.closeBusiness k run).line = s.line ∧ (s.closeBusiness k run).pacer = s.pacer ∧
    (s.closeBusiness k run).runs = s.runs ∧ (s.closeBusiness k run).book = s.book ∧
    (s.closeBusiness k run).planner = s.planner ∧ (s.closeBusiness k run).panel = s.panel ∧
    (s.closeBusiness k run).free = s.free ∧ (s.closeBusiness k run).pending = s.pending := by
  simp only [State.closeBusiness]; (repeat' split) <;> simp

@[simp] theorem State.settleBank_frame (s : State) (k : Bank) (run : RunId) :
    (s.settleBank k run).start = s.start ∧ (s.settleBank k run).prof = s.prof ∧ (s.settleBank k run).cnt = s.cnt ∧
    (s.settleBank k run).air = s.air ∧ (s.settleBank k run).line = s.line ∧ (s.settleBank k run).pacer = s.pacer ∧
    (s.settleBank k run).runs = s.runs ∧ (s.settleBank k run).planner = s.planner ∧
    (s.settleBank k run).panel = s.panel ∧ (s.settleBank k run).free = s.free ∧
    (s.settleBank k run).pending = s.pending := by
  simp [State.settleBank]

@[simp] theorem State.settleDeparted_frame (s : State) (k : Bank) (run : RunId) :
    (s.settleDeparted k run).start = s.start ∧ (s.settleDeparted k run).prof = s.prof ∧
    (s.settleDeparted k run).cnt = s.cnt ∧ (s.settleDeparted k run).air = s.air ∧
    (s.settleDeparted k run).line = s.line ∧ (s.settleDeparted k run).pacer = s.pacer ∧
    (s.settleDeparted k run).runs = s.runs ∧ (s.settleDeparted k run).planner = s.planner ∧
    (s.settleDeparted k run).panel = s.panel ∧ (s.settleDeparted k run).free = s.free ∧
    (s.settleDeparted k run).pending = s.pending := by
  simp [State.settleDeparted]

@[simp] theorem State.settleRun_frame (s : State) (run : RunId) :
    (s.settleRun run).start = s.start ∧ (s.settleRun run).prof = s.prof ∧ (s.settleRun run).cnt = s.cnt ∧
    (s.settleRun run).air = s.air ∧ (s.settleRun run).line = s.line ∧ (s.settleRun run).pacer = s.pacer ∧
    (s.settleRun run).runs = s.runs ∧ (s.settleRun run).planner = s.planner ∧ (s.settleRun run).panel = s.panel ∧
    (s.settleRun run).free = s.free ∧ (s.settleRun run).pending = s.pending := by
  simp [State.settleRun]

@[simp] theorem departBank_frame (run : RunId) (acc : State × List Item) (k : Bank) :
    (departBank run acc k).1.start = acc.1.start ∧ (departBank run acc k).1.prof = acc.1.prof ∧
    (departBank run acc k).1.cnt = acc.1.cnt ∧ (departBank run acc k).1.air = acc.1.air ∧
    (departBank run acc k).1.line = acc.1.line ∧ (departBank run acc k).1.pacer = acc.1.pacer ∧
    (departBank run acc k).1.runs = acc.1.runs ∧ (departBank run acc k).1.planner = acc.1.planner ∧
    (departBank run acc k).1.panel = acc.1.panel ∧ (departBank run acc k).1.free = acc.1.free ∧
    (departBank run acc k).1.pending = acc.1.pending := by
  simp only [departBank]; split <;> simp

@[simp] theorem departBank_foldl_frame (run : RunId) (ks : List Bank) (acc : State × List Item) :
    (ks.foldl (departBank run) acc).1.start = acc.1.start ∧ (ks.foldl (departBank run) acc).1.prof = acc.1.prof ∧
    (ks.foldl (departBank run) acc).1.cnt = acc.1.cnt ∧ (ks.foldl (departBank run) acc).1.air = acc.1.air ∧
    (ks.foldl (departBank run) acc).1.line = acc.1.line ∧ (ks.foldl (departBank run) acc).1.pacer = acc.1.pacer ∧
    (ks.foldl (departBank run) acc).1.runs = acc.1.runs ∧ (ks.foldl (departBank run) acc).1.planner = acc.1.planner ∧
    (ks.foldl (departBank run) acc).1.panel = acc.1.panel ∧ (ks.foldl (departBank run) acc).1.free = acc.1.free ∧
    (ks.foldl (departBank run) acc).1.pending = acc.1.pending := by
  induction ks generalizing acc with
  | nil => simp
  | cons k ks ih => simp only [List.foldl_cons, ih]; simp

@[simp] theorem State.departStop_frame (s : State) (run : RunId) (stop : Nat) :
    (s.departStop run stop).start = s.start ∧ (s.departStop run stop).prof = s.prof ∧
    (s.departStop run stop).line = s.line ∧ (s.departStop run stop).pacer = s.pacer ∧
    (s.departStop run stop).runs = s.runs ∧ (s.departStop run stop).planner = s.planner ∧
    (s.departStop run stop).panel = s.panel ∧ (s.departStop run stop).free = s.free ∧
    (s.departStop run stop).pending = s.pending := by
  simp only [State.departStop]; (repeat' split) <;> simp

@[simp] theorem State.departStop_foldl_frame (run : RunId) (xs : List Nat) (s : State) :
    (xs.foldl (fun w stop => w.departStop run stop) s).start = s.start ∧
    (xs.foldl (fun w stop => w.departStop run stop) s).prof = s.prof ∧
    (xs.foldl (fun w stop => w.departStop run stop) s).line = s.line ∧
    (xs.foldl (fun w stop => w.departStop run stop) s).pacer = s.pacer ∧
    (xs.foldl (fun w stop => w.departStop run stop) s).runs = s.runs ∧
    (xs.foldl (fun w stop => w.departStop run stop) s).planner = s.planner ∧
    (xs.foldl (fun w stop => w.departStop run stop) s).panel = s.panel ∧
    (xs.foldl (fun w stop => w.departStop run stop) s).free = s.free ∧
    (xs.foldl (fun w stop => w.departStop run stop) s).pending = s.pending := by
  induction xs generalizing s with
  | nil => simp
  | cons x xs ih => simp only [List.foldl_cons, ih]; simp

@[simp] theorem State.releaseClaim_frame (s : State) (l : LaneIx) :
    (s.releaseClaim l).start = s.start ∧ (s.releaseClaim l).prof = s.prof ∧ (s.releaseClaim l).cnt = s.cnt ∧
    (s.releaseClaim l).air = s.air ∧ (s.releaseClaim l).line = s.line ∧ (s.releaseClaim l).pacer = s.pacer ∧
    (s.releaseClaim l).lanes = s.lanes ∧ (s.releaseClaim l).bankA = s.bankA ∧ (s.releaseClaim l).bankB = s.bankB ∧
    (s.releaseClaim l).runs = s.runs ∧ (s.releaseClaim l).planner = s.planner ∧ (s.releaseClaim l).panel = s.panel ∧
    (s.releaseClaim l).free = s.free ∧ (s.releaseClaim l).pending = s.pending := by
  simp only [State.releaseClaim]; (repeat' split) <;> simp

@[simp] theorem State.arriveLane_frame (run : RunId) (s : State) (l : LaneIx) :
    (s.arriveLane run l).start = s.start ∧ (s.arriveLane run l).prof = s.prof ∧ (s.arriveLane run l).cnt = s.cnt ∧
    (s.arriveLane run l).air = s.air ∧ (s.arriveLane run l).line = s.line ∧ (s.arriveLane run l).pacer = s.pacer ∧
    (s.arriveLane run l).runs = s.runs ∧ (s.arriveLane run l).planner = s.planner ∧
    (s.arriveLane run l).panel = s.panel ∧ (s.arriveLane run l).free = s.free ∧
    (s.arriveLane run l).pending = s.pending := by
  simp only [State.arriveLane]; (repeat' split) <;> simp

@[simp] theorem State.arriveLane_foldl_frame (run : RunId) (xs : List LaneIx) (s : State) :
    (xs.foldl (State.arriveLane run) s).start = s.start ∧ (xs.foldl (State.arriveLane run) s).prof = s.prof ∧
    (xs.foldl (State.arriveLane run) s).cnt = s.cnt ∧ (xs.foldl (State.arriveLane run) s).air = s.air ∧
    (xs.foldl (State.arriveLane run) s).line = s.line ∧ (xs.foldl (State.arriveLane run) s).pacer = s.pacer ∧
    (xs.foldl (State.arriveLane run) s).runs = s.runs ∧ (xs.foldl (State.arriveLane run) s).planner = s.planner ∧
    (xs.foldl (State.arriveLane run) s).panel = s.panel ∧ (xs.foldl (State.arriveLane run) s).free = s.free ∧
    (xs.foldl (State.arriveLane run) s).pending = s.pending := by
  induction xs generalizing s with
  | nil => simp
  | cons x xs ih => simp only [List.foldl_cons, ih]; simp

@[simp] theorem State.revisitLane_frame (run : RunId) (s : State) (l : LaneIx) :
    (s.revisitLane run l).start = s.start ∧ (s.revisitLane run l).prof = s.prof ∧ (s.revisitLane run l).cnt = s.cnt ∧
    (s.revisitLane run l).air = s.air ∧ (s.revisitLane run l).line = s.line ∧ (s.revisitLane run l).pacer = s.pacer ∧
    (s.revisitLane run l).runs = s.runs ∧ (s.revisitLane run l).planner = s.planner ∧
    (s.revisitLane run l).panel = s.panel ∧ (s.revisitLane run l).free = s.free ∧
    (s.revisitLane run l).pending = s.pending := by
  simp only [State.revisitLane]; (repeat' split) <;> simp

@[simp] theorem State.revisitLane_foldl_frame (run : RunId) (xs : List LaneIx) (s : State) :
    (xs.foldl (State.revisitLane run) s).start = s.start ∧ (xs.foldl (State.revisitLane run) s).prof = s.prof ∧
    (xs.foldl (State.revisitLane run) s).cnt = s.cnt ∧ (xs.foldl (State.revisitLane run) s).air = s.air ∧
    (xs.foldl (State.revisitLane run) s).line = s.line ∧ (xs.foldl (State.revisitLane run) s).pacer = s.pacer ∧
    (xs.foldl (State.revisitLane run) s).runs = s.runs ∧ (xs.foldl (State.revisitLane run) s).planner = s.planner ∧
    (xs.foldl (State.revisitLane run) s).panel = s.panel ∧ (xs.foldl (State.revisitLane run) s).free = s.free ∧
    (xs.foldl (State.revisitLane run) s).pending = s.pending := by
  induction xs generalizing s with
  | nil => simp
  | cons x xs ih => simp only [List.foldl_cons, ih]; simp

@[simp] theorem State.arriveBank_frame (run : RunId) (revisit : Bool) (s : State) (k : Bank) :
    (s.arriveBank run revisit k).start = s.start ∧ (s.arriveBank run revisit k).prof = s.prof ∧
    (s.arriveBank run revisit k).cnt = s.cnt ∧ (s.arriveBank run revisit k).air = s.air ∧
    (s.arriveBank run revisit k).line = s.line ∧ (s.arriveBank run revisit k).pacer = s.pacer ∧
    (s.arriveBank run revisit k).runs = s.runs ∧ (s.arriveBank run revisit k).planner = s.planner ∧
    (s.arriveBank run revisit k).panel = s.panel ∧ (s.arriveBank run revisit k).free = s.free ∧
    (s.arriveBank run revisit k).pending = s.pending := by
  simp only [State.arriveBank]; (repeat' split) <;> simp

@[simp] theorem State.arriveBank_foldl_frame (run : RunId) (revisit : Bool) (xs : List Bank) (s : State) :
    (xs.foldl (State.arriveBank run revisit) s).start = s.start ∧
    (xs.foldl (State.arriveBank run revisit) s).prof = s.prof ∧
    (xs.foldl (State.arriveBank run revisit) s).cnt = s.cnt ∧
    (xs.foldl (State.arriveBank run revisit) s).air = s.air ∧
    (xs.foldl (State.arriveBank run revisit) s).line = s.line ∧
    (xs.foldl (State.arriveBank run revisit) s).pacer = s.pacer ∧
    (xs.foldl (State.arriveBank run revisit) s).runs = s.runs ∧
    (xs.foldl (State.arriveBank run revisit) s).planner = s.planner ∧
    (xs.foldl (State.arriveBank run revisit) s).panel = s.panel ∧
    (xs.foldl (State.arriveBank run revisit) s).free = s.free ∧
    (xs.foldl (State.arriveBank run revisit) s).pending = s.pending := by
  induction xs generalizing s with
  | nil => simp
  | cons x xs ih => simp only [List.foldl_cons, ih]; simp

@[simp] theorem State.takeArrive_frame (s : State) (src : Byte) (payload : List Byte) :
    (s.takeArrive src payload).start = s.start ∧ (s.takeArrive src payload).prof = s.prof ∧
    (s.takeArrive src payload).cnt = s.cnt ∧ (s.takeArrive src payload).air = s.air ∧
    (s.takeArrive src payload).line = s.line ∧ (s.takeArrive src payload).pacer = s.pacer ∧
    (s.takeArrive src payload).runs = s.runs ∧ (s.takeArrive src payload).planner = s.planner ∧
    (s.takeArrive src payload).panel = s.panel ∧ (s.takeArrive src payload).free = s.free ∧
    (s.takeArrive src payload).pending = s.pending := by
  simp only [State.takeArrive]; (repeat' split) <;> simp

@[simp] theorem State.takeDepart_frame (s : State) (src : Byte) (payload : List Byte) :
    (s.takeDepart src payload).start = s.start ∧ (s.takeDepart src payload).prof = s.prof ∧
    (s.takeDepart src payload).line = s.line ∧ (s.takeDepart src payload).pacer = s.pacer ∧
    (s.takeDepart src payload).runs = s.runs ∧ (s.takeDepart src payload).planner = s.planner ∧
    (s.takeDepart src payload).panel = s.panel ∧ (s.takeDepart src payload).free = s.free ∧
    (s.takeDepart src payload).pending = s.pending := by
  simp only [State.takeDepart]; (repeat' split) <;> simp

@[simp] theorem State.acceptSensor_frame (s : State) (l : LaneIx) (k : Sensor) (level : Bool) :
    (s.acceptSensor l k level).start = s.start ∧ (s.acceptSensor l k level).prof = s.prof ∧
    (s.acceptSensor l k level).cnt = s.cnt ∧ (s.acceptSensor l k level).air = s.air ∧
    (s.acceptSensor l k level).line = s.line ∧ (s.acceptSensor l k level).pacer = s.pacer ∧
    (s.acceptSensor l k level).bankA = s.bankA ∧ (s.acceptSensor l k level).bankB = s.bankB ∧
    (s.acceptSensor l k level).runs = s.runs ∧ (s.acceptSensor l k level).book = s.book ∧
    (s.acceptSensor l k level).planner = s.planner ∧ (s.acceptSensor l k level).panel = s.panel ∧
    (s.acceptSensor l k level).free = s.free ∧ (s.acceptSensor l k level).pending = s.pending := by
  simp [State.acceptSensor]

@[simp] theorem State.clearLatch_frame (s : State) (l : LaneIx) (k : Sensor) :
    (s.clearLatch l k).start = s.start ∧ (s.clearLatch l k).prof = s.prof ∧ (s.clearLatch l k).cnt = s.cnt ∧
    (s.clearLatch l k).air = s.air ∧ (s.clearLatch l k).line = s.line ∧ (s.clearLatch l k).pacer = s.pacer ∧
    (s.clearLatch l k).bankA = s.bankA ∧ (s.clearLatch l k).bankB = s.bankB ∧ (s.clearLatch l k).runs = s.runs ∧
    (s.clearLatch l k).book = s.book ∧ (s.clearLatch l k).planner = s.planner ∧ (s.clearLatch l k).panel = s.panel ∧
    (s.clearLatch l k).free = s.free ∧ (s.clearLatch l k).pending = s.pending := by
  simp [State.clearLatch]

@[simp] theorem State.markOverfill_frame (s : State) (l : LaneIx) :
    (s.markOverfill l).start = s.start ∧ (s.markOverfill l).prof = s.prof ∧ (s.markOverfill l).cnt = s.cnt ∧
    (s.markOverfill l).air = s.air ∧ (s.markOverfill l).line = s.line ∧ (s.markOverfill l).pacer = s.pacer ∧
    (s.markOverfill l).runs = s.runs ∧ (s.markOverfill l).book = s.book ∧ (s.markOverfill l).planner = s.planner ∧
    (s.markOverfill l).panel = s.panel ∧ (s.markOverfill l).free = s.free ∧ (s.markOverfill l).pending = s.pending := by
  simp only [State.markOverfill]; (repeat' split) <;> simp

@[simp] theorem State.takeFeed_frame (s : State) (l : LaneIx) :
    (s.takeFeed l).start = s.start ∧ (s.takeFeed l).prof = s.prof ∧ (s.takeFeed l).cnt = s.cnt ∧
    (s.takeFeed l).air = s.air ∧ (s.takeFeed l).line = s.line ∧ (s.takeFeed l).pacer = s.pacer ∧
    (s.takeFeed l).runs = s.runs ∧ (s.takeFeed l).planner = s.planner ∧ (s.takeFeed l).panel = s.panel ∧
    (s.takeFeed l).free = s.free ∧ (s.takeFeed l).pending = s.pending := by
  simp only [State.takeFeed]; (repeat' split) <;> simp

@[simp] theorem State.takeEmpty_frame (s : State) (l : LaneIx) :
    (s.takeEmpty l).start = s.start ∧ (s.takeEmpty l).prof = s.prof ∧ (s.takeEmpty l).air = s.air ∧
    (s.takeEmpty l).line = s.line ∧ (s.takeEmpty l).pacer = s.pacer ∧ (s.takeEmpty l).bankA = s.bankA ∧
    (s.takeEmpty l).bankB = s.bankB ∧ (s.takeEmpty l).runs = s.runs ∧ (s.takeEmpty l).planner = s.planner ∧
    (s.takeEmpty l).panel = s.panel ∧ (s.takeEmpty l).free = s.free ∧ (s.takeEmpty l).pending = s.pending := by
  simp only [State.takeEmpty]; (repeat' split) <;> simp

@[simp] theorem State.takeReserve_frame (s : State) (l : LaneIx) :
    (s.takeReserve l).start = s.start ∧ (s.takeReserve l).prof = s.prof ∧ (s.takeReserve l).cnt = s.cnt ∧
    (s.takeReserve l).air = s.air ∧ (s.takeReserve l).line = s.line ∧ (s.takeReserve l).pacer = s.pacer ∧
    (s.takeReserve l).bankA = s.bankA ∧ (s.takeReserve l).bankB = s.bankB ∧ (s.takeReserve l).runs = s.runs ∧
    (s.takeReserve l).planner = s.planner ∧ (s.takeReserve l).panel = s.panel ∧ (s.takeReserve l).free = s.free ∧
    (s.takeReserve l).pending = s.pending := by
  simp only [State.takeReserve]; (repeat' split) <;> simp

@[simp] theorem State.takeRising_frame (s : State) (l : LaneIx) (k : Sensor) :
    (s.takeRising l k).start = s.start ∧ (s.takeRising l k).prof = s.prof ∧ (s.takeRising l k).air = s.air ∧
    (s.takeRising l k).line = s.line ∧ (s.takeRising l k).pacer = s.pacer ∧ (s.takeRising l k).runs = s.runs ∧
    (s.takeRising l k).planner = s.planner ∧ (s.takeRising l k).panel = s.panel ∧ (s.takeRising l k).free = s.free ∧
    (s.takeRising l k).pending = s.pending := by
  simp only [State.takeRising]; (repeat' split) <;> simp

@[simp] theorem State.takeChange_frame (s : State) (l : LaneIx) (k : Sensor) (rising : Bool) :
    (s.takeChange l k rising).start = s.start ∧ (s.takeChange l k rising).prof = s.prof ∧
    (s.takeChange l k rising).air = s.air ∧ (s.takeChange l k rising).line = s.line ∧
    (s.takeChange l k rising).pacer = s.pacer ∧ (s.takeChange l k rising).runs = s.runs ∧
    (s.takeChange l k rising).planner = s.planner ∧ (s.takeChange l k rising).panel = s.panel ∧
    (s.takeChange l k rising).free = s.free ∧ (s.takeChange l k rising).pending = s.pending := by
  simp only [State.takeChange]; (repeat' split) <;> simp

@[simp] theorem State.consume_foldl_frame (xs : List (Option Variant)) (s : State) :
    (xs.foldl (fun t e => t.mapLanes fun _ r => r.consume e) s).start = s.start ∧
    (xs.foldl (fun t e => t.mapLanes fun _ r => r.consume e) s).prof = s.prof ∧
    (xs.foldl (fun t e => t.mapLanes fun _ r => r.consume e) s).cnt = s.cnt ∧
    (xs.foldl (fun t e => t.mapLanes fun _ r => r.consume e) s).air = s.air ∧
    (xs.foldl (fun t e => t.mapLanes fun _ r => r.consume e) s).line = s.line ∧
    (xs.foldl (fun t e => t.mapLanes fun _ r => r.consume e) s).pacer = s.pacer ∧
    (xs.foldl (fun t e => t.mapLanes fun _ r => r.consume e) s).bankA = s.bankA ∧
    (xs.foldl (fun t e => t.mapLanes fun _ r => r.consume e) s).bankB = s.bankB ∧
    (xs.foldl (fun t e => t.mapLanes fun _ r => r.consume e) s).runs = s.runs ∧
    (xs.foldl (fun t e => t.mapLanes fun _ r => r.consume e) s).book = s.book ∧
    (xs.foldl (fun t e => t.mapLanes fun _ r => r.consume e) s).planner = s.planner ∧
    (xs.foldl (fun t e => t.mapLanes fun _ r => r.consume e) s).panel = s.panel ∧
    (xs.foldl (fun t e => t.mapLanes fun _ r => r.consume e) s).free = s.free ∧
    (xs.foldl (fun t e => t.mapLanes fun _ r => r.consume e) s).pending = s.pending := by
  induction xs generalizing s with
  | nil => simp
  | cons x xs ih => simp only [List.foldl_cons, ih]; simp

@[simp] theorem State.consumeUnits_frame (s : State) (units : List (Option Variant)) :
    (s.consumeUnits units).start = s.start ∧ (s.consumeUnits units).prof = s.prof ∧
    (s.consumeUnits units).cnt = s.cnt ∧ (s.consumeUnits units).air = s.air ∧ (s.consumeUnits units).line = s.line ∧
    (s.consumeUnits units).pacer = s.pacer ∧ (s.consumeUnits units).bankA = s.bankA ∧
    (s.consumeUnits units).bankB = s.bankB ∧ (s.consumeUnits units).runs = s.runs ∧
    (s.consumeUnits units).book = s.book ∧ (s.consumeUnits units).planner = s.planner ∧
    (s.consumeUnits units).panel = s.panel ∧ (s.consumeUnits units).free = s.free ∧
    (s.consumeUnits units).pending = s.pending := by
  simp [State.consumeUnits]

@[simp] theorem State.dropClaim_frame (run : RunId) (s : State) (l : LaneIx) :
    (s.dropClaim run l).start = s.start ∧ (s.dropClaim run l).prof = s.prof ∧ (s.dropClaim run l).cnt = s.cnt ∧
    (s.dropClaim run l).air = s.air ∧ (s.dropClaim run l).line = s.line ∧ (s.dropClaim run l).pacer = s.pacer ∧
    (s.dropClaim run l).runs = s.runs ∧ (s.dropClaim run l).planner = s.planner ∧
    (s.dropClaim run l).panel = s.panel ∧ (s.dropClaim run l).free = s.free ∧ (s.dropClaim run l).pending = s.pending := by
  simp only [State.dropClaim]; (repeat' split) <;> simp

@[simp] theorem State.dropClaim_foldl_frame (run : RunId) (xs : List LaneIx) (s : State) :
    (xs.foldl (State.dropClaim run) s).start = s.start ∧ (xs.foldl (State.dropClaim run) s).prof = s.prof ∧
    (xs.foldl (State.dropClaim run) s).cnt = s.cnt ∧ (xs.foldl (State.dropClaim run) s).air = s.air ∧
    (xs.foldl (State.dropClaim run) s).line = s.line ∧ (xs.foldl (State.dropClaim run) s).pacer = s.pacer ∧
    (xs.foldl (State.dropClaim run) s).runs = s.runs ∧ (xs.foldl (State.dropClaim run) s).planner = s.planner ∧
    (xs.foldl (State.dropClaim run) s).panel = s.panel ∧ (xs.foldl (State.dropClaim run) s).free = s.free ∧
    (xs.foldl (State.dropClaim run) s).pending = s.pending := by
  induction xs generalizing s with
  | nil => simp
  | cons x xs ih => simp only [List.foldl_cons, ih]; simp

@[simp] theorem State.removeRun_frame (s : State) (run : RunId) :
    (s.removeRun run).start = s.start ∧ (s.removeRun run).prof = s.prof ∧ (s.removeRun run).cnt = s.cnt ∧
    (s.removeRun run).air = s.air ∧ (s.removeRun run).line = s.line ∧ (s.removeRun run).pacer = s.pacer ∧
    (s.removeRun run).planner = s.planner ∧ (s.removeRun run).panel = s.panel ∧ (s.removeRun run).free = s.free ∧
    (s.removeRun run).pending = s.pending := by
  simp [State.removeRun]

@[simp] theorem State.insertRun_frame (s : State) (n : RunNotice) (st : RunState) :
    (s.insertRun n st).start = s.start ∧ (s.insertRun n st).prof = s.prof ∧ (s.insertRun n st).air = s.air ∧
    (s.insertRun n st).line = s.line ∧ (s.insertRun n st).pacer = s.pacer ∧ (s.insertRun n st).lanes = s.lanes ∧
    (s.insertRun n st).bankA = s.bankA ∧ (s.insertRun n st).bankB = s.bankB ∧ (s.insertRun n st).planner = s.planner ∧
    (s.insertRun n st).panel = s.panel ∧ (s.insertRun n st).free = s.free ∧ (s.insertRun n st).pending = s.pending := by
  simp only [State.insertRun]; (repeat' split) <;> simp

@[simp] theorem State.replaceRun_frame (s : State) (old : RunRec) (n : RunNotice) (st : RunState) :
    (s.replaceRun old n st).start = s.start ∧ (s.replaceRun old n st).prof = s.prof ∧
    (s.replaceRun old n st).line = s.line ∧ (s.replaceRun old n st).pacer = s.pacer ∧
    (s.replaceRun old n st).planner = s.planner ∧ (s.replaceRun old n st).panel = s.panel ∧
    (s.replaceRun old n st).free = s.free ∧ (s.replaceRun old n st).pending = s.pending := by
  simp only [State.replaceRun]; (repeat' split) <;> simp

@[simp] theorem State.takeRun_frame (s : State) (src : Byte) (payload : List Byte) :
    (s.takeRun src payload).start = s.start ∧ (s.takeRun src payload).prof = s.prof ∧
    (s.takeRun src payload).line = s.line ∧ (s.takeRun src payload).pacer = s.pacer ∧
    (s.takeRun src payload).planner = s.planner ∧ (s.takeRun src payload).panel = s.panel ∧
    (s.takeRun src payload).free = s.free ∧ (s.takeRun src payload).pending = s.pending := by
  simp only [State.takeRun]; (repeat' split) <;> simp

@[simp] theorem State.ageRun_frame (s : State) (run : RunId) :
    (s.ageRun run).start = s.start ∧ (s.ageRun run).prof = s.prof ∧ (s.ageRun run).cnt = s.cnt ∧
    (s.ageRun run).air = s.air ∧ (s.ageRun run).line = s.line ∧ (s.ageRun run).pacer = s.pacer ∧
    (s.ageRun run).planner = s.planner ∧ (s.ageRun run).panel = s.panel ∧ (s.ageRun run).free = s.free ∧
    (s.ageRun run).pending = s.pending := by
  simp only [State.ageRun]; (repeat' split) <;> simp

@[simp] theorem State.fallBackLane_frame (run : RunId) (s : State) (l : LaneIx) :
    (s.fallBackLane run l).start = s.start ∧ (s.fallBackLane run l).prof = s.prof ∧
    (s.fallBackLane run l).cnt = s.cnt ∧ (s.fallBackLane run l).air = s.air ∧ (s.fallBackLane run l).line = s.line ∧
    (s.fallBackLane run l).pacer = s.pacer ∧ (s.fallBackLane run l).runs = s.runs ∧
    (s.fallBackLane run l).planner = s.planner ∧ (s.fallBackLane run l).panel = s.panel ∧
    (s.fallBackLane run l).free = s.free ∧ (s.fallBackLane run l).pending = s.pending := by
  simp only [State.fallBackLane]; (repeat' split) <;> simp

@[simp] theorem State.fallBackLane_foldl_frame (run : RunId) (xs : List LaneIx) (s : State) :
    (xs.foldl (State.fallBackLane run) s).start = s.start ∧ (xs.foldl (State.fallBackLane run) s).prof = s.prof ∧
    (xs.foldl (State.fallBackLane run) s).cnt = s.cnt ∧ (xs.foldl (State.fallBackLane run) s).air = s.air ∧
    (xs.foldl (State.fallBackLane run) s).line = s.line ∧ (xs.foldl (State.fallBackLane run) s).pacer = s.pacer ∧
    (xs.foldl (State.fallBackLane run) s).runs = s.runs ∧ (xs.foldl (State.fallBackLane run) s).planner = s.planner ∧
    (xs.foldl (State.fallBackLane run) s).panel = s.panel ∧ (xs.foldl (State.fallBackLane run) s).free = s.free ∧
    (xs.foldl (State.fallBackLane run) s).pending = s.pending := by
  induction xs generalizing s with
  | nil => simp
  | cons x xs ih => simp only [List.foldl_cons, ih]; simp

@[simp] theorem State.manifestSettled_frame (s : State) (run : RunId) :
    (s.manifestSettled run).start = s.start ∧ (s.manifestSettled run).prof = s.prof ∧
    (s.manifestSettled run).cnt = s.cnt ∧ (s.manifestSettled run).air = s.air ∧
    (s.manifestSettled run).line = s.line ∧ (s.manifestSettled run).pacer = s.pacer ∧
    (s.manifestSettled run).planner = s.planner ∧ (s.manifestSettled run).panel = s.panel ∧
    (s.manifestSettled run).free = s.free ∧ (s.manifestSettled run).pending = s.pending := by
  simp [State.manifestSettled]

@[simp] theorem State.waitExpiry_frame (s : State) (run : RunId) :
    (s.waitExpiry run).start = s.start ∧ (s.waitExpiry run).prof = s.prof ∧ (s.waitExpiry run).cnt = s.cnt ∧
    (s.waitExpiry run).air = s.air ∧ (s.waitExpiry run).line = s.line ∧ (s.waitExpiry run).pacer = s.pacer ∧
    (s.waitExpiry run).planner = s.planner ∧ (s.waitExpiry run).panel = s.panel ∧ (s.waitExpiry run).free = s.free ∧
    (s.waitExpiry run).pending = s.pending := by
  simp only [State.waitExpiry]; (repeat' split) <;> simp

@[simp] theorem State.promiseLane_frame (s : State) (run : RunId) (l : LaneIx) (bins : Nat) :
    (s.promiseLane run l bins).start = s.start ∧ (s.promiseLane run l bins).prof = s.prof ∧
    (s.promiseLane run l bins).cnt = s.cnt ∧ (s.promiseLane run l bins).air = s.air ∧
    (s.promiseLane run l bins).line = s.line ∧ (s.promiseLane run l bins).pacer = s.pacer ∧
    (s.promiseLane run l bins).runs = s.runs ∧ (s.promiseLane run l bins).planner = s.planner ∧
    (s.promiseLane run l bins).panel = s.panel ∧ (s.promiseLane run l bins).free = s.free ∧
    (s.promiseLane run l bins).pending = s.pending := by
  simp only [State.promiseLane]; (repeat' split) <;> simp

@[simp] theorem State.confirmLane_frame (s : State) (l : LaneIx) (bins : Nat) :
    (s.confirmLane l bins).start = s.start ∧ (s.confirmLane l bins).prof = s.prof ∧
    (s.confirmLane l bins).cnt = s.cnt ∧ (s.confirmLane l bins).air = s.air ∧ (s.confirmLane l bins).line = s.line ∧
    (s.confirmLane l bins).pacer = s.pacer ∧ (s.confirmLane l bins).runs = s.runs ∧
    (s.confirmLane l bins).planner = s.planner ∧ (s.confirmLane l bins).panel = s.panel ∧
    (s.confirmLane l bins).free = s.free ∧ (s.confirmLane l bins).pending = s.pending := by
  simp [State.confirmLane]

@[simp] theorem State.applyEntry_frame (run : RunId) (s : State) (e : PartEntry) :
    (s.applyEntry run e).start = s.start ∧ (s.applyEntry run e).prof = s.prof ∧ (s.applyEntry run e).air = s.air ∧
    (s.applyEntry run e).line = s.line ∧ (s.applyEntry run e).pacer = s.pacer ∧ (s.applyEntry run e).runs = s.runs ∧
    (s.applyEntry run e).planner = s.planner ∧ (s.applyEntry run e).panel = s.panel ∧
    (s.applyEntry run e).free = s.free ∧ (s.applyEntry run e).pending = s.pending := by
  simp only [State.applyEntry]; (repeat' split) <;> simp

@[simp] theorem State.applyEntry_foldl_frame (run : RunId) (xs : List PartEntry) (s : State) :
    (xs.foldl (State.applyEntry run) s).start = s.start ∧ (xs.foldl (State.applyEntry run) s).prof = s.prof ∧
    (xs.foldl (State.applyEntry run) s).air = s.air ∧ (xs.foldl (State.applyEntry run) s).line = s.line ∧
    (xs.foldl (State.applyEntry run) s).pacer = s.pacer ∧ (xs.foldl (State.applyEntry run) s).runs = s.runs ∧
    (xs.foldl (State.applyEntry run) s).planner = s.planner ∧ (xs.foldl (State.applyEntry run) s).panel = s.panel ∧
    (xs.foldl (State.applyEntry run) s).free = s.free ∧ (xs.foldl (State.applyEntry run) s).pending = s.pending := by
  induction xs generalizing s with
  | nil => simp
  | cons x xs ih => simp only [List.foldl_cons, ih]; simp

@[simp] theorem State.applyPart_frame (s : State) (old : RunRec) (p : ManifestPart) :
    (s.applyPart old p).start = s.start ∧ (s.applyPart old p).prof = s.prof ∧ (s.applyPart old p).air = s.air ∧
    (s.applyPart old p).line = s.line ∧ (s.applyPart old p).pacer = s.pacer ∧
    (s.applyPart old p).planner = s.planner ∧ (s.applyPart old p).panel = s.panel ∧
    (s.applyPart old p).free = s.free ∧ (s.applyPart old p).pending = s.pending := by
  simp only [State.applyPart]; (repeat' split) <;> simp

@[simp] theorem State.takeManifest_frame (s : State) (src : Byte) (payload : List Byte) :
    (s.takeManifest src payload).start = s.start ∧ (s.takeManifest src payload).prof = s.prof ∧
    (s.takeManifest src payload).air = s.air ∧ (s.takeManifest src payload).line = s.line ∧
    (s.takeManifest src payload).pacer = s.pacer ∧ (s.takeManifest src payload).planner = s.planner ∧
    (s.takeManifest src payload).panel = s.panel ∧ (s.takeManifest src payload).free = s.free ∧
    (s.takeManifest src payload).pending = s.pending := by
  simp only [State.takeManifest]; (repeat' split) <;> simp

@[simp] theorem State.startOp_frame (s : State) (cs : Option ClaimSet) :
    (s.startOp cs).start = s.start ∧ (s.startOp cs).prof = s.prof ∧ (s.startOp cs).cnt = s.cnt ∧
    (s.startOp cs).air = s.air ∧ (s.startOp cs).line = s.line ∧ (s.startOp cs).pacer = s.pacer ∧
    (s.startOp cs).bankA = s.bankA ∧ (s.startOp cs).bankB = s.bankB ∧ (s.startOp cs).runs = s.runs ∧
    (s.startOp cs).planner = s.planner ∧ (s.startOp cs).panel = s.panel ∧ (s.startOp cs).free = s.free ∧
    (s.startOp cs).pending = s.pending := by
  simp [State.startOp]

@[simp] theorem State.takeRequests_frame (s : State) :
    s.takeRequests.start = s.start ∧ s.takeRequests.prof = s.prof ∧ s.takeRequests.cnt = s.cnt ∧
    s.takeRequests.air = s.air ∧ s.takeRequests.line = s.line ∧ s.takeRequests.pacer = s.pacer ∧
    s.takeRequests.bankA = s.bankA ∧ s.takeRequests.bankB = s.bankB ∧ s.takeRequests.runs = s.runs ∧
    s.takeRequests.planner = s.planner ∧ s.takeRequests.panel = s.panel ∧ s.takeRequests.free = s.free ∧
    s.takeRequests.pending = s.pending := by
  simp only [State.takeRequests]; (repeat' split) <;> simp

@[simp] theorem State.endEvent_frame (s : State) :
    s.endEvent.start = s.start ∧ s.endEvent.prof = s.prof ∧ s.endEvent.cnt = s.cnt ∧ s.endEvent.air = s.air ∧
    s.endEvent.line = s.line ∧ s.endEvent.pacer = s.pacer ∧ s.endEvent.bankA = s.bankA ∧ s.endEvent.bankB = s.bankB ∧
    s.endEvent.runs = s.runs ∧ s.endEvent.planner = s.planner ∧ s.endEvent.panel = s.panel ∧
    s.endEvent.free = s.free ∧ s.endEvent.pending = s.pending := by
  simp [State.endEvent]

@[simp] theorem State.event_frame (s : State) (f : State → State) :
    (s.event f).start = (f s).start ∧ (s.event f).prof = (f s).prof ∧ (s.event f).cnt = (f s).cnt ∧
    (s.event f).air = (f s).air ∧ (s.event f).line = (f s).line ∧ (s.event f).pacer = (f s).pacer ∧
    (s.event f).bankA = (f s).bankA ∧ (s.event f).bankB = (f s).bankB ∧ (s.event f).runs = (f s).runs ∧
    (s.event f).planner = (f s).planner ∧ (s.event f).panel = (f s).panel ∧ (s.event f).free = (f s).free ∧
    (s.event f).pending = (f s).pending := by
  simp [State.event]

@[simp] theorem State.startIfMarked_frame (s : State) :
    s.startIfMarked.start = s.start ∧ s.startIfMarked.prof = s.prof ∧ s.startIfMarked.cnt = s.cnt ∧
    s.startIfMarked.air = s.air ∧ s.startIfMarked.line = s.line ∧ s.startIfMarked.pacer = s.pacer ∧
    s.startIfMarked.bankA = s.bankA ∧ s.startIfMarked.bankB = s.bankB ∧ s.startIfMarked.runs = s.runs ∧
    s.startIfMarked.planner = s.planner ∧ s.startIfMarked.panel = s.panel ∧ s.startIfMarked.free = s.free ∧
    s.startIfMarked.pending = s.pending := by
  simp only [State.startIfMarked]; (repeat' split) <;> simp

@[simp] theorem State.takeClaimset_frame (s : State) (src : Byte) (payload : List Byte) :
    (s.takeClaimset src payload).start = s.start ∧ (s.takeClaimset src payload).prof = s.prof ∧
    (s.takeClaimset src payload).cnt = s.cnt ∧ (s.takeClaimset src payload).air = s.air ∧
    (s.takeClaimset src payload).line = s.line ∧ (s.takeClaimset src payload).pacer = s.pacer ∧
    (s.takeClaimset src payload).bankA = s.bankA ∧ (s.takeClaimset src payload).bankB = s.bankB ∧
    (s.takeClaimset src payload).runs = s.runs ∧ (s.takeClaimset src payload).planner = s.planner ∧
    (s.takeClaimset src payload).panel = s.panel ∧ (s.takeClaimset src payload).free = s.free ∧
    (s.takeClaimset src payload).pending = s.pending := by
  simp only [State.takeClaimset]; (repeat' split) <;> simp

@[simp] theorem State.queueClaims_frame (s : State) (refresh : Bool) :
    (s.queueClaims refresh).start = s.start ∧ (s.queueClaims refresh).prof = s.prof ∧
    (s.queueClaims refresh).line = s.line ∧ (s.queueClaims refresh).pacer = s.pacer ∧
    (s.queueClaims refresh).lanes = s.lanes ∧ (s.queueClaims refresh).bankA = s.bankA ∧
    (s.queueClaims refresh).bankB = s.bankB ∧ (s.queueClaims refresh).runs = s.runs ∧
    (s.queueClaims refresh).planner = s.planner ∧ (s.queueClaims refresh).panel = s.panel ∧
    (s.queueClaims refresh).free = s.free ∧ (s.queueClaims refresh).pending = s.pending := by
  simp only [State.queueClaims]; (repeat' split) <;> simp

@[simp] theorem State.finishOp_frame (s : State) (op : BookOp) :
    (s.finishOp op).start = s.start ∧ (s.finishOp op).prof = s.prof ∧ (s.finishOp op).line = s.line ∧
    (s.finishOp op).pacer = s.pacer ∧ (s.finishOp op).bankA = s.bankA ∧ (s.finishOp op).bankB = s.bankB ∧
    (s.finishOp op).runs = s.runs ∧ (s.finishOp op).planner = s.planner ∧ (s.finishOp op).panel = s.panel ∧
    (s.finishOp op).free = s.free ∧ (s.finishOp op).pending = s.pending := by
  simp only [State.finishOp]; (repeat' split) <;> simp

@[simp] theorem State.ageEntry_frame (s : State) (station : Nat) (lane : LaneIx) :
    (s.ageEntry station lane).start = s.start ∧ (s.ageEntry station lane).prof = s.prof ∧
    (s.ageEntry station lane).cnt = s.cnt ∧ (s.ageEntry station lane).air = s.air ∧
    (s.ageEntry station lane).line = s.line ∧ (s.ageEntry station lane).pacer = s.pacer ∧
    (s.ageEntry station lane).lanes = s.lanes ∧ (s.ageEntry station lane).bankA = s.bankA ∧
    (s.ageEntry station lane).bankB = s.bankB ∧ (s.ageEntry station lane).runs = s.runs ∧
    (s.ageEntry station lane).planner = s.planner ∧ (s.ageEntry station lane).panel = s.panel ∧
    (s.ageEntry station lane).free = s.free ∧ (s.ageEntry station lane).pending = s.pending := by
  simp only [State.ageEntry]; (repeat' split) <;> simp

@[simp] theorem State.bookRefresh_frame (s : State) :
    s.bookRefresh.start = s.start ∧ s.bookRefresh.prof = s.prof ∧ s.bookRefresh.cnt = s.cnt ∧
    s.bookRefresh.air = s.air ∧ s.bookRefresh.line = s.line ∧ s.bookRefresh.pacer = s.pacer ∧
    s.bookRefresh.lanes = s.lanes ∧ s.bookRefresh.bankA = s.bankA ∧ s.bookRefresh.bankB = s.bankB ∧
    s.bookRefresh.runs = s.runs ∧ s.bookRefresh.planner = s.planner ∧ s.bookRefresh.panel = s.panel ∧
    s.bookRefresh.free = s.free ∧ s.bookRefresh.pending = s.pending := by
  simp only [State.bookRefresh]; (repeat' split) <;> simp

@[simp] theorem State.raise_frame (s : State) (kind : NoticeKind) (station lane : Nat) :
    (s.raise kind station lane).start = s.start ∧ (s.raise kind station lane).prof = s.prof ∧
    (s.raise kind station lane).cnt = s.cnt ∧ (s.raise kind station lane).air = s.air ∧
    (s.raise kind station lane).line = s.line ∧ (s.raise kind station lane).pacer = s.pacer ∧
    (s.raise kind station lane).lanes = s.lanes ∧ (s.raise kind station lane).bankA = s.bankA ∧
    (s.raise kind station lane).bankB = s.bankB ∧ (s.raise kind station lane).runs = s.runs ∧
    (s.raise kind station lane).book = s.book ∧ (s.raise kind station lane).planner = s.planner ∧
    (s.raise kind station lane).free = s.free ∧ (s.raise kind station lane).pending = s.pending := by
  simp [State.raise]

@[simp] theorem State.raiseLate_foldl_frame (xs : List ManifestEntry) (s : State) :
    (xs.foldl (fun t e => if e.late then t.raise .late e.station e.lane.val else t) s).start = s.start ∧
    (xs.foldl (fun t e => if e.late then t.raise .late e.station e.lane.val else t) s).prof = s.prof ∧
    (xs.foldl (fun t e => if e.late then t.raise .late e.station e.lane.val else t) s).cnt = s.cnt ∧
    (xs.foldl (fun t e => if e.late then t.raise .late e.station e.lane.val else t) s).air = s.air ∧
    (xs.foldl (fun t e => if e.late then t.raise .late e.station e.lane.val else t) s).line = s.line ∧
    (xs.foldl (fun t e => if e.late then t.raise .late e.station e.lane.val else t) s).pacer = s.pacer ∧
    (xs.foldl (fun t e => if e.late then t.raise .late e.station e.lane.val else t) s).lanes = s.lanes ∧
    (xs.foldl (fun t e => if e.late then t.raise .late e.station e.lane.val else t) s).bankA = s.bankA ∧
    (xs.foldl (fun t e => if e.late then t.raise .late e.station e.lane.val else t) s).bankB = s.bankB ∧
    (xs.foldl (fun t e => if e.late then t.raise .late e.station e.lane.val else t) s).runs = s.runs ∧
    (xs.foldl (fun t e => if e.late then t.raise .late e.station e.lane.val else t) s).book = s.book ∧
    (xs.foldl (fun t e => if e.late then t.raise .late e.station e.lane.val else t) s).planner = s.planner ∧
    (xs.foldl (fun t e => if e.late then t.raise .late e.station e.lane.val else t) s).free = s.free ∧
    (xs.foldl (fun t e => if e.late then t.raise .late e.station e.lane.val else t) s).pending = s.pending := by
  induction xs generalizing s with
  | nil => simp
  | cons x xs ih => simp only [List.foldl_cons, ih]; split <;> simp

@[simp] theorem State.raiseMissing_foldl_frame (stop : Nat) (xs : List Nat) (s : State) :
    (xs.foldl (fun u x => u.raise .missing x stop) s).start = s.start ∧
    (xs.foldl (fun u x => u.raise .missing x stop) s).prof = s.prof ∧
    (xs.foldl (fun u x => u.raise .missing x stop) s).cnt = s.cnt ∧
    (xs.foldl (fun u x => u.raise .missing x stop) s).air = s.air ∧
    (xs.foldl (fun u x => u.raise .missing x stop) s).line = s.line ∧
    (xs.foldl (fun u x => u.raise .missing x stop) s).pacer = s.pacer ∧
    (xs.foldl (fun u x => u.raise .missing x stop) s).lanes = s.lanes ∧
    (xs.foldl (fun u x => u.raise .missing x stop) s).bankA = s.bankA ∧
    (xs.foldl (fun u x => u.raise .missing x stop) s).bankB = s.bankB ∧
    (xs.foldl (fun u x => u.raise .missing x stop) s).runs = s.runs ∧
    (xs.foldl (fun u x => u.raise .missing x stop) s).book = s.book ∧
    (xs.foldl (fun u x => u.raise .missing x stop) s).planner = s.planner ∧
    (xs.foldl (fun u x => u.raise .missing x stop) s).free = s.free ∧
    (xs.foldl (fun u x => u.raise .missing x stop) s).pending = s.pending := by
  induction xs generalizing s with
  | nil => simp
  | cons x xs ih => simp only [List.foldl_cons, ih]; simp

@[simp] theorem State.setCurrent_frame (s : State) (r : Run) :
    (s.setCurrent r).start = s.start ∧ (s.setCurrent r).prof = s.prof ∧ (s.setCurrent r).cnt = s.cnt ∧
    (s.setCurrent r).air = s.air ∧ (s.setCurrent r).line = s.line ∧ (s.setCurrent r).pacer = s.pacer ∧
    (s.setCurrent r).lanes = s.lanes ∧ (s.setCurrent r).bankA = s.bankA ∧ (s.setCurrent r).bankB = s.bankB ∧
    (s.setCurrent r).runs = s.runs ∧ (s.setCurrent r).book = s.book ∧ (s.setCurrent r).panel = s.panel ∧
    (s.setCurrent r).free = s.free ∧ (s.setCurrent r).pending = s.pending := by
  simp [State.setCurrent]

@[simp] theorem State.announce_frame (s : State) (r : Run) (closed : Bool) :
    (s.announce r closed).start = s.start ∧ (s.announce r closed).prof = s.prof ∧
    (s.announce r closed).line = s.line ∧ (s.announce r closed).pacer = s.pacer ∧
    (s.announce r closed).lanes = s.lanes ∧ (s.announce r closed).bankA = s.bankA ∧
    (s.announce r closed).bankB = s.bankB ∧ (s.announce r closed).runs = s.runs ∧
    (s.announce r closed).book = s.book ∧ (s.announce r closed).planner = s.planner ∧
    (s.announce r closed).panel = s.panel ∧ (s.announce r closed).free = s.free ∧
    (s.announce r closed).pending = s.pending := by
  simp only [State.announce]; (repeat' split) <;> simp

@[simp] theorem State.announceSlot_frame (s : State) (slot : Option Run) :
    (s.announceSlot slot).start = s.start ∧ (s.announceSlot slot).prof = s.prof ∧
    (s.announceSlot slot).line = s.line ∧ (s.announceSlot slot).pacer = s.pacer ∧
    (s.announceSlot slot).lanes = s.lanes ∧ (s.announceSlot slot).bankA = s.bankA ∧
    (s.announceSlot slot).bankB = s.bankB ∧ (s.announceSlot slot).runs = s.runs ∧
    (s.announceSlot slot).book = s.book ∧ (s.announceSlot slot).planner = s.planner ∧
    (s.announceSlot slot).panel = s.panel ∧ (s.announceSlot slot).free = s.free ∧
    (s.announceSlot slot).pending = s.pending := by
  simp only [State.announceSlot]; (repeat' split) <;> simp

@[simp] theorem State.announceAll_frame (s : State) :
    s.announceAll.start = s.start ∧ s.announceAll.prof = s.prof ∧ s.announceAll.line = s.line ∧
    s.announceAll.pacer = s.pacer ∧ s.announceAll.lanes = s.lanes ∧ s.announceAll.bankA = s.bankA ∧
    s.announceAll.bankB = s.bankB ∧ s.announceAll.runs = s.runs ∧ s.announceAll.book = s.book ∧
    s.announceAll.planner = s.planner ∧ s.announceAll.panel = s.panel ∧ s.announceAll.free = s.free ∧
    s.announceAll.pending = s.pending := by
  simp [State.announceAll]

@[simp] theorem State.queueParts_frame (s : State) (r : Run) :
    (s.queueParts r).start = s.start ∧ (s.queueParts r).prof = s.prof ∧ (s.queueParts r).line = s.line ∧
    (s.queueParts r).pacer = s.pacer ∧ (s.queueParts r).lanes = s.lanes ∧ (s.queueParts r).bankA = s.bankA ∧
    (s.queueParts r).bankB = s.bankB ∧ (s.queueParts r).runs = s.runs ∧ (s.queueParts r).book = s.book ∧
    (s.queueParts r).planner = s.planner ∧ (s.queueParts r).panel = s.panel ∧ (s.queueParts r).free = s.free ∧
    (s.queueParts r).pending = s.pending := by
  simp only [State.queueParts]; (repeat' split) <;> simp

@[simp] theorem State.openRun_frame (s : State) :
    s.openRun.start = s.start ∧ s.openRun.prof = s.prof ∧ s.openRun.cnt = s.cnt ∧ s.openRun.air = s.air ∧
    s.openRun.line = s.line ∧ s.openRun.pacer = s.pacer ∧ s.openRun.lanes = s.lanes ∧ s.openRun.bankA = s.bankA ∧
    s.openRun.bankB = s.bankB ∧ s.openRun.runs = s.runs ∧ s.openRun.panel = s.panel ∧ s.openRun.free = s.free ∧
    s.openRun.pending = s.pending := by
  simp only [State.openRun]; (repeat' split) <;> simp

@[simp] theorem State.openAndAnnounce_frame (s : State) :
    s.openAndAnnounce.start = s.start ∧ s.openAndAnnounce.prof = s.prof ∧ s.openAndAnnounce.line = s.line ∧
    s.openAndAnnounce.pacer = s.pacer ∧ s.openAndAnnounce.lanes = s.lanes ∧ s.openAndAnnounce.bankA = s.bankA ∧
    s.openAndAnnounce.bankB = s.bankB ∧ s.openAndAnnounce.runs = s.runs ∧ s.openAndAnnounce.panel = s.panel ∧
    s.openAndAnnounce.free = s.free ∧ s.openAndAnnounce.pending = s.pending := by
  simp only [State.openAndAnnounce]; (repeat' split) <;> simp

@[simp] theorem State.raiseLate_frame (s : State) :
    s.raiseLate.start = s.start ∧ s.raiseLate.prof = s.prof ∧ s.raiseLate.cnt = s.cnt ∧ s.raiseLate.air = s.air ∧
    s.raiseLate.line = s.line ∧ s.raiseLate.pacer = s.pacer ∧ s.raiseLate.lanes = s.lanes ∧
    s.raiseLate.bankA = s.bankA ∧ s.raiseLate.bankB = s.bankB ∧ s.raiseLate.runs = s.runs ∧
    s.raiseLate.book = s.book ∧ s.raiseLate.planner = s.planner ∧ s.raiseLate.free = s.free ∧
    s.raiseLate.pending = s.pending := by
  simp only [State.raiseLate]; simp

@[simp] theorem State.loadLock_frame (s : State) (r : Run) :
    (s.loadLock r).start = s.start ∧ (s.loadLock r).prof = s.prof ∧ (s.loadLock r).line = s.line ∧
    (s.loadLock r).pacer = s.pacer ∧ (s.loadLock r).lanes = s.lanes ∧ (s.loadLock r).bankA = s.bankA ∧
    (s.loadLock r).bankB = s.bankB ∧ (s.loadLock r).runs = s.runs ∧ (s.loadLock r).free = s.free ∧
    (s.loadLock r).pending = s.pending := by
  simp [State.loadLock]

@[simp] theorem State.refuse_frame (s : State) (button : Nat) :
    (s.refuse button).start = s.start ∧ (s.refuse button).prof = s.prof ∧ (s.refuse button).cnt = s.cnt ∧
    (s.refuse button).air = s.air ∧ (s.refuse button).line = s.line ∧ (s.refuse button).pacer = s.pacer ∧
    (s.refuse button).lanes = s.lanes ∧ (s.refuse button).bankA = s.bankA ∧ (s.refuse button).bankB = s.bankB ∧
    (s.refuse button).runs = s.runs ∧ (s.refuse button).book = s.book ∧ (s.refuse button).planner = s.planner ∧
    (s.refuse button).free = s.free ∧ (s.refuse button).pending = s.pending := by
  simp [State.refuse]

@[simp] theorem State.pressLoad_frame (s : State) :
    s.pressLoad.start = s.start ∧ s.pressLoad.prof = s.prof ∧ s.pressLoad.line = s.line ∧
    s.pressLoad.pacer = s.pacer ∧ s.pressLoad.lanes = s.lanes ∧ s.pressLoad.bankA = s.bankA ∧
    s.pressLoad.bankB = s.bankB ∧ s.pressLoad.runs = s.runs ∧ s.pressLoad.free = s.free ∧
    s.pressLoad.pending = s.pending := by
  simp only [State.pressLoad]; (repeat' split) <;> simp

@[simp] theorem State.departPresent_frame (s : State) (r : Run) (next : RunState) :
    (s.departPresent r next).start = s.start ∧ (s.departPresent r next).prof = s.prof ∧
    (s.departPresent r next).line = s.line ∧ (s.departPresent r next).pacer = s.pacer ∧
    (s.departPresent r next).lanes = s.lanes ∧ (s.departPresent r next).bankA = s.bankA ∧
    (s.departPresent r next).bankB = s.bankB ∧ (s.departPresent r next).runs = s.runs ∧
    (s.departPresent r next).book = s.book ∧ (s.departPresent r next).panel = s.panel ∧
    (s.departPresent r next).free = s.free ∧ (s.departPresent r next).pending = s.pending := by
  simp only [State.departPresent]; (repeat' split) <;> simp

@[simp] theorem State.departSupermarket_frame (s : State) (r : Run) :
    (s.departSupermarket r).start = s.start ∧ (s.departSupermarket r).prof = s.prof ∧
    (s.departSupermarket r).line = s.line ∧ (s.departSupermarket r).pacer = s.pacer ∧
    (s.departSupermarket r).lanes = s.lanes ∧ (s.departSupermarket r).bankA = s.bankA ∧
    (s.departSupermarket r).bankB = s.bankB ∧ (s.departSupermarket r).runs = s.runs ∧
    (s.departSupermarket r).panel = s.panel ∧ (s.departSupermarket r).free = s.free ∧
    (s.departSupermarket r).pending = s.pending := by
  simp [State.departSupermarket]

@[simp] theorem State.pressGo_frame (s : State) :
    s.pressGo.start = s.start ∧ s.pressGo.prof = s.prof ∧ s.pressGo.line = s.line ∧ s.pressGo.pacer = s.pacer ∧
    s.pressGo.lanes = s.lanes ∧ s.pressGo.bankA = s.bankA ∧ s.pressGo.bankB = s.bankB ∧ s.pressGo.runs = s.runs ∧
    s.pressGo.free = s.free ∧ s.pressGo.pending = s.pending := by
  simp only [State.pressGo]; (repeat' split) <;> simp

@[simp] theorem State.pressHold_frame (s : State) :
    s.pressHold.start = s.start ∧ s.pressHold.prof = s.prof ∧ s.pressHold.line = s.line ∧
    s.pressHold.pacer = s.pacer ∧ s.pressHold.lanes = s.lanes ∧ s.pressHold.bankA = s.bankA ∧
    s.pressHold.bankB = s.bankB ∧ s.pressHold.runs = s.runs ∧ s.pressHold.book = s.book ∧ s.pressHold.free = s.free ∧
    s.pressHold.pending = s.pending := by
  simp only [State.pressHold]; (repeat' split) <;> simp

@[simp] theorem State.arriveAt_frame (s : State) (r : Run) (stop : Nat) (kind : VisitKind) (revisit : Bool) :
    (s.arriveAt r stop kind revisit).start = s.start ∧ (s.arriveAt r stop kind revisit).prof = s.prof ∧
    (s.arriveAt r stop kind revisit).line = s.line ∧ (s.arriveAt r stop kind revisit).pacer = s.pacer ∧
    (s.arriveAt r stop kind revisit).lanes = s.lanes ∧ (s.arriveAt r stop kind revisit).bankA = s.bankA ∧
    (s.arriveAt r stop kind revisit).bankB = s.bankB ∧ (s.arriveAt r stop kind revisit).runs = s.runs ∧
    (s.arriveAt r stop kind revisit).book = s.book ∧ (s.arriveAt r stop kind revisit).free = s.free ∧
    (s.arriveAt r stop kind revisit).pending = s.pending := by
  simp only [State.arriveAt]; (repeat' split) <;> simp

@[simp] theorem State.closeRun_frame (s : State) (r : Run) :
    (s.closeRun r).start = s.start ∧ (s.closeRun r).prof = s.prof ∧ (s.closeRun r).line = s.line ∧
    (s.closeRun r).pacer = s.pacer ∧ (s.closeRun r).lanes = s.lanes ∧ (s.closeRun r).bankA = s.bankA ∧
    (s.closeRun r).bankB = s.bankB ∧ (s.closeRun r).runs = s.runs ∧ (s.closeRun r).panel = s.panel ∧
    (s.closeRun r).free = s.free ∧ (s.closeRun r).pending = s.pending := by
  simp [State.closeRun]

@[simp] theorem State.offRoute_frame (s : State) (stop : Nat) :
    (s.offRoute stop).start = s.start ∧ (s.offRoute stop).prof = s.prof ∧ (s.offRoute stop).cnt = s.cnt ∧
    (s.offRoute stop).air = s.air ∧ (s.offRoute stop).line = s.line ∧ (s.offRoute stop).pacer = s.pacer ∧
    (s.offRoute stop).lanes = s.lanes ∧ (s.offRoute stop).bankA = s.bankA ∧ (s.offRoute stop).bankB = s.bankB ∧
    (s.offRoute stop).runs = s.runs ∧ (s.offRoute stop).book = s.book ∧ (s.offRoute stop).planner = s.planner ∧
    (s.offRoute stop).free = s.free ∧ (s.offRoute stop).pending = s.pending := by
  simp [State.offRoute]

@[simp] theorem State.strobeEnroute_frame (s : State) (r : Run) (stop : Nat) :
    (s.strobeEnroute r stop).start = s.start ∧ (s.strobeEnroute r stop).prof = s.prof ∧
    (s.strobeEnroute r stop).line = s.line ∧ (s.strobeEnroute r stop).pacer = s.pacer ∧
    (s.strobeEnroute r stop).lanes = s.lanes ∧ (s.strobeEnroute r stop).bankA = s.bankA ∧
    (s.strobeEnroute r stop).bankB = s.bankB ∧ (s.strobeEnroute r stop).runs = s.runs ∧
    (s.strobeEnroute r stop).free = s.free ∧ (s.strobeEnroute r stop).pending = s.pending := by
  simp only [State.strobeEnroute]; (repeat' split) <;> simp

@[simp] theorem State.strobeHeld_frame (s : State) (r : Run) (stop : Nat) :
    (s.strobeHeld r stop).start = s.start ∧ (s.strobeHeld r stop).prof = s.prof ∧
    (s.strobeHeld r stop).line = s.line ∧ (s.strobeHeld r stop).pacer = s.pacer ∧
    (s.strobeHeld r stop).lanes = s.lanes ∧ (s.strobeHeld r stop).bankA = s.bankA ∧
    (s.strobeHeld r stop).bankB = s.bankB ∧ (s.strobeHeld r stop).runs = s.runs ∧
    (s.strobeHeld r stop).book = s.book ∧ (s.strobeHeld r stop).free = s.free ∧
    (s.strobeHeld r stop).pending = s.pending := by
  simp only [State.strobeHeld]; (repeat' split) <;> simp

@[simp] theorem State.strobeAfterDeparture_frame (s : State) (stop : Nat) :
    (s.strobeAfterDeparture stop).start = s.start ∧ (s.strobeAfterDeparture stop).prof = s.prof ∧
    (s.strobeAfterDeparture stop).line = s.line ∧ (s.strobeAfterDeparture stop).pacer = s.pacer ∧
    (s.strobeAfterDeparture stop).lanes = s.lanes ∧ (s.strobeAfterDeparture stop).bankA = s.bankA ∧
    (s.strobeAfterDeparture stop).bankB = s.bankB ∧ (s.strobeAfterDeparture stop).runs = s.runs ∧
    (s.strobeAfterDeparture stop).free = s.free ∧ (s.strobeAfterDeparture stop).pending = s.pending := by
  simp only [State.strobeAfterDeparture]; (repeat' split) <;> simp

@[simp] theorem State.takeStrobe_frame (s : State) (stop : Nat) :
    (s.takeStrobe stop).start = s.start ∧ (s.takeStrobe stop).prof = s.prof ∧ (s.takeStrobe stop).line = s.line ∧
    (s.takeStrobe stop).pacer = s.pacer ∧ (s.takeStrobe stop).lanes = s.lanes ∧ (s.takeStrobe stop).bankA = s.bankA ∧
    (s.takeStrobe stop).bankB = s.bankB ∧ (s.takeStrobe stop).runs = s.runs ∧ (s.takeStrobe stop).free = s.free ∧
    (s.takeStrobe stop).pending = s.pending := by
  simp only [State.takeStrobe]; (repeat' split) <;> simp

@[simp] theorem State.stopCode_frame (s : State) :
    s.stopCode.2.start = s.start ∧ s.stopCode.2.prof = s.prof ∧ s.stopCode.2.cnt = s.cnt ∧ s.stopCode.2.air = s.air ∧
    s.stopCode.2.line = s.line ∧ s.stopCode.2.pacer = s.pacer ∧ s.stopCode.2.lanes = s.lanes ∧
    s.stopCode.2.bankA = s.bankA ∧ s.stopCode.2.bankB = s.bankB ∧ s.stopCode.2.runs = s.runs ∧
    s.stopCode.2.book = s.book ∧ s.stopCode.2.planner = s.planner ∧ s.stopCode.2.panel = s.panel ∧
    s.stopCode.2.pending = s.pending := by
  simp only [State.stopCode]; (repeat' split) <;> simp

@[simp] theorem State.strobe_frame (s : State) :
    s.strobe.start = s.start ∧ s.strobe.prof = s.prof ∧ s.strobe.line = s.line ∧ s.strobe.pacer = s.pacer ∧
    s.strobe.lanes = s.lanes ∧ s.strobe.bankA = s.bankA ∧ s.strobe.bankB = s.bankB ∧ s.strobe.runs = s.runs ∧
    s.strobe.pending = s.pending := by
  simp [State.strobe]

@[simp] theorem State.plannerRefresh_frame (s : State) :
    s.plannerRefresh.start = s.start ∧ s.plannerRefresh.prof = s.prof ∧ s.plannerRefresh.line = s.line ∧
    s.plannerRefresh.pacer = s.pacer ∧ s.plannerRefresh.lanes = s.lanes ∧ s.plannerRefresh.bankA = s.bankA ∧
    s.plannerRefresh.bankB = s.bankB ∧ s.plannerRefresh.runs = s.runs ∧ s.plannerRefresh.book = s.book ∧
    s.plannerRefresh.panel = s.panel ∧ s.plannerRefresh.free = s.free ∧ s.plannerRefresh.pending = s.pending := by
  simp only [State.plannerRefresh]; (repeat' split) <;> simp

@[simp] theorem State.applyReceiptItem_frame (src stop : Nat) (s : State) (i : ReceiptItem) :
    (s.applyReceiptItem src stop i).start = s.start ∧ (s.applyReceiptItem src stop i).prof = s.prof ∧
    (s.applyReceiptItem src stop i).cnt = s.cnt ∧ (s.applyReceiptItem src stop i).air = s.air ∧
    (s.applyReceiptItem src stop i).line = s.line ∧ (s.applyReceiptItem src stop i).pacer = s.pacer ∧
    (s.applyReceiptItem src stop i).lanes = s.lanes ∧ (s.applyReceiptItem src stop i).bankA = s.bankA ∧
    (s.applyReceiptItem src stop i).bankB = s.bankB ∧ (s.applyReceiptItem src stop i).runs = s.runs ∧
    (s.applyReceiptItem src stop i).book = s.book ∧ (s.applyReceiptItem src stop i).free = s.free ∧
    (s.applyReceiptItem src stop i).pending = s.pending := by
  simp only [State.applyReceiptItem]; (repeat' split) <;> simp

@[simp] theorem State.applyReceiptItem_foldl_frame (src stop : Nat) (xs : List ReceiptItem) (s : State) :
    (xs.foldl (State.applyReceiptItem src stop) s).start = s.start ∧
    (xs.foldl (State.applyReceiptItem src stop) s).prof = s.prof ∧
    (xs.foldl (State.applyReceiptItem src stop) s).cnt = s.cnt ∧
    (xs.foldl (State.applyReceiptItem src stop) s).air = s.air ∧
    (xs.foldl (State.applyReceiptItem src stop) s).line = s.line ∧
    (xs.foldl (State.applyReceiptItem src stop) s).pacer = s.pacer ∧
    (xs.foldl (State.applyReceiptItem src stop) s).lanes = s.lanes ∧
    (xs.foldl (State.applyReceiptItem src stop) s).bankA = s.bankA ∧
    (xs.foldl (State.applyReceiptItem src stop) s).bankB = s.bankB ∧
    (xs.foldl (State.applyReceiptItem src stop) s).runs = s.runs ∧
    (xs.foldl (State.applyReceiptItem src stop) s).book = s.book ∧
    (xs.foldl (State.applyReceiptItem src stop) s).free = s.free ∧
    (xs.foldl (State.applyReceiptItem src stop) s).pending = s.pending := by
  induction xs generalizing s with
  | nil => simp
  | cons x xs ih => simp only [List.foldl_cons, ih]; simp

@[simp] theorem State.takeReceipt_frame (s : State) (src : Byte) (payload : List Byte) :
    (s.takeReceipt src payload).start = s.start ∧ (s.takeReceipt src payload).prof = s.prof ∧
    (s.takeReceipt src payload).cnt = s.cnt ∧ (s.takeReceipt src payload).air = s.air ∧
    (s.takeReceipt src payload).line = s.line ∧ (s.takeReceipt src payload).pacer = s.pacer ∧
    (s.takeReceipt src payload).lanes = s.lanes ∧ (s.takeReceipt src payload).bankA = s.bankA ∧
    (s.takeReceipt src payload).bankB = s.bankB ∧ (s.takeReceipt src payload).runs = s.runs ∧
    (s.takeReceipt src payload).book = s.book ∧ (s.takeReceipt src payload).free = s.free ∧
    (s.takeReceipt src payload).pending = s.pending := by
  simp only [State.takeReceipt]; (repeat' split) <;> simp

@[simp] theorem State.receiptExpiry_frame (s : State) (i : Nat) :
    (s.receiptExpiry i).start = s.start ∧ (s.receiptExpiry i).prof = s.prof ∧ (s.receiptExpiry i).cnt = s.cnt ∧
    (s.receiptExpiry i).air = s.air ∧ (s.receiptExpiry i).line = s.line ∧ (s.receiptExpiry i).pacer = s.pacer ∧
    (s.receiptExpiry i).lanes = s.lanes ∧ (s.receiptExpiry i).bankA = s.bankA ∧ (s.receiptExpiry i).bankB = s.bankB ∧
    (s.receiptExpiry i).runs = s.runs ∧ (s.receiptExpiry i).book = s.book ∧ (s.receiptExpiry i).free = s.free ∧
    (s.receiptExpiry i).pending = s.pending := by
  simp only [State.receiptExpiry]; (repeat' split) <;> simp

@[simp] theorem State.queueUnit_frame (s : State) :
    s.queueUnit.start = s.start ∧ s.queueUnit.prof = s.prof ∧ s.queueUnit.line = s.line ∧
    s.queueUnit.lanes = s.lanes ∧ s.queueUnit.bankA = s.bankA ∧ s.queueUnit.bankB = s.bankB ∧
    s.queueUnit.runs = s.runs ∧ s.queueUnit.book = s.book ∧ s.queueUnit.planner = s.planner ∧
    s.queueUnit.panel = s.panel ∧ s.queueUnit.free = s.free ∧ s.queueUnit.pending = s.pending := by
  simp [State.queueUnit]

@[simp] theorem State.followOwn_frame (s : State) :
    s.followOwn.start = s.start ∧ s.followOwn.prof = s.prof ∧ s.followOwn.cnt = s.cnt ∧ s.followOwn.air = s.air ∧
    s.followOwn.pacer = s.pacer ∧ s.followOwn.lanes = s.lanes ∧ s.followOwn.bankA = s.bankA ∧
    s.followOwn.bankB = s.bankB ∧ s.followOwn.runs = s.runs ∧ s.followOwn.book = s.book ∧
    s.followOwn.planner = s.planner ∧ s.followOwn.panel = s.panel ∧ s.followOwn.free = s.free ∧
    s.followOwn.pending = s.pending := by
  simp [State.followOwn]

@[simp] theorem State.enterActive_frame (s : State) :
    s.enterActive.start = s.start ∧ s.enterActive.prof = s.prof ∧ s.enterActive.lanes = s.lanes ∧
    s.enterActive.bankA = s.bankA ∧ s.enterActive.bankB = s.bankB ∧ s.enterActive.runs = s.runs ∧
    s.enterActive.book = s.book ∧ s.enterActive.planner = s.planner ∧ s.enterActive.panel = s.panel ∧
    s.enterActive.free = s.free ∧ s.enterActive.pending = s.pending := by
  simp [State.enterActive]

@[simp] theorem State.edgeVariant_frame (s : State) :
    s.edgeVariant.2.start = s.start ∧ s.edgeVariant.2.prof = s.prof ∧ s.edgeVariant.2.cnt = s.cnt ∧
    s.edgeVariant.2.air = s.air ∧ s.edgeVariant.2.line = s.line ∧ s.edgeVariant.2.pacer = s.pacer ∧
    s.edgeVariant.2.lanes = s.lanes ∧ s.edgeVariant.2.bankA = s.bankA ∧ s.edgeVariant.2.bankB = s.bankB ∧
    s.edgeVariant.2.runs = s.runs ∧ s.edgeVariant.2.book = s.book ∧ s.edgeVariant.2.planner = s.planner ∧
    s.edgeVariant.2.panel = s.panel ∧ s.edgeVariant.2.pending = s.pending := by
  simp only [State.edgeVariant]; (repeat' split) <;> simp

@[simp] theorem State.countEdge_frame (s : State) (v : Variant) :
    (s.countEdge v).start = s.start ∧ (s.countEdge v).prof = s.prof ∧ (s.countEdge v).cnt = s.cnt ∧
    (s.countEdge v).air = s.air ∧ (s.countEdge v).line = s.line ∧ (s.countEdge v).lanes = s.lanes ∧
    (s.countEdge v).bankA = s.bankA ∧ (s.countEdge v).bankB = s.bankB ∧ (s.countEdge v).runs = s.runs ∧
    (s.countEdge v).book = s.book ∧ (s.countEdge v).planner = s.planner ∧ (s.countEdge v).panel = s.panel ∧
    (s.countEdge v).free = s.free ∧ (s.countEdge v).pending = s.pending := by
  simp [State.countEdge]

@[simp] theorem State.edge_frame (s : State) :
    s.edge.start = s.start ∧ s.edge.prof = s.prof ∧ s.edge.lanes = s.lanes ∧ s.edge.bankA = s.bankA ∧
    s.edge.bankB = s.bankB ∧ s.edge.runs = s.runs ∧ s.edge.book = s.book ∧ s.edge.planner = s.planner ∧
    s.edge.panel = s.panel ∧ s.edge.pending = s.pending := by
  simp only [State.edge]; (repeat' split) <;> simp

@[simp] theorem State.keepaliveExpiry_frame (s : State) :
    s.keepaliveExpiry.start = s.start ∧ s.keepaliveExpiry.prof = s.prof ∧ s.keepaliveExpiry.line = s.line ∧
    s.keepaliveExpiry.lanes = s.lanes ∧ s.keepaliveExpiry.bankA = s.bankA ∧ s.keepaliveExpiry.bankB = s.bankB ∧
    s.keepaliveExpiry.runs = s.runs ∧ s.keepaliveExpiry.book = s.book ∧ s.keepaliveExpiry.planner = s.planner ∧
    s.keepaliveExpiry.panel = s.panel ∧ s.keepaliveExpiry.free = s.free ∧ s.keepaliveExpiry.pending = s.pending := by
  simp only [State.keepaliveExpiry]; (repeat' split) <;> simp

@[simp] theorem State.buildWindow_frame (s : State) (u : UnitNotice) :
    (s.buildWindow u).start = s.start ∧ (s.buildWindow u).prof = s.prof ∧ (s.buildWindow u).cnt = s.cnt ∧
    (s.buildWindow u).air = s.air ∧ (s.buildWindow u).pacer = s.pacer ∧ (s.buildWindow u).bankA = s.bankA ∧
    (s.buildWindow u).bankB = s.bankB ∧ (s.buildWindow u).runs = s.runs ∧ (s.buildWindow u).planner = s.planner ∧
    (s.buildWindow u).panel = s.panel ∧ (s.buildWindow u).free = s.free ∧ (s.buildWindow u).pending = s.pending := by
  simp only [State.buildWindow]; (repeat' split) <;> simp

@[simp] theorem State.advanceWindow_frame (s : State) (u : UnitNotice) (d : Nat) :
    (s.advanceWindow u d).start = s.start ∧ (s.advanceWindow u d).prof = s.prof ∧ (s.advanceWindow u d).cnt = s.cnt ∧
    (s.advanceWindow u d).air = s.air ∧ (s.advanceWindow u d).pacer = s.pacer ∧
    (s.advanceWindow u d).bankA = s.bankA ∧ (s.advanceWindow u d).bankB = s.bankB ∧
    (s.advanceWindow u d).runs = s.runs ∧ (s.advanceWindow u d).planner = s.planner ∧
    (s.advanceWindow u d).panel = s.panel ∧ (s.advanceWindow u d).free = s.free ∧
    (s.advanceWindow u d).pending = s.pending := by
  simp only [State.advanceWindow]; (repeat' split) <;> simp

@[simp] theorem State.hearPacer_frame (s : State) (u : UnitNotice) :
    (s.hearPacer u).start = s.start ∧ (s.hearPacer u).prof = s.prof ∧ (s.hearPacer u).cnt = s.cnt ∧
    (s.hearPacer u).air = s.air ∧ (s.hearPacer u).pacer = s.pacer ∧ (s.hearPacer u).lanes = s.lanes ∧
    (s.hearPacer u).bankA = s.bankA ∧ (s.hearPacer u).bankB = s.bankB ∧ (s.hearPacer u).runs = s.runs ∧
    (s.hearPacer u).book = s.book ∧ (s.hearPacer u).planner = s.planner ∧ (s.hearPacer u).panel = s.panel ∧
    (s.hearPacer u).free = s.free ∧ (s.hearPacer u).pending = s.pending := by
  simp [State.hearPacer]

@[simp] theorem State.adopt_frame (s : State) (u : UnitNotice) :
    (s.adopt u).start = s.start ∧ (s.adopt u).prof = s.prof ∧ (s.adopt u).pacer = s.pacer ∧
    (s.adopt u).bankA = s.bankA ∧ (s.adopt u).bankB = s.bankB ∧ (s.adopt u).runs = s.runs ∧
    (s.adopt u).panel = s.panel ∧ (s.adopt u).free = s.free ∧ (s.adopt u).pending = s.pending := by
  simp [State.adopt]

@[simp] theorem State.advanceTest_frame (s : State) (u : UnitNotice) :
    (s.advanceTest u).start = s.start ∧ (s.advanceTest u).prof = s.prof ∧ (s.advanceTest u).air = s.air ∧
    (s.advanceTest u).pacer = s.pacer ∧ (s.advanceTest u).bankA = s.bankA ∧ (s.advanceTest u).bankB = s.bankB ∧
    (s.advanceTest u).runs = s.runs ∧ (s.advanceTest u).planner = s.planner ∧ (s.advanceTest u).panel = s.panel ∧
    (s.advanceTest u).free = s.free ∧ (s.advanceTest u).pending = s.pending := by
  simp only [State.advanceTest]; (repeat' split) <;> simp

@[simp] theorem State.processUnit_frame (s : State) (src : Byte) (u : UnitNotice) :
    (s.processUnit src u).start = s.start ∧ (s.processUnit src u).prof = s.prof ∧
    (s.processUnit src u).pacer = s.pacer ∧ (s.processUnit src u).bankA = s.bankA ∧
    (s.processUnit src u).bankB = s.bankB ∧ (s.processUnit src u).runs = s.runs ∧
    (s.processUnit src u).panel = s.panel ∧ (s.processUnit src u).free = s.free ∧
    (s.processUnit src u).pending = s.pending := by
  simp only [State.processUnit]; (repeat' split) <;> simp

@[simp] theorem State.standBy_frame (s : State) (u : UnitNotice) :
    (s.standBy u).start = s.start ∧ (s.standBy u).prof = s.prof ∧ (s.standBy u).cnt = s.cnt ∧
    (s.standBy u).air = s.air ∧ (s.standBy u).line = s.line ∧ (s.standBy u).lanes = s.lanes ∧
    (s.standBy u).bankA = s.bankA ∧ (s.standBy u).bankB = s.bankB ∧ (s.standBy u).runs = s.runs ∧
    (s.standBy u).book = s.book ∧ (s.standBy u).planner = s.planner ∧ (s.standBy u).panel = s.panel ∧
    (s.standBy u).free = s.free ∧ (s.standBy u).pending = s.pending := by
  simp only [State.standBy]; (repeat' split) <;> simp

@[simp] theorem State.standDown_frame (s : State) :
    s.standDown.start = s.start ∧ s.standDown.prof = s.prof ∧ s.standDown.cnt = s.cnt ∧ s.standDown.line = s.line ∧
    s.standDown.lanes = s.lanes ∧ s.standDown.bankA = s.bankA ∧ s.standDown.bankB = s.bankB ∧
    s.standDown.runs = s.runs ∧ s.standDown.book = s.book ∧ s.standDown.planner = s.planner ∧
    s.standDown.panel = s.panel ∧ s.standDown.free = s.free ∧ s.standDown.pending = s.pending := by
  simp [State.standDown]

@[simp] theorem State.conflict_frame (s : State) :
    s.conflict.start = s.start ∧ s.conflict.prof = s.prof ∧ s.conflict.air = s.air ∧ s.conflict.line = s.line ∧
    s.conflict.pacer = s.pacer ∧ s.conflict.lanes = s.lanes ∧ s.conflict.bankA = s.bankA ∧
    s.conflict.bankB = s.bankB ∧ s.conflict.runs = s.runs ∧ s.conflict.book = s.book ∧
    s.conflict.planner = s.planner ∧ s.conflict.panel = s.panel ∧ s.conflict.free = s.free ∧
    s.conflict.pending = s.pending := by
  simp [State.conflict]

@[simp] theorem State.takeUnit_frame (s : State) (src : Byte) (payload : List Byte) :
    (s.takeUnit src payload).start = s.start ∧ (s.takeUnit src payload).prof = s.prof ∧
    (s.takeUnit src payload).bankA = s.bankA ∧ (s.takeUnit src payload).bankB = s.bankB ∧
    (s.takeUnit src payload).runs = s.runs ∧ (s.takeUnit src payload).panel = s.panel ∧
    (s.takeUnit src payload).free = s.free ∧ (s.takeUnit src payload).pending = s.pending := by
  simp only [State.takeUnit]; (repeat' split) <;> simp

@[simp] theorem State.silenceExpiry_frame (s : State) :
    s.silenceExpiry.start = s.start ∧ s.silenceExpiry.prof = s.prof ∧ s.silenceExpiry.lanes = s.lanes ∧
    s.silenceExpiry.bankA = s.bankA ∧ s.silenceExpiry.bankB = s.bankB ∧ s.silenceExpiry.runs = s.runs ∧
    s.silenceExpiry.book = s.book ∧ s.silenceExpiry.planner = s.planner ∧ s.silenceExpiry.panel = s.panel ∧
    s.silenceExpiry.free = s.free ∧ s.silenceExpiry.pending = s.pending := by
  simp only [State.silenceExpiry]; (repeat' split) <;> simp

@[simp] theorem State.holdReset_frame (s : State) :
    s.holdReset.prof = s.prof ∧ s.holdReset.cnt = s.cnt ∧ s.holdReset.line = s.line ∧ s.holdReset.pacer = s.pacer ∧
    s.holdReset.lanes = s.lanes ∧ s.holdReset.bankA = s.bankA ∧ s.holdReset.bankB = s.bankB ∧
    s.holdReset.runs = s.runs ∧ s.holdReset.book = s.book ∧ s.holdReset.planner = s.planner ∧
    s.holdReset.panel = s.panel ∧ s.holdReset.free = s.free ∧ s.holdReset.pending = s.pending := by
  simp [State.holdReset]

@[simp] theorem State.failWith_frame (s : State) (cause : FaultCause) :
    (s.failWith cause).prof = s.prof ∧ (s.failWith cause).cnt = s.cnt ∧ (s.failWith cause).line = s.line ∧
    (s.failWith cause).pacer = s.pacer ∧ (s.failWith cause).lanes = s.lanes ∧ (s.failWith cause).bankA = s.bankA ∧
    (s.failWith cause).bankB = s.bankB ∧ (s.failWith cause).runs = s.runs ∧ (s.failWith cause).book = s.book ∧
    (s.failWith cause).planner = s.planner ∧ (s.failWith cause).panel = s.panel ∧ (s.failWith cause).free = s.free ∧
    (s.failWith cause).pending = s.pending := by
  simp only [State.failWith]; (repeat' split) <;> simp

@[simp] theorem State.retireLanes_frame (s : State) :
    s.retireLanes.start = s.start ∧ s.retireLanes.prof = s.prof ∧ s.retireLanes.air = s.air ∧
    s.retireLanes.line = s.line ∧ s.retireLanes.pacer = s.pacer ∧ s.retireLanes.bankA = s.bankA ∧
    s.retireLanes.bankB = s.bankB ∧ s.retireLanes.runs = s.runs ∧ s.retireLanes.book = s.book ∧
    s.retireLanes.planner = s.planner ∧ s.retireLanes.panel = s.panel ∧ s.retireLanes.free = s.free ∧
    s.retireLanes.pending = s.pending := by
  simp [State.retireLanes]

@[simp] theorem State.enterRole_frame (s : State) :
    s.enterRole.start = s.start ∧ s.enterRole.prof = s.prof ∧ s.enterRole.lanes = s.lanes ∧
    s.enterRole.bankA = s.bankA ∧ s.enterRole.bankB = s.bankB ∧ s.enterRole.runs = s.runs ∧
    s.enterRole.panel = s.panel ∧ s.enterRole.free = s.free ∧ s.enterRole.pending = s.pending := by
  simp only [State.enterRole]; (repeat' split) <;> simp

@[simp] theorem State.listenEnds_frame (s : State) :
    s.listenEnds.prof = s.prof ∧ s.listenEnds.lanes = s.lanes ∧ s.listenEnds.bankA = s.bankA ∧
    s.listenEnds.bankB = s.bankB ∧ s.listenEnds.runs = s.runs ∧ s.listenEnds.panel = s.panel ∧
    s.listenEnds.free = s.free ∧ s.listenEnds.pending = s.pending := by
  simp only [State.listenEnds]; (repeat' split) <;> simp

@[simp] theorem State.tickClock_frame (s : State) :
    s.tickClock.prof = s.prof ∧ s.tickClock.cnt = s.cnt ∧ s.tickClock.air = s.air ∧ s.tickClock.line = s.line ∧
    s.tickClock.pacer = s.pacer ∧ s.tickClock.lanes = s.lanes ∧ s.tickClock.bankA = s.bankA ∧
    s.tickClock.bankB = s.bankB ∧ s.tickClock.runs = s.runs ∧ s.tickClock.book = s.book ∧
    s.tickClock.planner = s.planner ∧ s.tickClock.panel = s.panel ∧ s.tickClock.pending = s.pending := by
  simp only [State.tickClock]; (repeat' split) <;> simp

@[simp] theorem State.timerUnit_frame (s : State) :
    s.timerUnit.prof = s.prof ∧ s.timerUnit.cnt = s.cnt ∧ s.timerUnit.air = s.air ∧ s.timerUnit.line = s.line ∧
    s.timerUnit.pacer = s.pacer ∧ s.timerUnit.lanes = s.lanes ∧ s.timerUnit.bankA = s.bankA ∧
    s.timerUnit.bankB = s.bankB ∧ s.timerUnit.runs = s.runs ∧ s.timerUnit.book = s.book ∧
    s.timerUnit.panel = s.panel ∧ s.timerUnit.pending = s.pending := by
  simp only [State.timerUnit]; (repeat' split) <;> simp

@[simp] theorem State.takeQuery_frame (s : State) (src : Byte) (payload : List Byte) :
    (s.takeQuery src payload).start = s.start ∧ (s.takeQuery src payload).prof = s.prof ∧
    (s.takeQuery src payload).line = s.line ∧ (s.takeQuery src payload).pacer = s.pacer ∧
    (s.takeQuery src payload).lanes = s.lanes ∧ (s.takeQuery src payload).bankA = s.bankA ∧
    (s.takeQuery src payload).bankB = s.bankB ∧ (s.takeQuery src payload).runs = s.runs ∧
    (s.takeQuery src payload).book = s.book ∧ (s.takeQuery src payload).planner = s.planner ∧
    (s.takeQuery src payload).panel = s.panel ∧ (s.takeQuery src payload).pending = s.pending := by
  simp only [State.takeQuery]; (repeat' split) <;> simp

@[simp] theorem State.trimStopIx_frame (s : State) :
    s.trimStopIx.start = s.start ∧ s.trimStopIx.prof = s.prof ∧ s.trimStopIx.cnt = s.cnt ∧ s.trimStopIx.air = s.air ∧
    s.trimStopIx.line = s.line ∧ s.trimStopIx.pacer = s.pacer ∧ s.trimStopIx.lanes = s.lanes ∧
    s.trimStopIx.bankA = s.bankA ∧ s.trimStopIx.bankB = s.bankB ∧ s.trimStopIx.runs = s.runs ∧
    s.trimStopIx.book = s.book ∧ s.trimStopIx.planner = s.planner ∧ s.trimStopIx.free = s.free ∧
    s.trimStopIx.pending = s.pending := by
  simp only [State.trimStopIx]; (repeat' split) <;> simp

@[simp] theorem State.shiftDisplay_frame (s : State) :
    s.shiftDisplay.start = s.start ∧ s.shiftDisplay.prof = s.prof ∧ s.shiftDisplay.cnt = s.cnt ∧
    s.shiftDisplay.air = s.air ∧ s.shiftDisplay.line = s.line ∧ s.shiftDisplay.pacer = s.pacer ∧
    s.shiftDisplay.lanes = s.lanes ∧ s.shiftDisplay.bankA = s.bankA ∧ s.shiftDisplay.bankB = s.bankB ∧
    s.shiftDisplay.runs = s.runs ∧ s.shiftDisplay.book = s.book ∧ s.shiftDisplay.planner = s.planner ∧
    s.shiftDisplay.free = s.free ∧ s.shiftDisplay.pending = s.pending := by
  simp only [State.shiftDisplay]; (repeat' split) <;> simp

@[simp] theorem State.ackMode_frame (s : State) :
    s.ackMode.start = s.start ∧ s.ackMode.prof = s.prof ∧ s.ackMode.cnt = s.cnt ∧ s.ackMode.air = s.air ∧
    s.ackMode.line = s.line ∧ s.ackMode.pacer = s.pacer ∧ s.ackMode.lanes = s.lanes ∧ s.ackMode.bankA = s.bankA ∧
    s.ackMode.bankB = s.bankB ∧ s.ackMode.runs = s.runs ∧ s.ackMode.book = s.book ∧ s.ackMode.planner = s.planner ∧
    s.ackMode.free = s.free ∧ s.ackMode.pending = s.pending := by
  simp only [State.ackMode]; (repeat' split) <;> simp

@[simp] theorem State.takeAck_frame (s : State) :
    s.takeAck.start = s.start ∧ s.takeAck.prof = s.prof ∧ s.takeAck.cnt = s.cnt ∧ s.takeAck.air = s.air ∧
    s.takeAck.line = s.line ∧ s.takeAck.pacer = s.pacer ∧ s.takeAck.lanes = s.lanes ∧ s.takeAck.bankA = s.bankA ∧
    s.takeAck.bankB = s.bankB ∧ s.takeAck.runs = s.runs ∧ s.takeAck.book = s.book ∧ s.takeAck.planner = s.planner ∧
    s.takeAck.free = s.free ∧ s.takeAck.pending = s.pending := by
  simp only [State.takeAck]; (repeat' split) <;> simp

@[simp] theorem State.handOver_frame (s : State) (f : RxFrame) :
    (s.handOver f).start = s.start ∧ (s.handOver f).prof = s.prof ∧ (s.handOver f).pending = s.pending := by
  simp only [State.handOver]; (repeat' split) <;> simp

@[simp] theorem State.drain_frame (s : State) (fs : List RxFrame) :
    (s.drain fs).start = s.start ∧ (s.drain fs).prof = s.prof ∧ (s.drain fs).pending = s.pending := by
  induction fs generalizing s with
  | nil => simp [State.drain]
  | cons f fs ih => simp only [State.drain]; (repeat' split) <;> simp [ih]

@[simp] theorem State.acceptFrame_frame (s : State) (code src : Byte) (payload : List Byte) :
    (s.acceptFrame code src payload).start = s.start ∧ (s.acceptFrame code src payload).prof = s.prof ∧
    (s.acceptFrame code src payload).pending = s.pending := by
  simp only [State.acceptFrame]; (repeat' split) <;> simp

@[simp] theorem msbFirst_length (x : Byte) : (msbFirst x).length = 8 := by simp [msbFirst]

/-- The bits of a byte in the order the CFG port and the display module are given them (R156, R186). -/
theorem msbFirst_eq (x : Byte) :
    msbFirst x = [x.getLsbD 7, x.getLsbD 6, x.getLsbD 5, x.getLsbD 4, x.getLsbD 3, x.getLsbD 2, x.getLsbD 1,
      x.getLsbD 0] := by simp [msbFirst, List.range_succ, BitVec.getMsbD]

/-- With the receiver off a frame command changes nothing (R168). -/
theorem State.arrives_off {s : State} (h : s.receiving = false) (k : FrameKind) (src : Byte) (payload : List Byte) :
    s.arrives k src payload = s := by simp [State.arrives, h]

@[simp] theorem State.arrives_frame (s : State) (k : FrameKind) (src : Byte) (payload : List Byte) :
    (s.arrives k src payload).start = s.start ∧ (s.arrives k src payload).prof = s.prof ∧
    (s.arrives k src payload).pending = s.pending := by
  simp only [State.arrives]; (repeat' split) <;> simp

@[simp] theorem State.abandonLength_frame (s : State) :
    s.abandonLength.start = s.start ∧ s.abandonLength.prof = s.prof ∧ s.abandonLength.line = s.line ∧
    s.abandonLength.pacer = s.pacer ∧ s.abandonLength.lanes = s.lanes ∧ s.abandonLength.bankA = s.bankA ∧
    s.abandonLength.bankB = s.bankB ∧ s.abandonLength.runs = s.runs ∧ s.abandonLength.book = s.book ∧
    s.abandonLength.planner = s.planner ∧ s.abandonLength.panel = s.panel ∧ s.abandonLength.free = s.free ∧
    s.abandonLength.pending = s.pending := by
  simp [State.abandonLength]

@[simp] theorem State.testFrame_frame (s : State) (len : Byte) (body check : List Byte) :
    (s.testFrame len body check).start = s.start ∧ (s.testFrame len body check).prof = s.prof ∧
    (s.testFrame len body check).pending = s.pending := by
  simp only [State.testFrame]; (repeat' split) <;> simp

@[simp] theorem State.frameComplete_frame (s : State) (bytes : List Byte) :
    (s.frameComplete bytes).start = s.start ∧ (s.frameComplete bytes).prof = s.prof ∧
    (s.frameComplete bytes).pending = s.pending := by
  simp only [State.frameComplete]; (repeat' split) <;> simp

@[simp] theorem State.completeOp_frame (s : State) :
    s.completeOp.start = s.start ∧ s.completeOp.prof = s.prof ∧ s.completeOp.pending = s.pending := by
  simp only [State.completeOp]; (repeat' split) <;> simp

@[simp] theorem State.sampleLine_frame (s : State) (rp : BitVec 12) :
    (s.sampleLine rp).start = s.start ∧ (s.sampleLine rp).prof = s.prof ∧ (s.sampleLine rp).bankA = s.bankA ∧
    (s.sampleLine rp).bankB = s.bankB ∧ (s.sampleLine rp).runs = s.runs ∧ (s.sampleLine rp).planner = s.planner ∧
    (s.sampleLine rp).panel = s.panel ∧ (s.sampleLine rp).pending = s.pending := by
  simp only [State.sampleLine]; (repeat' split) <;> simp

@[simp] theorem State.sampleSensor_frame (sense : BitVec 48) (l : LaneIx) (s : State) (k : Sensor) :
    (s.sampleSensor sense l k).start = s.start ∧ (s.sampleSensor sense l k).prof = s.prof ∧
    (s.sampleSensor sense l k).air = s.air ∧ (s.sampleSensor sense l k).line = s.line ∧
    (s.sampleSensor sense l k).pacer = s.pacer ∧ (s.sampleSensor sense l k).runs = s.runs ∧
    (s.sampleSensor sense l k).planner = s.planner ∧ (s.sampleSensor sense l k).panel = s.panel ∧
    (s.sampleSensor sense l k).free = s.free ∧ (s.sampleSensor sense l k).pending = s.pending := by
  simp only [State.sampleSensor]; (repeat' split) <;> simp

@[simp] theorem State.sampleSensor_foldl_frame (sense : BitVec 48) (l : LaneIx) (xs : List Sensor) (s : State) :
    (xs.foldl (State.sampleSensor sense l) s).start = s.start ∧
    (xs.foldl (State.sampleSensor sense l) s).prof = s.prof ∧ (xs.foldl (State.sampleSensor sense l) s).air = s.air ∧
    (xs.foldl (State.sampleSensor sense l) s).line = s.line ∧
    (xs.foldl (State.sampleSensor sense l) s).pacer = s.pacer ∧
    (xs.foldl (State.sampleSensor sense l) s).runs = s.runs ∧
    (xs.foldl (State.sampleSensor sense l) s).planner = s.planner ∧
    (xs.foldl (State.sampleSensor sense l) s).panel = s.panel ∧
    (xs.foldl (State.sampleSensor sense l) s).free = s.free ∧
    (xs.foldl (State.sampleSensor sense l) s).pending = s.pending := by
  induction xs generalizing s with
  | nil => simp
  | cons x xs ih => simp only [List.foldl_cons, ih]; simp

@[simp] theorem State.sampleLane_frame (sense : BitVec 48) (s : State) (l : LaneIx) :
    (s.sampleLane sense l).start = s.start ∧ (s.sampleLane sense l).prof = s.prof ∧
    (s.sampleLane sense l).air = s.air ∧ (s.sampleLane sense l).line = s.line ∧
    (s.sampleLane sense l).pacer = s.pacer ∧ (s.sampleLane sense l).runs = s.runs ∧
    (s.sampleLane sense l).planner = s.planner ∧ (s.sampleLane sense l).panel = s.panel ∧
    (s.sampleLane sense l).free = s.free ∧ (s.sampleLane sense l).pending = s.pending := by
  simp [State.sampleLane]

@[simp] theorem State.sampleLane_foldl_frame (sense : BitVec 48) (xs : List LaneIx) (s : State) :
    (xs.foldl (State.sampleLane sense) s).start = s.start ∧ (xs.foldl (State.sampleLane sense) s).prof = s.prof ∧
    (xs.foldl (State.sampleLane sense) s).air = s.air ∧ (xs.foldl (State.sampleLane sense) s).line = s.line ∧
    (xs.foldl (State.sampleLane sense) s).pacer = s.pacer ∧ (xs.foldl (State.sampleLane sense) s).runs = s.runs ∧
    (xs.foldl (State.sampleLane sense) s).planner = s.planner ∧
    (xs.foldl (State.sampleLane sense) s).panel = s.panel ∧ (xs.foldl (State.sampleLane sense) s).free = s.free ∧
    (xs.foldl (State.sampleLane sense) s).pending = s.pending := by
  induction xs generalizing s with
  | nil => simp
  | cons x xs ih => simp only [List.foldl_cons, ih]; simp

@[simp] theorem State.presenceChange_frame (s : State) (k : Bank) (level : Bool) :
    (s.presenceChange k level).start = s.start ∧ (s.presenceChange k level).prof = s.prof ∧
    (s.presenceChange k level).cnt = s.cnt ∧ (s.presenceChange k level).air = s.air ∧
    (s.presenceChange k level).line = s.line ∧ (s.presenceChange k level).pacer = s.pacer ∧
    (s.presenceChange k level).runs = s.runs ∧ (s.presenceChange k level).book = s.book ∧
    (s.presenceChange k level).planner = s.planner ∧ (s.presenceChange k level).panel = s.panel ∧
    (s.presenceChange k level).free = s.free ∧ (s.presenceChange k level).pending = s.pending := by
  simp only [State.presenceChange]; (repeat' split) <;> simp

@[simp] theorem State.samplePresence_frame (s : State) (k : Bank) (x : Bool) :
    (s.samplePresence k x).start = s.start ∧ (s.samplePresence k x).prof = s.prof ∧
    (s.samplePresence k x).cnt = s.cnt ∧ (s.samplePresence k x).air = s.air ∧ (s.samplePresence k x).line = s.line ∧
    (s.samplePresence k x).pacer = s.pacer ∧ (s.samplePresence k x).runs = s.runs ∧
    (s.samplePresence k x).planner = s.planner ∧ (s.samplePresence k x).panel = s.panel ∧
    (s.samplePresence k x).free = s.free ∧ (s.samplePresence k x).pending = s.pending := by
  simp only [State.samplePresence]; (repeat' split) <;> simp

@[simp] theorem State.sampleRack_frame (s : State) (pins : Pins) :
    (s.sampleRack pins).start = s.start ∧ (s.sampleRack pins).prof = s.prof ∧ (s.sampleRack pins).air = s.air ∧
    (s.sampleRack pins).line = s.line ∧ (s.sampleRack pins).pacer = s.pacer ∧ (s.sampleRack pins).runs = s.runs ∧
    (s.sampleRack pins).planner = s.planner ∧ (s.sampleRack pins).panel = s.panel ∧
    (s.sampleRack pins).free = s.free ∧ (s.sampleRack pins).pending = s.pending := by
  simp [State.sampleRack]

@[simp] theorem State.sampleStop_frame (s : State) (rp : BitVec 12) :
    (s.sampleStop rp).start = s.start ∧ (s.sampleStop rp).prof = s.prof ∧ (s.sampleStop rp).cnt = s.cnt ∧
    (s.sampleStop rp).air = s.air ∧ (s.sampleStop rp).line = s.line ∧ (s.sampleStop rp).pacer = s.pacer ∧
    (s.sampleStop rp).lanes = s.lanes ∧ (s.sampleStop rp).bankA = s.bankA ∧ (s.sampleStop rp).bankB = s.bankB ∧
    (s.sampleStop rp).runs = s.runs ∧ (s.sampleStop rp).book = s.book ∧ (s.sampleStop rp).panel = s.panel ∧
    (s.sampleStop rp).free = s.free ∧ (s.sampleStop rp).pending = s.pending := by
  simp [State.sampleStop]

@[simp] theorem State.sampleStrobe_frame (s : State) (x : Bool) :
    (s.sampleStrobe x).start = s.start ∧ (s.sampleStrobe x).prof = s.prof ∧ (s.sampleStrobe x).line = s.line ∧
    (s.sampleStrobe x).pacer = s.pacer ∧ (s.sampleStrobe x).bankA = s.bankA ∧ (s.sampleStrobe x).bankB = s.bankB ∧
    (s.sampleStrobe x).runs = s.runs ∧ (s.sampleStrobe x).pending = s.pending := by
  simp only [State.sampleStrobe]; (repeat' split) <;> simp

@[simp] theorem State.sampleLoad_frame (s : State) (x : Bool) :
    (s.sampleLoad x).start = s.start ∧ (s.sampleLoad x).prof = s.prof ∧ (s.sampleLoad x).line = s.line ∧
    (s.sampleLoad x).pacer = s.pacer ∧ (s.sampleLoad x).bankA = s.bankA ∧ (s.sampleLoad x).bankB = s.bankB ∧
    (s.sampleLoad x).runs = s.runs ∧ (s.sampleLoad x).free = s.free ∧ (s.sampleLoad x).pending = s.pending := by
  simp only [State.sampleLoad]; (repeat' split) <;> simp

@[simp] theorem State.sampleGo_frame (s : State) (x : Bool) :
    (s.sampleGo x).start = s.start ∧ (s.sampleGo x).prof = s.prof ∧ (s.sampleGo x).line = s.line ∧
    (s.sampleGo x).pacer = s.pacer ∧ (s.sampleGo x).bankA = s.bankA ∧ (s.sampleGo x).bankB = s.bankB ∧
    (s.sampleGo x).runs = s.runs ∧ (s.sampleGo x).free = s.free ∧ (s.sampleGo x).pending = s.pending := by
  simp only [State.sampleGo]; (repeat' split) <;> simp

@[simp] theorem State.sampleHold_frame (s : State) (x : Bool) :
    (s.sampleHold x).start = s.start ∧ (s.sampleHold x).prof = s.prof ∧ (s.sampleHold x).line = s.line ∧
    (s.sampleHold x).pacer = s.pacer ∧ (s.sampleHold x).bankA = s.bankA ∧ (s.sampleHold x).bankB = s.bankB ∧
    (s.sampleHold x).runs = s.runs ∧ (s.sampleHold x).free = s.free ∧ (s.sampleHold x).pending = s.pending := by
  simp only [State.sampleHold]; (repeat' split) <;> simp

@[simp] theorem State.sampleAck_frame (s : State) (x : Bool) :
    (s.sampleAck x).start = s.start ∧ (s.sampleAck x).prof = s.prof ∧ (s.sampleAck x).cnt = s.cnt ∧
    (s.sampleAck x).air = s.air ∧ (s.sampleAck x).line = s.line ∧ (s.sampleAck x).pacer = s.pacer ∧
    (s.sampleAck x).bankA = s.bankA ∧ (s.sampleAck x).bankB = s.bankB ∧ (s.sampleAck x).runs = s.runs ∧
    (s.sampleAck x).free = s.free ∧ (s.sampleAck x).pending = s.pending := by
  simp only [State.sampleAck]; (repeat' split) <;> simp

@[simp] theorem State.sampleTrain_frame (s : State) (rp : BitVec 12) :
    (s.sampleTrain rp).start = s.start ∧ (s.sampleTrain rp).prof = s.prof ∧ (s.sampleTrain rp).line = s.line ∧
    (s.sampleTrain rp).pacer = s.pacer ∧ (s.sampleTrain rp).bankA = s.bankA ∧ (s.sampleTrain rp).bankB = s.bankB ∧
    (s.sampleTrain rp).runs = s.runs ∧ (s.sampleTrain rp).pending = s.pending := by
  simp [State.sampleTrain]

@[simp] theorem State.samplePins_frame (s : State) (pins : Pins) :
    (s.samplePins pins).start = s.start ∧ (s.samplePins pins).prof = s.prof ∧ (s.samplePins pins).runs = s.runs ∧
    (s.samplePins pins).pending = s.pending := by
  simp only [State.samplePins]; (repeat' split) <;> simp

end Sys2Proof.Machine
end

