-- ==== Sys2Proof/Laws/Lanes.lean ====
section
/-! SUPPORT. What the shared operations over lanes do, lane by lane: the loading face, forecasts, moves and the end of an
event. -/

namespace Sys2Proof.Machine

/-- A lane record but for its loading face: staged value, fresh mark and shown value. -/
def LaneRec.sansFace (r : LaneRec) : LaneRec := { r with staged := .off, fresh := false, shown := .off }

/-- A lane record but for its forecast and call condition. -/
def LaneRec.sansForecast (r : LaneRec) : LaneRec := { r with forecast := none, cond := false }

/-! ## Views follow from each other -/

/-- Records equal but for the face have the same stock, delivery and every other field. -/
theorem LaneRec.of_sansFace {r r' : LaneRec} (h : r.sansFace = r'.sansFace) :
    r.stock = r'.stock ∧ r.delivery = r'.delivery ∧ r.present = r'.present ∧ r.cfg = r'.cfg ∧ r.call = r'.call ∧
    r.surplus = r'.surplus ∧ r.shortBins = r'.shortBins ∧ r.forecast = r'.forecast ∧ r.cond = r'.cond ∧
    r.overfill = r'.overfill ∧ r.moved = r'.moved ∧ r.atRisk = r'.atRisk := by
  cases r; cases r'; simp [LaneRec.sansFace] at h; simp [LaneRec.stock, LaneRec.delivery, h]

/-- Records equal but for AT-RISK and the moved mark have the same stock, delivery and every other field. -/
theorem LaneRec.of_steady {r r' : LaneRec} (h : r.steady = r'.steady) :
    r.stock = r'.stock ∧ r.delivery = r'.delivery ∧ r.present = r'.present ∧ r.cfg = r'.cfg ∧ r.call = r'.call ∧
    r.surplus = r'.surplus ∧ r.shortBins = r'.shortBins ∧ r.forecast = r'.forecast ∧ r.cond = r'.cond ∧
    r.overfill = r'.overfill ∧ r.staged = r'.staged ∧ r.fresh = r'.fresh ∧ r.shown = r'.shown := by
  cases r; cases r'; simp [LaneRec.steady] at h; simp [LaneRec.stock, LaneRec.delivery, h]

/-- Records equal but for the forecast have the same stock, delivery and face. -/
theorem LaneRec.of_sansForecast {r r' : LaneRec} (h : r.sansForecast = r'.sansForecast) :
    r.stock = r'.stock ∧ r.delivery = r'.delivery ∧ r.present = r'.present ∧ r.cfg = r'.cfg ∧ r.call = r'.call ∧
    r.surplus = r'.surplus ∧ r.shortBins = r'.shortBins ∧ r.overfill = r'.overfill ∧ r.staged = r'.staged ∧
    r.fresh = r'.fresh ∧ r.shown = r'.shown := by
  cases r; cases r'; simp [LaneRec.sansForecast] at h; simp [LaneRec.stock, LaneRec.delivery, h]

/-! ## The loading face (R150 to R154) -/

@[simp] theorem LaneRec.commit_sansFace (r : LaneRec) : r.commit.sansFace = r.sansFace := by
  simp only [LaneRec.commit]; split <;> rfl

/-- Changing lanes changes no bank. -/
@[simp] theorem State.mapLanes_bank (s : State) (f : LaneIx → LaneRec → LaneRec) (k : Bank) :
    (s.mapLanes f).bank k = s.bank k :=
  State.bank_congr (State.mapLanes_bankA ..) (State.mapLanes_bankB ..) k

/-- A trigger commits the lanes of its bank and leaves the others. -/
theorem State.trigger_lane (s : State) (k : Bank) (l : LaneIx) :
    (s.trigger k).lane l = if bankOf l = k then (s.lane l).commit else s.lane l := by
  rw [State.trigger, State.lane_congr (State.modBank_lanes ..), State.lane_mapLanes]

/-- A trigger opens the face of its bank and leaves the other bank. -/
theorem State.trigger_bank (s : State) (k j : Bank) :
    (s.trigger k).bank j = if j = k then { s.bank k with faceOpen := true } else s.bank j := by
  rw [State.trigger, State.bank_modBank, State.mapLanes_bank, State.mapLanes_bank]

/-- A close darkens the lanes of its bank and leaves the others. -/
theorem State.closeFace_lane (s : State) (k : Bank) (l : LaneIx) :
    (s.closeFace k).lane l = if bankOf l = k then (s.lane l).darken (s.bank k).faceOpen else s.lane l := by
  rw [State.closeFace, State.lane_congr (State.modBank_lanes ..), State.lane_mapLanes]

/-- A close closes the face of its bank and leaves the other bank. -/
theorem State.closeFace_bank (s : State) (k j : Bank) :
    (s.closeFace k).bank j = if j = k then { s.bank k with faceOpen := false } else s.bank j := by
  rw [State.closeFace, State.bank_modBank, State.mapLanes_bank, State.mapLanes_bank]

/-- A staged value formed again changes nothing of any lane but its face. -/
@[simp] theorem State.restage_sansFace (s : State) (l m : LaneIx) :
    ((s.restage l).lane m).sansFace = (s.lane m).sansFace := by
  simp only [State.restage]
  split
  · rfl
  · split
    · rw [State.lane_setLane]; split
      · subst m; rfl
      · rfl
    · split
      · rw [State.trigger_lane]
        split <;> (try rw [LaneRec.commit_sansFace]) <;> (rw [State.lane_setLane]; split)
        all_goals first | (subst m; rfl) | rfl
      · rw [State.lane_setLane]; split
        · subst m; rfl
        · rfl

/-- A staged value formed again changes nothing of a bank but its face state. -/
theorem State.restage_bank (s : State) (l : LaneIx) (k : Bank) :
    { (s.restage l).bank k with faceOpen := (s.bank k).faceOpen } = s.bank k := by
  simp only [State.restage]
  split
  · rfl
  · split
    · rw [State.bank_congr (t := s.setLane _ _) (s := s) rfl rfl]
    · split
      · rw [State.trigger_bank]; split
        · subst k; rw [State.bank_congr (t := s.setLane _ _) (s := s) rfl rfl]
        · rw [State.bank_congr (t := s.setLane _ _) (s := s) rfl rfl]
      · rw [State.bank_congr (t := s.setLane _ _) (s := s) rfl rfl]

/-- Another bank's lanes keep their face when a staged value is formed again. -/
theorem State.restage_lane_other (s : State) {l m : LaneIx} (h : bankOf m ≠ bankOf l) :
    (s.restage l).lane m = s.lane m := by
  have hne : m ≠ l := fun e => h (e ▸ rfl)
  simp only [State.restage]
  split
  · rfl
  · split
    · exact State.lane_setLane_ne s hne _
    · split
      · rw [State.trigger_lane, if_neg h]; exact State.lane_setLane_ne s hne _
      · exact State.lane_setLane_ne s hne _

/-! ## Moves of lanes (R81) -/

/-- A move's request leaves the lanes and the banks. -/
theorem State.moveLane_cells (s : State) (l : LaneIx) (f : LaneRec → LaneRec) (m : LaneIx) (k : Bank) :
    (s.moveLane l f).lane m = ((s.modLane l fun r => { f r with moved := true }).restage l).lane m ∧
    (s.moveLane l f).bank k = ((s.modLane l fun r => { f r with moved := true }).restage l).bank k := by
  simp only [State.moveLane]
  split <;> exact ⟨rfl, by cases k <;> rfl⟩

/-- A moved lane takes the change and the moved mark; nothing else of any lane changes but faces. -/
theorem State.moveLane_sansFace (s : State) (l m : LaneIx) (f : LaneRec → LaneRec) :
    ((s.moveLane l f).lane m).sansFace =
      if m = l then ({ f (s.lane l) with moved := true } : LaneRec).sansFace else (s.lane m).sansFace := by
  rw [(s.moveLane_cells l f m .a).1, State.restage_sansFace, State.lane_modLane]; split <;> rfl

/-- A move leaves the lanes of the other bank. -/
theorem State.moveLane_lane_other (s : State) {l m : LaneIx} (f : LaneRec → LaneRec) (h : bankOf m ≠ bankOf l) :
    (s.moveLane l f).lane m = s.lane m := by
  have hne : m ≠ l := fun e => h (e ▸ rfl)
  rw [(s.moveLane_cells l f m .a).1, State.restage_lane_other _ h, State.lane_modLane, if_neg hne]

/-- A move changes nothing of a bank but its face state. -/
theorem State.moveLane_bank (s : State) (l : LaneIx) (f : LaneRec → LaneRec) (k : Bank) :
    { (s.moveLane l f).bank k with faceOpen := (s.bank k).faceOpen } = s.bank k := by
  have h := State.restage_bank (s.modLane l fun r => { f r with moved := true }) l k
  rwa [State.bank_congr (t := s.modLane _ _) (s := s) rfl rfl, ← (s.moveLane_cells l f l k).2] at h

/-! ## Forecasts (R43 to R51) -/

/-- A forecast changes the record of its lane, and of that the forecast and the condition alone. -/
theorem State.forecastLane_lane (s : State) (l m : LaneIx) :
    (s.forecastLane l).lane m =
      if m = l ∧ (s.lane l).present = true ∧ s.synced = true then
        { s.lane l with forecast := some (s.forecastOf (s.lane l)),
                        cond := s.condOf (s.lane l) (s.forecastOf (s.lane l)) }
      else s.lane m := by
  simp only [State.forecastLane]
  by_cases hp : (s.lane l).present = true <;> by_cases hs : s.synced = true <;> by_cases hm : m = l <;>
    simp [hp, hs, hm]
  all_goals split <;> simp [State.lane_setLane, hm, State.lane_congr (State.ask_lanes _)]

/-- A forecast leaves the entries, the operation and the timers of the book. -/
theorem State.forecastLane_book (s : State) (l : LaneIx) :
    { (s.forecastLane l).book with asked := s.book.asked } = s.book := by
  simp only [State.forecastLane]
  split
  · split <;> rfl
  · rfl

/-- Forecasting lanes one after another leaves all of every lane but forecasts. -/
theorem State.forecastLane_foldl_sansForecast (ls : List LaneIx) (s : State) (m : LaneIx) :
    ((ls.foldl State.forecastLane s).lane m).sansForecast = (s.lane m).sansForecast := by
  induction ls generalizing s with
  | nil => rfl
  | cons l ls ih =>
    rw [List.foldl_cons, ih, State.forecastLane_lane]
    split
    · rename_i h; rw [h.1]; rfl
    · rfl

/-- A forecast of every present lane leaves all of every lane but forecasts. -/
theorem State.forecastAll_sansForecast (s : State) (m : LaneIx) :
    (s.forecastAll.lane m).sansForecast = (s.lane m).sansForecast := State.forecastLane_foldl_sansForecast ..

/-! ## The end of an event (R78, R149) -/

/-- An operation's start leaves every lane but for the moved mark. -/
theorem State.startOp_lane (s : State) (cs : Option ClaimSet) (l : LaneIx) :
    (s.startOp cs).lane l = { s.lane l with moved := false } := by
  simp [State.startOp, State.lane, State.mapLanes]

/-- What an operation's start leaves of the book (R79). -/
theorem State.startOp_book (s : State) (cs : Option ClaimSet) :
    ∃ op, (s.startOp cs).book =
        { s.book with op := some op, pendingMark := false, refreshDue := false, copies := s.newCopies } ∧
      op.claimset = cs ∧ op.refresh = s.book.refreshDue ∧ op.n = s.line.n ∧ op.runs = s.runs ∧
      op.entries = s.book.entries :=
  ⟨_, rfl, rfl, rfl, rfl, rfl, rfl⟩

/-- Without a request the marks of an event are down already. -/
theorem State.unasked (s : State) (ha : s.book.asked = false) (hr : s.book.askedRefresh = false) :
    { s with book.asked := false, book.askedRefresh := false,
             book.refreshDue := s.book.refreshDue || false } = s := by
  rw [Bool.or_false]
  have : s.book = { s.book with asked := false, askedRefresh := false, refreshDue := s.book.refreshDue } := by
    conv_lhs => rw [show s.book = { s.book with asked := s.book.asked, askedRefresh := s.book.askedRefresh } from rfl]
    rw [ha, hr]
  exact congrArg (fun b => { s with book := b }) this.symm

/-- What taking up the requests of an event can do: nothing to an idle book that none was made to, a start, or marks
(R78, R95). -/
theorem State.takeRequests_cases (s : State) :
    (s.book.asked = false ∧ s.book.askedRefresh = false ∧ s.takeRequests = s) ∨
    (s.busy = false ∧
      s.takeRequests =
        State.startOp
          { s with book.asked := false, book.askedRefresh := false,
                   book.refreshDue := s.book.refreshDue || s.book.askedRefresh } none) ∨
    (s.busy = true ∧ s.takeRequests =
      { s with book.asked := false, book.askedRefresh := false,
               book.refreshDue := s.book.refreshDue || s.book.askedRefresh,
               book.pendingMark := s.book.pendingMark || s.book.asked }) := by
  unfold State.takeRequests
  rcases ha : s.book.asked with _ | _ <;> rcases hr : s.book.askedRefresh with _ | _ <;>
    rcases hb : s.busy with _ | _ <;> simp
  exact .inl (by simpa using s.unasked ha hr)

/-- Taking up the requests of an event leaves every lane but for the moved mark. -/
theorem State.takeRequests_steady (s : State) (l : LaneIx) : (s.takeRequests.lane l).steady = (s.lane l).steady := by
  rcases s.takeRequests_cases with ⟨-, -, h⟩ | ⟨-, h⟩ | ⟨-, h⟩
  · rw [h]
  · rw [h, State.startOp_lane]; rfl
  · rw [h]; rfl

/-- Taking up the requests leaves the entries, the refresh timer and the last claim set queued. -/
theorem State.takeRequests_book (s : State) :
    s.takeRequests.book.entries = s.book.entries ∧ s.takeRequests.book.refresh = s.book.refresh ∧
    s.takeRequests.book.lastSet = s.book.lastSet := by
  rcases s.takeRequests_cases with ⟨-, -, h⟩ | ⟨-, h⟩ | ⟨-, h⟩ <;> rw [h] <;> exact ⟨rfl, rfl, rfl⟩

/-- The end of an event leaves every lane but for AT-RISK and the moved mark. -/
@[simp] theorem State.endEvent_steady (s : State) (l : LaneIx) : (s.endEvent.lane l).steady = (s.lane l).steady := by
  rw [State.endEvent, State.refreshRisk, State.lane_mapLanes]
  exact State.takeRequests_steady s l

/-- The end of an event leaves the entries, the refresh timer and the last claim set queued. -/
@[simp] theorem State.endEvent_book (s : State) :
    s.endEvent.book.entries = s.book.entries ∧ s.endEvent.book.refresh = s.book.refresh ∧
    s.endEvent.book.lastSet = s.book.lastSet := by
  rw [State.endEvent, State.refreshRisk, State.mapLanes_book]
  exact State.takeRequests_book s

/-- The end of an event leaves stock, deliveries, totals and faces. -/
theorem State.endEvent_lane (s : State) (l : LaneIx) :
    (s.endEvent.lane l).stock = (s.lane l).stock ∧ (s.endEvent.lane l).delivery = (s.lane l).delivery ∧
    (s.endEvent.lane l).present = (s.lane l).present ∧ (s.endEvent.lane l).cfg = (s.lane l).cfg ∧
    (s.endEvent.lane l).call = (s.lane l).call ∧ (s.endEvent.lane l).surplus = (s.lane l).surplus ∧
    (s.endEvent.lane l).shortBins = (s.lane l).shortBins ∧ (s.endEvent.lane l).forecast = (s.lane l).forecast ∧
    (s.endEvent.lane l).cond = (s.lane l).cond ∧ (s.endEvent.lane l).overfill = (s.lane l).overfill ∧
    (s.endEvent.lane l).staged = (s.lane l).staged ∧ (s.endEvent.lane l).fresh = (s.lane l).fresh ∧
    (s.endEvent.lane l).shown = (s.lane l).shown :=
  LaneRec.of_steady (s.endEvent_steady l)

/-- A busy book stays on its operation at the end of an event; an idle one that was asked starts one. -/
theorem State.endEvent_op (s : State) :
    (s.busy = true → s.endEvent.book.op = s.book.op ∧
      s.endEvent.book.refreshDue = (s.book.refreshDue || s.book.askedRefresh) ∧
      s.endEvent.book.pendingMark = (s.book.pendingMark || s.book.asked)) ∧
    (s.busy = false → (s.book.asked = true ∨ s.book.askedRefresh = true) →
      ∃ op, s.endEvent.book.op = some op ∧ op.refresh = (s.book.refreshDue || s.book.askedRefresh) ∧
        op.entries = s.book.entries ∧ op.claimset = none) ∧
    (s.busy = false → s.book.asked = false → s.book.askedRefresh = false → s.endEvent.book = s.book) := by
  rw [State.endEvent, State.refreshRisk, State.mapLanes_book]
  unfold State.takeRequests
  refine ⟨fun h => ?_, fun h ha => ?_, fun h ha hr => ?_⟩
  · rcases ha : s.book.asked with _ | _ <;> rcases hr : s.book.askedRefresh with _ | _ <;> simp [h]
  · rcases ha with ha | ha <;> simp [h, ha, State.startOp]
  · simp [ha, hr]; cases hb : s.book; simp_all

end Sys2Proof.Machine
end

