-- ==== Sys2Proof/WellFormed.lean ====
section
/-! DEFINITION. Commands that a sender can form: the operands lie in the ranges that the frames and the memory allow. A
command outside them still has a meaning; it stands for nothing that can happen on the pins. -/

namespace Sys2Proof

/-- A payload holds 0..248 bytes (R165). -/
def payloadFits (payload : List Byte) : Bool := decide (payload.length ≤ 248)

/-- The bytes after SYNC are one whole frame: LEN in 2..250, and LEN + 2 bytes after it (R165). -/
def frameFits : List Byte → Bool
  | [] => false
  | len :: rest => decide (2 ≤ len.toNat ∧ len.toNat ≤ 250 ∧ rest.length = len.toNat + 2)

/-- The command can be formed by a sender. -/
def Instr.wf : Instr → Bool
  | .powerOnStart _ _ => true
  | .pinReset _ _ => true
  | .resetnLow => true
  | .profileReadEnd image => decide (image.length ≤ 2048)
  | .listenPeriodEnd => true
  | .taktEdge => true
  | .keepaliveTimerExpiry => true
  | .unit _ payload => payloadFits payload
  | .silenceTimerExpiry => true
  | .feedEvent _ => true
  | .emptyEvent _ => true
  | .reserveEvent _ => true
  | .sensorFallingChange _ _ => true
  | .runNotice _ payload => payloadFits payload
  | .runAgeingExpiry _ => true
  | .manifestPart _ payload => payloadFits payload
  | .manifestWaitExpiry _ => true
  | .claimset _ payload => payloadFits payload
  | .bookOperationCompletion => true
  | .peerEntryAgeingExpiry station _ => decide (1 ≤ station ∧ station ≤ 126)
  | .refreshTimerExpiry => true
  | .arrive _ payload => payloadFits payload
  | .depart _ payload => payloadFits payload
  | .receipt _ payload => payloadFits payload
  | .receiptTimerExpiry _ => true
  | .loadPress => true
  | .goPress => true
  | .holdPress => true
  | .arrivalStrobe => true
  | .trainRefreshExpiry => true
  | .ack => true
  | .presenceRise _ => true
  | .presenceFall _ => true
  | .lampFrame => true
  | .displayFrame => true
  | .frameComplete bytes => frameFits bytes
  | .lengthAbandon len => decide (len.toNat < 2 ∨ 250 < len.toNat)
  | .byteGapTimeout => true
  | .lowStopBit => true
  | .query _ payload => payloadFits payload
  | .carrierRise => true
  | .carrierFall => true
  | .sendStart => true
  | .sendEnd => true
  | .timerUnit => true
  | .syncByte => true
  | .inputSample _ => true

end Sys2Proof
end

