-- ==== Sys2Proof/Tests/Slice0.lean ====
section
/-! SUPPORT. The model's own tests: the checks of WellFormed, cases worked in the manual, and for every statement with
hypotheses a concrete case that meets them. -/

set_option Elab.async false

namespace Sys2Proof.Tests

open Sys2Proof Sys2Proof.Machine

/-! ## Commands a sender cannot form -/

theorem test_wf_refuses_long_payload : (Instr.query 127 (List.replicate 249 0)).wf = false := by decide +kernel

theorem test_wf_refuses_long_payload_of_every_frame :
    ([.unit 3, .runNotice 3, .manifestPart 3, .claimset 3, .arrive 3, .depart 3, .receipt 3].all
      fun c : List Byte → Instr => !(c (List.replicate 249 0)).wf && (c (List.replicate 248 0)).wf) = true := by
  decide +kernel

theorem test_wf_refuses_large_image : (Instr.profileReadEnd (List.replicate 2049 0)).wf = false := by decide +kernel

theorem test_wf_refuses_length_out_of_range : (Instr.frameComplete [1, 0x2E, 7, 0]).wf = false := by decide

theorem test_wf_refuses_cut_frame : (Instr.frameComplete [4, 0x2E, 127, 7, 0, 0]).wf = false := by decide

theorem test_wf_takes_whole_frame : (Instr.frameComplete [4, 0x2E, 127, 7, 0, 0, 0]).wf = true := by decide

theorem test_wf_refuses_abandon_of_good_length : (Instr.lengthAbandon 250).wf = false := by decide

theorem test_wf_refuses_peer_at_no_address :
    (Instr.peerEntryAgeingExpiry 0 3).wf = false ∧ (Instr.peerEntryAgeingExpiry 127 3).wf = false := by decide

/-- No row of the table has bits, so no word spells a command. -/
theorem test_no_word_spells_a_command : decodeTableWord 8 0x21 = none ∧ State.reset.withFetchWord 8 0x21 = State.reset :=
  ⟨rfl, rfl⟩

/-! ## Small states -/

/-- The next state of a command. -/
def after (c : Instr) (s : State) : State :=
  match exec c s with
  | .next t => t
  | .fault e => nomatch e
  | .refused _ => s

/-- The state after these commands in turn. -/
def afterAll (cs : List Instr) (s : State) : State := cs.foldl (fun t c => after c t) s

/-- A station of this role and address, ACTIVE at station clock 1000. -/
def station (role : Role) (own : BitVec 7) : State :=
  { State.reset with
    start := { State.reset.start with resetLow := false, state := .active, role, own, clock := 1000 }
    prof := { Profile.blank with
      d := 96, gap := 4, tRefresh := 50, tSilence := 150, p := 12, stopA := 4, stopB := 9, localB := true,
      caps := ⟨8, 12, 8, 8⟩, loadTime := 600, tReturn := 300, tReceipt := 50,
      route := [⟨4, 2350⟩, ⟨9, 3700⟩, ⟨11, 4600⟩], taktNom := 550, taktMin := 500, taktMax := 600, tKeep := 30 }
    air := { Air.fresh false own with quiet := some 0 } }

/-- A usage table of 64 variants: 2 for variant 5, 4 for variant 9, 5 for variant 7 and 0 for the others. -/
def usage : List Nat :=
  (List.range 64).map fun v => if v = 5 then 2 else if v = 9 then 4 else if v = 7 then 5 else 0

/-- The profile part of the lane worked in Section 2.7. -/
def cfg3 : LaneCfg :=
  { q := 24, binsMax := 3, startBins := 2, cls := 1, slot := 2, horizon := 20, safety := 2, du := 3, usage }

/-- That lane with B = 2 and S = 30. -/
def lane3 : LaneRec := { LaneRec.cleared with cfg := cfg3, present := true, b := 2, s := 30, uncounted := true }

/-- The rack of Section 1.6 with that lane, before any pacer is heard. -/
def rack : State := (station .rack 7).setLane 3 lane3

/-- A UNIT frame from the pacer at address 3. -/
def unit3 (n : BitVec 16) (v3 v2 v1 v0 : Byte) : Instr := .unit 3 (writeUnit ⟨n, 550, v3, v2, v1, v0⟩)

/-- That rack after the adoption of Section 1.6. -/
def adopted : State := after (unit3 1011 9 9 5 9) rack

/-- The stock figures of lane 3. -/
def stock3 (s : State) : Nat × Nat × Int := ((s.lane 3).b, (s.lane 3).s, (s.lane 3).drift)

/-- A run of train 12 in this state. -/
def run11 (state : RunState) (present : Option Nat) : Run :=
  { id := 0x0C11, state, served := [false, false, false], present, revisit := false, loadMark := 0, holdStart := none,
    opened := 0 }

/-- A manifest entry of 2 bins at stop 9 for lane 9 of station 5. -/
def entry9 : ManifestEntry :=
  { station := 5, lane := 9, stop := 9, cls := 1, size := 4, bins := 2, late := false, delivered := 0,
    status := .pending }

/-- A train at address 12 whose current slot holds this run. -/
def train (state : RunState) (present : Option Nat) : State :=
  let s := station .train 12
  { s with
    line := { s.line with followed := some 3, state := .tracking, n := 1011, takt := 550, silence := some 1150 }
    planner := { s.planner with
      current := some (run11 state present), manifest := [entry9], nextRun := 0x12, stopIn := ⟨some 9, some 9⟩ } }

/-- A pacer in this pacer state. -/
def pacer (state : PacerState) : State :=
  let s := station .pacer 3
  { s with pacer := { s.pacer with
      state, nLocal := 1010, measured := 550, prevEdge := some 450, keepalive := some 1000,
      variantIn := ⟨some 9, some 9⟩, validIn := ⟨some true, some true⟩ } }

/-- The record of run 0x0C11 at the rack, with its ETA_LC at stop 4. -/
def rec11 (state : RunState) : RunRec :=
  { id := 0x0C11, state, caps := ⟨8, 12, 8, 8⟩, stopA := some ⟨1016, false⟩, stopB := none, lastHeard := 850, mask := 0,
    partCount := none, wait := .running 1000, settled := false }

/-- A RUN notice of run 0x0C11 in this state, calling at stop 4. -/
def notice11 (state : NoticeState) : RunNotice := ⟨0x0C11, state, ⟨8, 12, 8, 8⟩, [⟨4, false, 1016⟩]⟩

/-- An image closed by its CRC (Section 10.3). -/
def closed (body : List Byte) : List Byte := body ++ bytes2 (crc body)

/-- The image of a PACER with the clamped fields of Section 10.7. -/
def pacerImage : List Byte :=
  closed ([0xE5, 0x16, 1, 2] ++ le2 21 ++ le2 0 ++ [4, 0] ++ le2 700 ++ le2 400 ++ le2 900 ++ le2 1500 ++ [5])

/-- The image of a TRAIN with one route stop. -/
def trainImage : List Byte :=
  closed ([0xE5, 0x16, 1, 1] ++ le2 28 ++ le2 96 ++ [4, 50] ++ le2 150 ++ [63, 64, 0, 1] ++ le2 600 ++ le2 300 ++ le2 50 ++
    [1, 9] ++ le2 3700)

/-- The record of a lane of this Q, binsMax and start bins. -/
def laneRecord (q bins start : Byte) : List Byte := [q, 0, bins, start, 1, 2, 20, 2, 3] ++ List.replicate 32 0

/-- The record of an absent lane. -/
def absent : List Byte := List.replicate 41 0

/-- The header and the station fields of a RACK image. -/
def rackHead : List Byte :=
  [0xE5, 0x16, 1, 0] ++ le2 674 ++ le2 96 ++ [4, 50] ++ le2 150 ++ [12, 4, 9, 0]

/-- A RACK image before its CRC: lane 5 and lane 12 as Section 2.7 gives them after the pin reset. -/
def rackBody : List Byte :=
  rackHead ++ absent ++ absent ++ absent ++ absent ++ absent ++ laneRecord 12 2 1 ++ absent ++ absent ++ absent ++
    absent ++ absent ++ absent ++ laneRecord 30 3 1 ++ absent ++ absent ++ absent

/-- The RACK image. -/
def rackImage : List Byte := rackBody ++ bytes2 61273

/-- A station of this role in LOAD after a start of this cause, holding lane 5 of Section 2.7. -/
def loading (role : Role) (cause : StartCause) : State :=
  let s := (station role 7).setLane 5 { lane3 with b := 3, s := 50, drift := 40, uncounted := false }
  { s with start := { s.start with state := .load, cause } }

/-! ## Starts (Section 10) -/

theorem test_power_on_seeds_random_register :
    (after (.powerOnStart 0 7) State.reset).air.random = 0x0707 ∧
    (after (.powerOnStart 0 7) State.reset).start.state = .load := by decide +kernel

/-- R186: the memory is selected in LOAD alone, and sent the read instruction 0x03 and the address 0. -/
theorem test_cfg_selects_in_load :
    (loading .rack .pin).cfgSelect = false ∧ rack.cfgSelect = true ∧
      cfgBits = List.replicate 6 false ++ [true, true] ++ List.replicate 16 false := by decide +kernel

/-- R162: the display is blank after both starts. -/
theorem test_display_blank_after_start :
    let t := after .displayFrame (train .enroute none)
    (after (.pinReset 1 12) t).panel.display = List.replicate 40 0x20 ∧ t.panel.display ≠ List.replicate 40 0x20 := by
  decide +kernel

/-- R156: the first character of FAULT, most significant bit first, of 320 bits. -/
theorem test_display_bits_of_fault :
    let t := after .displayFrame { station .train 12 with start.state := .fault, start.faultCause := .badCheck }
    t.displayBits.take 8 = [false, true, false, false, false, true, true, false] ∧ t.displayBits.length = 320 := by
  decide +kernel

theorem test_power_on_bad_straps :
    (after (.powerOnStart 3 7) State.reset).start.faultCause = .badStraps ∧
    (after (.powerOnStart 1 127) State.reset).start.state = .fault := by decide +kernel

theorem test_pin_reset_keeps_stock : stock3 (after (.pinReset 0 7) rack) = (2, 30, 0) := by decide +kernel

theorem test_resetn_low_cuts_frame_short :
    (after .resetnLow { rack with air.tx := some ⟨[0xB5], 2⟩ }).key = false := by decide +kernel

/-- Section 10.7, a profile with clamped fields: the clamped-field count is 5. -/
theorem test_pacer_profile_clamps_five_fields :
    let t := after (.profileReadEnd pacerImage) (loading .pacer .powerOn)
    t.start.state = .listen ∧ t.start.clamped = 5 ∧ t.prof.d = 1 ∧ t.prof.tRefresh = 50 ∧ t.prof.tSilence = 600 ∧
      t.prof.taktMax = 1200 ∧ t.prof.taktMin = 900 ∧ t.prof.taktNom = 900 ∧ t.prof.tKeep = 10 := by decide +kernel

theorem rackBody_crc : crc rackBody = 61273 := by
  have h0 : rackHead.foldl crcByte 65535 = 5714 := by decide +kernel
  have h1 : absent.foldl crcByte 5714 = 30103 := by decide +kernel
  have h2 : absent.foldl crcByte 30103 = 14835 := by decide +kernel
  have h3 : absent.foldl crcByte 14835 = 9199 := by decide +kernel
  have h4 : absent.foldl crcByte 9199 = 28282 := by decide +kernel
  have h5 : absent.foldl crcByte 28282 = 19704 := by decide +kernel
  have h6 : (laneRecord 12 2 1).foldl crcByte 19704 = 43258 := by decide +kernel
  have h7 : absent.foldl crcByte 43258 = 42110 := by decide +kernel
  have h8 : absent.foldl crcByte 42110 = 9882 := by decide +kernel
  have h9 : absent.foldl crcByte 9882 = 17317 := by decide +kernel
  have h10 : absent.foldl crcByte 17317 = 2966 := by decide +kernel
  have h11 : absent.foldl crcByte 2966 = 24256 := by decide +kernel
  have h12 : absent.foldl crcByte 24256 = 34057 := by decide +kernel
  have h13 : (laneRecord 30 3 1).foldl crcByte 34057 = 26932 := by decide +kernel
  have h14 : absent.foldl crcByte 26932 = 14942 := by decide +kernel
  have h15 : absent.foldl crcByte 14942 = 53266 := by decide +kernel
  have h16 : absent.foldl crcByte 53266 = 61273 := by decide +kernel
  simp only [crc, rackBody, List.foldl_append, h0, h1, h2, h3, h4, h5, h6, h7, h8, h9, h10, h11, h12, h13, h14, h15, h16]
/-- The bytes read before the two of the CRC are those of the body. -/
theorem imgTake_body (body rest : List Byte) : imgTake (body ++ rest) body.length = body := by
  apply List.ext_getElem
  · simp [imgTake]
  · intro i hi hb
    simp [imgTake, List.getD, List.getElem?_append_left hb, List.getElem?_eq_getElem hb]

theorem rackBody_length : rackBody.length = 672 := by decide +kernel

theorem rackImage_take : imgTake rackImage 672 = rackBody := by
  rw [← rackBody_length]; exact imgTake_body _ _

theorem rackImage_len : imgLen rackImage = 674 := by decide +kernel

theorem rackImage_intact : imgIntact rackImage = true := by
  simp only [imgIntact, rackImage_len, Nat.reduceSub, rackImage_take, rackBody_crc]; decide +kernel

/-- Section 2.7, a pin reset with a changed profile. -/
theorem test_rack_profile_adjusts_lanes :
    let t := (loading .rack .pin).setLanes (readRack (readCommon rackImage).1 rackImage).1 rackImage
    (t.lane 5).present = true ∧ (t.lane 5).b = 2 ∧ (t.lane 5).s = 24 ∧ (t.lane 5).drift = 40 ∧ (t.lane 5).uncounted = false ∧
      (t.lane 12).b = 1 ∧ (t.lane 12).s = 30 ∧ (t.lane 12).uncounted = true := by decide +kernel

theorem test_listen_end_waits_for_timer :
    let s : State := { rack with start.state := .listen, start.listenEnd := some 1001 }
    (after .listenPeriodEnd s).start.state = .listen ∧
      (afterAll [.timerUnit, .listenPeriodEnd] s).start.state = .active := by decide +kernel

theorem test_timer_unit_frozen_while_held :
    (after .timerUnit (train .held none)).planner.e = 0 ∧ (after .timerUnit (train .enroute none)).planner.e = 1 := by
  decide +kernel

/-! ## The line clock (Section 1) -/

theorem test_takt_edge_measures_takt :
    let t := after .taktEdge (pacer .standby)
    t.pacer.nLocal = 1011 ∧ t.pacer.measured = 550 ∧ t.pacer.record.v0 = 9 ∧ t.air.txq = [] := by decide +kernel

theorem test_takt_edge_without_valid_is_empty_pitch :
    (after .taktEdge { pacer .active with pacer.validIn := ⟨some false, some false⟩ }).pacer.record.v0 = 63 := by
  decide +kernel

theorem test_keepalive_repeats_notice :
    (after .keepaliveTimerExpiry (pacer .active)).air.txq =
      [⟨.unit, [0xF2, 0x03, 0x26, 0x02, 63, 63, 63, 63]⟩] := by decide +kernel

/-- Section 1.6, adoption: eight UNKNOWN entries, then the heard variants. -/
theorem test_adoption_builds_window :
    adopted.line.window = List.replicate 8 none ++ [some 9, some 9, some 5, some 9] ∧ adopted.line.followed = some 3 := by
  decide +kernel

/-- Section 1.6, an advance with a gap. -/
theorem test_advance_moves_window :
    let t := after (unit3 1018 5 9 63 12) adopted
    t.cnt.gap = 3 ∧ t.line.n = 1018 ∧
      t.line.window = [none, some 9, some 9, some 5, some 9, none, none, none, some 5, some 9, some 63, some 12] := by
  decide +kernel

/-- Section 1.6, the silence of pacer 3: pacer 8 is taken once the clock is STALE. -/
theorem test_silence_lets_higher_pacer_in :
    let stale := after .silenceTimerExpiry { adopted with start.clock := 1150 }
    let u8 := Instr.unit 8 (writeUnit ⟨1011, 550, 9, 9, 5, 9⟩)
    stale.line.state = .stale ∧ (after u8 stale).line.followed = some 8 ∧ (after u8 adopted).cnt.conflict = 1 := by
  decide +kernel

/-! ## Stock and forecast (Sections 2 and 3) -/

/-- Section 2.7, a lane through an advance, a reconciliation and a delivery. -/
theorem test_stock_sequence :
    let a := after (unit3 1018 5 9 63 12) adopted
    let b := after (.emptyEvent 3) a
    let c := afterAll [unit3 1019 9 63 12 5, unit3 1020 63 12 5 5] b
    let d := afterAll [.feedEvent 3, .feedEvent 3, .feedEvent 3] c
    stock3 a = (2, 9, 0) ∧ stock3 b = (1, 24, -15) ∧ (b.lane 3).uncounted = false ∧ stock3 c = (1, 17, -15) ∧
      stock3 d = (3, 65, -15) ∧ (d.lane 3).surplus = 1 := by decide +kernel

theorem test_phantom_empty :
    (after (.emptyEvent 3) (rack.setLane 3 { lane3 with b := 0, s := 0 })).cnt.phantom = 1 := by decide +kernel

theorem test_reserve_caps_one_bin : stock3 (after (.reserveEvent 3) rack) = (1, 24, 6) := by decide +kernel

theorem test_falling_change_clears_latch :
    ((after (.sensorFallingChange 3 .empty) rack).lane 3).emptyIn = ⟨⟨some false, some false⟩, false⟩ ∧
    stock3 (after (.sensorFallingChange 3 .empty) rack) = (2, 30, 0) := by decide +kernel

/-- The usages of Section 3.9, case 1. -/
def case1 : List Nat := [2, 4, 4, 0, 2, 4, 2, 4, 4, 2, 4, 2]

theorem test_runout_in_window : runOut 1000 30 3 case1 = (1010, false) := by decide

theorem test_runout_extrapolated : runOut 1000 30 3 (case1.take 6) = (1010, false) := by decide

theorem test_runout_capped : runOut 1000 3996 1 (List.replicate 12 0) = (2023, true) := by decide

theorem test_runout_of_empty_lane : runOut 1000 0 3 [0, 0, 2] = (1002, false) := by decide

/-! ## Runs, claims and delivery (Sections 4, 5 and 7) -/

theorem test_run_notice_inserts :
    ((after (.runNotice 12 (writeRun (notice11 (.heldAs .planning)))) adopted).runs.map RunRec.stopA) =
      [some ⟨1016, false⟩] := by decide +kernel

theorem test_run_ages_out :
    (after (.runAgeingExpiry 0x0C11) { adopted with runs := [rec11 .enroute] }).runs = [] ∧
    (after (.runAgeingExpiry 0x0C11) { adopted with runs := [rec11 .enroute], start.clock := 999 }).runs.length = 1 := by
  decide +kernel

/-- The rack with run 0x0C11 loading. -/
def heard : State := { adopted with runs := [rec11 .loading] }

/-- A MANIFEST part of one entry: this many bins for lane 3 at stop 4. -/
def part (bins : Byte) : Instr := .manifestPart 12 [0x11, 0x0C, 0x01, 1, 7, 3, 4, bins]

theorem test_manifest_promises_lane :
    ((after (part 2) heard).lane 3).call = .manifested ∧ ((after (part 2) heard).lane 3).requested = 2 := by
  decide +kernel

theorem test_manifest_wait_settles :
    ((after (.manifestWaitExpiry 0x0C11) heard).runs.map RunRec.settled) = [true] := by decide +kernel

/-- Section 5.7, admission at a train: a strict prefix of the key order. -/
theorem test_admission_takes_prefix :
    let e := fun (rref : LineCount) (station : Nat) (lane : LaneIx) (size : Nat) =>
      ({ run := 0x0C11, station, lane, stop := 4, cls := 1, size, bins := 1, rref, late := false, heard := 0,
         own := false, admitted := false } : Entry)
    (markAll 1011 [(0x0C11, ⟨8, 12, 8, 8⟩)] [e 1022 7 3 6, e 1019 11 0 4, e 1022 5 9 4, e 1030 2 1 2]).map
      (fun x => (x.station, x.admitted)) = [(7, false), (11, true), (5, true), (2, false)] := by decide +kernel

/-- Lane 3 calling for run 0x0C11 in PLANNING: its claim is placed and its CLAIMSET queued (Sections 3.9 and 5.7). -/
def calling : State :=
  after (.runNotice 12 (writeRun (notice11 (.heldAs .planning)))) adopted

theorem test_completion_places_claim :
    let t := afterAll [.bookOperationCompletion, .bookOperationCompletion] calling
    (t.lane 3).call = .admitted ∧ (t.lane 3).claimRun = some 0x0C11 ∧ t.air.txq.map TxFrame.kind = [.claimset] := by
  decide +kernel

/-- A CLAIMSET of one item. -/
def claims : List Byte := writeClaimset [⟨0x0C11, 6, 4, 1, false, 4, 2, 1018⟩]

theorem test_claimset_waits_for_busy_book :
    calling.busy = true ∧ (after (.claimset 2 claims) calling).air.rxq = [⟨.claimset, 2, claims⟩] := by decide +kernel

theorem test_claimset_enters_book :
    (afterAll [.bookOperationCompletion, .bookOperationCompletion, .claimset 2 claims, .bookOperationCompletion]
      calling).book.entries.map Entry.station = [7, 2] := by decide +kernel

theorem test_peer_entry_ages_out :
    let s := afterAll [.bookOperationCompletion, .bookOperationCompletion, .claimset 2 claims, .bookOperationCompletion]
      calling
    ((after (.peerEntryAgeingExpiry 2 6) { s with start.clock := 1150 }).book.entries.map Entry.station) = [7] := by
  decide +kernel

theorem test_refresh_restarts_timer :
    (after .refreshTimerExpiry { adopted with book.refresh := some 1000 }).book.refresh = some 1050 := by decide +kernel

/-- Lane 3 due on run 0x0C11 for two bins, one of them delivered. -/
def delivering : State := afterAll [part 2, .arrive 12 [0x11, 0x0C, 4, 0], .feedEvent 3] heard

theorem test_arrive_and_feed_count_delivery :
    (delivering.lane 3).call = .due ∧ (delivering.lane 3).delivered = 1 ∧ delivering.bankA.visit = some 0x0C11 ∧
      (delivering.lane 3).shown = .steady := by decide +kernel

/-- R81, R140: a lane moved while an operation is in progress sets the pending mark; on an idle book the ARRIVE that makes
a MANIFESTED lane DUE asks for nothing. -/
theorem test_move_during_operation_is_pending :
    let s := after (part 2) heard
    let busy : State := { s with book.pendingMark := false }
    let free : State := { s with book := .fresh }
    let arrive : Instr := .arrive 12 [0x11, 0x0C, 4, 0]
    busy.busy = true ∧ (after arrive busy).book.pendingMark = true ∧ ((after arrive busy).lane 3).moved = true ∧
      ((after arrive free).lane 3).call = .due ∧ (after arrive free).book = .fresh := by decide +kernel

theorem test_depart_settles_short :
    let t := after (.depart 12 [0x11, 0x0C, 4]) delivering
    (t.lane 3).call = .calling ∧ (t.lane 3).short = some (0x0C11, 1) ∧ t.bankA.visit = none ∧
      (⟨.receipt, [0x11, 0x0C, 4, 1, 3, 1, 2]⟩ : TxFrame) ∈ t.air.txq := by decide +kernel

theorem test_presence_fall_darkens_face :
    let s := { delivering with prof.localA := true }
    ((after (.presenceFall .a) s).lane 3).shown = .off ∧ ((after (.presenceFall .a) s).lane 3).fresh = true ∧
      ((afterAll [.presenceFall .a, .presenceRise .a] s).lane 3).shown = .steady := by decide +kernel

/-! ## The train station (Sections 6 to 8) -/

theorem test_strobe_arrives :
    let t := after .arrivalStrobe (train .enroute none)
    t.planner.current = some (run11 .atstop (some 9)) ∧ t.planner.e = 3700 ∧
      t.air.txq.map TxFrame.kind = [.arrive, .run] ∧ t.planner.log.map LogEntry.expected = [[5]] := by decide +kernel

theorem test_strobe_held_is_detour :
    (after .arrivalStrobe (train .held none)).planner.current = some (run11 .detour (some 9)) := by decide +kernel

theorem test_go_departs_stop :
    let t := afterAll [.arrivalStrobe, .goPress] (train .enroute none)
    t.planner.log.map LogEntry.timer = [.running 1050] ∧
      (⟨.depart, [0x11, 0x0C, 9]⟩ : TxFrame) ∈ t.air.txq ∧
      t.planner.current.map Run.served = some [false, true, false] := by decide +kernel

theorem test_hold_toggles :
    (after .holdPress (train .enroute none)).planner.current.map Run.state = some .held ∧
    (afterAll [.holdPress, .holdPress] (train .enroute none)).planner.current.map Run.state = some .enroute := by
  decide +kernel

/-- Section 6.8: HOLD is refused at a stop, with a REFUSED notice naming button 2. -/
theorem test_hold_refused_at_stop :
    ((after .holdPress (train .atstop (some 9))).panel.notices.map fun x => (x.kind, x.lane)) = [(.refused, 2)] := by
  decide +kernel

/-- The train with a PLANNING run and one admitted claim for it. -/
def planning : State :=
  let s := train .enroute none
  { s with
    planner := { s.planner with current := none, planning := some (run11 .planning none), manifest := [] }
    book := { s.book with entries := [
      { run := 0x0C11, station := 5, lane := 9, stop := 9, cls := 1, size := 4, bins := 2, rref := 1022, late := false,
        heard := 1000, own := false, admitted := true }] } }

theorem test_load_lock_builds_manifest :
    (after .loadPress planning).planner.manifest = [entry9] ∧
    (after .loadPress planning).air.txq.map TxFrame.kind = [.manifest, .run] := by decide +kernel

theorem test_load_refused_enroute : (after .loadPress (train .enroute none)).panel.notices.length = 1 := by
  decide +kernel

theorem test_receipt_marks_short :
    let t := after (.receipt 5 [0x11, 0x0C, 9, 1, 9, 1, 2]) (train .enroute none)
    t.planner.manifest.map (fun e => (e.delivered, e.status)) = [(1, .short)] ∧
      t.panel.notices.map Notice.kind = [.short] := by decide +kernel

theorem test_receipt_timer_raises_missing :
    let s := afterAll [.arrivalStrobe, .goPress] (train .enroute none)
    (after (.receiptTimerExpiry 0) { s with start.clock := 1050 }).panel.notices.map (fun x => (x.kind, x.station)) =
      [(.missing, 5)] := by decide +kernel

theorem test_train_refresh_announces :
    (after .trainRefreshExpiry { train .enroute none with planner.refresh := some 1000 }).planner.refresh = some 1050 := by
  decide +kernel

theorem test_ack_removes_notice :
    (afterAll [.holdPress, .ack] (train .atstop (some 9))).panel.notices = [] := by decide +kernel

theorem test_lamp_frame_counts_phase :
    (after .lampFrame { rack with panel.phase := 49 }).panel.phase = 0 ∧
      (after .lampFrame rack).panel.chain.length = 33 := by decide +kernel

theorem test_display_shows_fault :
    ((after .displayFrame { station .train 12 with
        start.state := .fault, start.faultCause := .badCheck }).panel.display.take 5) =
      [0x46, 0x41, 0x55, 0x4C, 0x54] := by decide +kernel

/-! ## The aisle channel (Section 9) -/

/-- R166: the check over the nine characters 1 to 9 is 0x29B1. -/
theorem test_crc_of_nine_digits : crc [0x31, 0x32, 0x33, 0x34, 0x35, 0x36, 0x37, 0x38, 0x39] = 0x29B1 := by
  decide +kernel

/-- R182: the first two draws of the station at address 7. -/
theorem test_random_draws : randomDraw 0x0707 = 0x707C ∧ randomDraw 0x707C = 0x07C3 := by decide

/-- Section 9.8: the first draws of the stations at addresses 11 and 12. -/
theorem test_first_draws : randomDraw 0x0B0B = 0xB0B1 ∧ randomDraw 0x0C0C = 0xC0CD := by decide

/-- A QUERY of page 0 to the rack, as the bytes after SYNC. -/
def queryBytes : List Byte := (wireBytes 127 ⟨.query, [7, 0]⟩).drop 1

theorem test_frame_complete_answers_query :
    let t := afterAll [.syncByte, .frameComplete queryBytes] rack
    t.air.rx = .hunting ∧ t.air.txq.map TxFrame.kind = [.report] ∧ t.cnt.crc = 0 := by decide +kernel

/-- R168, R181: while a frame is sent the receiver is off, so no frame is received. -/
theorem test_no_reception_while_sending :
    let s : State := { rack with air.tx := some ⟨[0xB5], 2⟩ }
    after (.query 127 [7, 0]) s = s ∧ after (unit3 1011 9 9 5 9) s = s ∧ after .syncByte s = s := by decide +kernel

theorem test_frame_complete_counts_bad_crc :
    (afterAll [.syncByte, .frameComplete [4, 0x2E, 127, 7, 0, 0, 0]] rack).cnt.crc = 1 := by decide +kernel

theorem test_abandoned_frames_counted :
    (afterAll [.syncByte, .lengthAbandon 251] rack).cnt.length = 1 ∧
    (afterAll [.syncByte, .byteGapTimeout] rack).cnt.broken = 1 ∧
    (afterAll [.syncByte, .lowStopBit, .lowStopBit] rack).cnt.broken = 1 := by decide +kernel

/-- R198: an unknown page is answered by a REPORT with the no-page flag. -/
theorem test_query_of_unknown_page :
    (after (.query 127 [7, 9]) rack).air.txq = [⟨.report, [127, 9, 1]⟩] := by decide +kernel

theorem test_own_address_is_clash : (after (.query 7 [7, 0]) rack).air.clash = true := by decide +kernel

/-- R181: a frame goes out after a gap of 4 byte times and its backoff; CARRIER freezes both. -/
theorem test_carrier_stops_quiet_time :
    (after .carrierRise rack).air.quiet = none ∧ (afterAll [.carrierRise, .carrierFall] rack).air.quiet = some 0 := by
  decide +kernel

/-- A UNIT waits with its backoff count at 0 and the gap passed. -/
def ready : State :=
  { pacer .active with air.txq := [⟨.unit, writeUnit (pacer .active).pacer.notice⟩], air.quiet := some 4 }

theorem test_send_start_keys_up :
    (after .sendStart ready).air.tx.map Sending.left = some 15 ∧ (after .sendStart ready).air.txq = [] ∧
      after .sendStart { ready with air.quiet := some 3 } = { ready with air.quiet := some 3 } := by decide +kernel

theorem test_send_end_keys_down :
    (after .sendEnd { ready with air.tx := some ⟨[], 0⟩ }).air.quiet = some 0 ∧
      (after .sendEnd { ready with air.tx := some ⟨[], 1⟩ }).key = true := by decide +kernel

/-- R163: 0xB5 on TXD, after one byte time of lead. -/
theorem test_txd_bits_of_sync :
    ({ rack with air.tx := some ⟨[0xB5], 1⟩ } : State).txdBits =
      [false, true, false, true, false, true, true, false, true, true] ∧
    ({ rack with air.tx := some ⟨[0xB5], 2⟩ } : State).txdBits = List.replicate 10 true := by decide

/-- Two equal samples accept a level; the first accepted level is no change (R2). -/
theorem test_second_equal_sample_is_edge :
    let high : Pins := ⟨0x0C9, 0⟩
    let low : Pins := ⟨0x049, 0⟩
    let s := afterAll [.inputSample low, .inputSample low, .inputSample high] (pacer .active)
    s.pacer.nLocal = 1010 ∧ (after (.inputSample high) s).pacer.nLocal = 1011 ∧
      (after (.inputSample high) s).pacer.record.v0 = 9 := by decide +kernel

theorem step_lampFrame (s : State) :
    step { s with pending := [.lampFrame] } = .next (after .lampFrame { s with pending := [] }) := rfl

/-! ## The hypotheses of the statements can be met

Each theorem below names the statement it serves and gives a concrete case of its hypotheses, at a boundary value of each
clause. -/

theorem witness_StepRunsFrontCommand :
    ({ rack with pending := [.ack, .lampFrame] } : State).pending = .ack :: [.lampFrame] := by decide

theorem witness_IdleStepPassesOneByteTime :
    (State.reset.pending = [] ∧ State.reset.portWorks = false) ∧
    (rack.pending = [] ∧ rack.portWorks = true ∧ rack.air.tx = none ∧ rack.air.quiet = some 0) ∧
    ({ rack with air.tx := some ⟨[0xB5], 1⟩ } : State).portWorks = true ∧
    ({ rack with air.quiet := none } : State).portWorks = true ∧
    ({ rack with air.quiet := some 4, air.backoff := 1 } : State).gap = 4 := by decide +kernel

theorem witness_StrapsAndClashStandBetweenStarts :
    Instr.ack.isStart = false ∧ exec .ack { rack with air.clash := true } = .next (after .ack { rack with air.clash := true }) :=
  ⟨rfl, rfl⟩

theorem witness_ResetnLowHoldsStation :
    Instr.lampFrame.isStart = false ∧ State.reset.start.resetLow = true ∧
      exec .lampFrame State.reset = .next (after .lampFrame State.reset) :=
  ⟨rfl, rfl, rfl⟩

/-- Erased; a bad signature; a PACER image in a RACK; and a RACK image of the wrong length. -/
theorem witness_UnusableProfileFaults :
    let short := closed ([0xE5, 0x16, 1, 0] ++ le2 21 ++ List.replicate 13 0)
    (loading .rack .pin).start.state = .load ∧ (loading .rack .pin).start.resetLow = false ∧
      imgErased [] = true ∧ (imgErased [0xE5] = false ∧ imgIntact [0xE5] = false) ∧
      (imgIntact pacerImage = true ∧ Role.rack.imageCode ≠ some (imgByte pacerImage 3)) ∧
      (imgIntact short = true ∧ Role.rack.imageCode = some (imgByte short 3) ∧ imgLenFits short .rack = false) := by
  decide +kernel

theorem witness_GoodProfileEntersListen_pacer :
    (loading .pacer .powerOn).start.state = .load ∧ (loading .pacer .powerOn).start.resetLow = false ∧
      imgErased pacerImage = false ∧ imgIntact pacerImage = true ∧ Role.pacer.imageCode = some (imgByte pacerImage 3) ∧
      imgLenFits pacerImage .pacer = true := by decide +kernel

theorem witness_GoodProfileEntersListen_train :
    imgErased trainImage = false ∧ imgIntact trainImage = true ∧ Role.train.imageCode = some (imgByte trainImage 3) ∧
      imgLenFits trainImage .train = true := by decide +kernel

theorem witness_GoodProfileEntersListen_rack :
    imgErased rackImage = false ∧ imgIntact rackImage = true ∧ Role.rack.imageCode = some (imgByte rackImage 3) ∧
      imgLenFits rackImage .rack = true :=
  ⟨by decide +kernel, rackImage_intact, by decide +kernel, by decide +kernel⟩

/-- Lane 5 stays present, lane 12 becomes present, lane 3 stays absent; after a power-on the lanes take their start
bins. -/
theorem witness_StartSetsLaneStock :
    (imgByte rackImage 3 = 0 ∧ imgLen rackImage = 674) ∧
    ((loading .rack .pin).start.cause = .pin ∧ (loading .rack .powerOn).start.cause = .powerOn) ∧
    (((loading .rack .pin).lane 5).present = true ∧ imgWord rackImage (laneAt 5) = 12 ∧
      (readRack (readCommon rackImage).1 rackImage).1.stopA = 4) ∧
    (((loading .rack .pin).lane 12).present = false ∧ imgWord rackImage (laneAt 12) = 30 ∧
      (readRack (readCommon rackImage).1 rackImage).1.stopB = 9) ∧
    imgWord rackImage (laneAt 3) = 0 := by decide +kernel

/-- A station in LISTEN whose listen period ends now. -/
def listening (s : State) : State := { s with start := { s.start with state := .listen, listenEnd := some 1000 } }

/-- The rack after the operation that its first forecast asked for: the book is idle. -/
def idle : State := after .bookOperationCompletion adopted

theorem witness_ListenEndEntersActive :
    (∀ s ∈ [idle, calling, planning, pacer .listen, pacer .standby],
      (listening s).start.state = .listen ∧ (listening s).start.resetLow = false ∧
        (listening s).due (listening s).start.listenEnd = true) ∧
    (idle.busy = false ∧ calling.busy = true) ∧
    (let free : State := { train .enroute none with planner := .fresh 255 }
     free.synced = true ∧ free.planner.current = none ∧ free.planner.planning = none) ∧
    (train .enroute none).txRoom = true ∧ (station .train 12).synced = false ∧
      (pacer .listen).pacer.state = .listen ∧ (pacer .listen).txRoom = true ∧
      (pacer .standby).pacer.state ≠ .listen := by decide +kernel

theorem witness_TimerUnitRaisesClockAndTravel :
    let s : State := { train .detour (some 9) with start.clock := 2 ^ 32 - 2, planner.e := 65535 }
    s.start.resetLow = false ∧ s.start.clock + 1 < 2 ^ 32 ∧ s.worksAs .train = true := by decide +kernel

/-- A queue with one free place, and a full one with a UNIT; ACTIVE and the other pacer states, LISTEN. -/
theorem witness_PacerCountsAndAnnounces :
    let full : State := { ready with air.txq := ready.air.txq ++ List.replicate 7 ⟨.report, []⟩ }
    ((pacer .active).worksAs .pacer = true ∧ (pacer .active).isActive = true ∧ (pacer .active).txRoom = true ∧
      (pacer .active).pacer.state = .active ∧ (pacer .active).due (pacer .active).pacer.keepalive = true) ∧
    (full.isActive = true ∧ full.txRoom = false ∧ ∃ f ∈ full.air.txq, f.kind = .unit) ∧
    ((pacer .listen).pacer.state ≠ .active ∧ (pacer .standby).pacer.state ≠ .active) ∧
    ({ pacer .active with start.state := .listen } : State).isActive = false ∧
    ((pacer .active).pacer.validIn.acc = some true ∧ (pacer .active).pacer.variantIn.acc = some 9) ∧
    ({ pacer .active with pacer.validIn := ⟨some true, some false⟩ } : State).pacer.validIn.acc = some false := by
  decide +kernel

/-- A QUIET lane called, on an idle book and a busy one; no lane to call; a CALLING lane called no more. A TRAIN that opens a
PLANNING run, and one whose run is LOADING. -/
theorem witness_UnitAdoptionSetsClock :
    let busy : State := { rack with book.op := adopted.book.op }
    let far (call : CallState) : State := rack.setLane 3 { lane3 with b := 3, s := 72, call }
    let cond := fun (s : State) => ((after (unit3 1011 9 9 5 9) s).lane 3).cond
    (∀ s ∈ [rack, busy, far .quiet, far .calling, station .pacer 7], s.hears 3 = true ∧ s.synced = false ∧
      s.takesFrom 3 = true ∧ ¬(s.start.role = .pacer ∧ s.pacer.state = .active)) ∧
    (let open1 : State := { train .enroute none with line := .fresh }
     let run := fun (r : Run) => { open1 with planner := { open1.planner with current := some r } }
     open1.hears 3 = true ∧ open1.synced = false ∧ open1.takesFrom 3 = true ∧ open1.isActive = true ∧
       open1.planner.planning = none ∧ open1.planner.current.any (fun r => r.state != .loading) = true ∧
       open1.air.txq.length + 2 ≤ 8 ∧
       (after (unit3 1011 9 9 5 9) open1).planner.planning.map Run.id = some 0x0C12 ∧
       (run (run11 .loading none)).planner.current.any (fun r => r.state == .loading) = true) ∧
    ((rack.lane 3).present = true ∧ (rack.lane 3).call = .quiet ∧ cond rack = true ∧ rack.busy = false) ∧
    (cond busy = true ∧ busy.busy = true) ∧
    (cond (far .quiet) = false ∧ cond (far .calling) = false) := by decide +kernel

/-- From N = 1011: an advance by 1 and by 255, in the three roles, and at the rack one that asks an idle book, one that asks
a busy book and one that asks for nothing. One unit of variant 9 uses 4 parts, from a lane that holds 4 and one that holds
3. -/
theorem witness_UnitAdvanceConsumes :
    (let quiet := idle.setLane 3 { idle.lane 3 with call := .quiet }
     let full := idle.setLane 3 { idle.lane 3 with call := .quiet, b := 3, s := 72 }
     let t := fun (s : State) => after (unit3 1012 9 5 9 9) s
     (∀ s ∈ [quiet, full, adopted], s.hears 3 = true ∧ s.synced = true ∧ s.takesFrom 3 = true) ∧
       quiet.busy = false ∧ ((t quiet).lane 3).cond = true ∧ (t quiet).busy = true ∧
       ((t full).lane 3).cond = false ∧ adopted.busy = true ∧ ((t adopted).lane 3).cond = true ∧
       (t adopted).book.pendingMark = true) ∧
    (∀ s ∈ [adopted, train .enroute none, { pacer .standby with line := { adopted.line with followed := some 8 } }],
      s.hears 2 = true ∧ s.synced = true ∧ s.takesFrom 2 = true) ∧
    ((word 0xF4 0x03 - adopted.line.n).toNat = 1 ∧ (word 0xF2 0x04 - adopted.line.n).toNat = 255) ∧
    (({ lane3 with s := 4 }.consume (some 9)).s = 0 ∧ ({ lane3 with s := 4 }.consume (some 9)).starved = false ∧
      ({ lane3 with s := 3 }.consume (some 9)).shortfall = 1 ∧ ({ lane3 with s := 3 }.consume (some 9)).starved = true ∧
      ({ lane3 with s := 3 }.consume none).s = 0 ∧ (lane3.consume (some 63)).s = 30 ∧
      LaneRec.cleared.present = false) := by decide +kernel

theorem witness_KeepaliveOrResyncConsumesNothing :
    (word 0xF3 0x03 - adopted.line.n).toNat = 0 ∧ (word 0xF3 0x04 - adopted.line.n).toNat = 256 ∧
      (word 0xF2 0x03 - adopted.line.n).toNat = 65535 ∧ adopted.start.role = .rack ∧
      (train .enroute none).start.role ≠ .rack := by decide +kernel

theorem witness_ConflictingUnitDiscarded :
    (adopted.hears 4 = true ∧ adopted.line.state = .tracking ∧ adopted.line.followed = some 3) ∧
    ((pacer .active).hears 4 = true ∧ (pacer .active).own < 4) ∧
    ((pacer .active).hears 2 = true ∧ 2 < (pacer .active).own) := by decide +kernel

theorem witness_SilenceExpiryStaleOrTakeover :
    let s : State := { adopted with start.clock := 1150 }
    let p : State := { pacer .standby with line.silence := some 1000 }
    (s.working = true ∧ s.due s.line.silence = true) ∧ (p.working = true ∧ p.due p.line.silence = true) ∧
      p.start.role = .pacer ∧ p.pacer.state = .standby ∧ p.isActive = true ∧ p.txRoom = true := by decide +kernel

/-- B at binsMax − 1 and at binsMax, the face OPEN and CLOSED; a delivery one bin short of its last bin, and at it. -/
theorem witness_FeedActsOnStock :
    let full := (delivering.setLane 3 { delivering.lane 3 with b := 3 })
    (rack.worksAs .rack = true ∧ (rack.lane 3).present = true ∧ (rack.lane 3).b + 1 = (rack.lane 3).cfg.binsMax) ∧
    ((full.lane 3).cfg.binsMax ≤ (full.lane 3).b ∧ (full.bank (bankOf 3)).faceOpen = true ∧
      (full.lane 3).staged ≠ .fast) ∧
    ((rack.bank (bankOf 3)).faceOpen = false ∧ (rack.lane 3).call.promised = false) ∧
    (rack.synced = false ∧ delivering.synced = true ∧ delivering.bookSettled = true ∧ delivering.busy = true ∧
      ({ delivering with book := .fresh } : State).bookSettled = true ∧
      (after (.feedEvent 3) delivering).book.pendingMark = true ∧
      (after (.feedEvent 3) { full with book := .fresh }).busy = ((after (.feedEvent 3) full).lane 3).cond) ∧
    (((after (part 2) heard).lane 3).call.promised = true ∧
      ((after (part 2) heard).lane 3).delivered + 1 ≠ ((after (part 2) heard).lane 3).requested) ∧
    ((delivering.lane 3).call.promised = true ∧ (delivering.lane 3).delivered + 1 = (delivering.lane 3).requested) := by
  decide +kernel

theorem witness_EmptyReconcilesStock_and_ReserveCapsAtOneBin :
    (rack.worksAs .rack = true ∧ (rack.lane 3).present = true ∧ 1 < (rack.lane 3).b) ∧
    (let one := rack.setLane 3 { lane3 with b := 1 }
     (one.lane 3).present = true ∧ 0 < (one.lane 3).b ∧ (one.lane 3).b ≤ 1) := by decide +kernel

theorem witness_PhantomEmptyCounted :
    let none0 := rack.setLane 3 { lane3 with b := 0 }
    none0.worksAs .rack = true ∧ (none0.lane 3).present = true ∧ (none0.lane 3).b = 0 := by decide +kernel

theorem witness_UntakenChangesOnlyLatch : rack.worksAs .rack = true ∧ (rack.lane 15).present = false := by
  decide +kernel

/-- The rack with a FEED waiting. -/
def feeding : State := { rack with pending := [.feedEvent 3] }

theorem witness_StockStaysWithinBins :
    feeding.StockInv ∧ step feeding = .next (after (.feedEvent 3) { feeding with pending := [] }) :=
  ⟨by unfold State.StockInv; decide +kernel, rfl⟩

/-- At the cap and one past it, and with a default usage of 0. -/
theorem witness_WalkFindsFirstUncoveredUnit :
    walk 1022 [0] = none ∧ runOut 65535 1022 1 [0] = (65535 + 1023, false) ∧ walk 1023 [0] = none ∧
      runOut 65535 1023 1 [0] = (65535 + 1023, true) ∧ runOut 1000 5 0 [3, 2] = (2023, true) ∧
      walk 30 case1 = some 10 ∧ walk 32 (case1.take 11) = none ∧ (runOut 1000 3996 1 (List.replicate 64 0)).2 = true ∧
      (runOut 1000 3996 4 [0]).2 = false := by decide

/-- A sixth run inserted; a seventh, with every run used and with none; a record replaced: to PLANNING, out of PLANNING and
within it; and a stop newly served. -/
theorem witness_RunNoticeUpdatesRunList :
    let p := writeRun (notice11 (.heldAs .planning))
    let runs := fun (n : Nat) => (List.range n).map fun i => { rec11 .loading with id := BitVec.ofNat 16 i }
    let five : State := { adopted with runs := runs 5 }
    let six : State := { adopted with runs := runs 6 }
    let used : State := six.mapLanes fun l r =>
      if l.val < 6 then { lane3 with call := .waiting, claimRun := some (BitVec.ofNat 16 l.val) } else r
    let served : RunNotice := ⟨0x0C11, .heldAs .enroute, ⟨8, 12, 8, 8⟩, [⟨4, true, 1016⟩]⟩
    (five.worksAs .rack = true ∧ five.hears 12 = true ∧ shapeFits .run p = true ∧
      readRun p = some (notice11 (.heldAs .planning)) ∧ trainOf 0x0C11 = 12 ∧
      (five.entryAt (notice11 (.heldAs .planning)) .a).isSome = true) ∧
    (five.runRec 0x0C11 = none ∧ five.runs.length < 6) ∧
    (used.hears 12 = true ∧ used.runRec 0x0C11 = none ∧ 6 ≤ used.runs.length ∧
      ∀ x ∈ used.runs, ∃ l, (used.lane l).claimsOn x.id = true) ∧
    (six.hears 12 = true ∧ 6 ≤ six.runs.length ∧ (∀ l, (six.lane l).claimsOn 0 = false) ∧
      (∀ l, (six.lane l).promisedOn 0 = false) ∧ six.bankA.visit = none ∧ six.bankB.visit = none) ∧
    (heard.hears 12 = true ∧ heard.runRec 0x0C11 = some (rec11 .loading)) ∧
    (({ adopted with runs := [rec11 .planning] } : State).runRec 0x0C11 = some (rec11 .planning)) ∧
    (delivering.hears 12 = true ∧ readRun (writeRun served) = some served ∧
      ((delivering.runRec 0x0C11).bind fun r => r.stopOf .a) = some ⟨1016, false⟩ ∧
      delivering.entryAt served .a = some ⟨1016, true⟩ ∧ delivering.departureActs .a 0x0C11 = true ∧
      delivering.isActive = true ∧ delivering.air.txq.length + 2 ≤ 8 ∧
      (delivering.lane 3).promisedOn 0x0C11 = true) := by decide +kernel

/-- R59: of the runs of a full list that nothing rests on, the one with the latest earliest ETA leaves. -/
theorem test_seventh_run_evicts_latest :
    let runs := (List.range 6).map fun i =>
      { rec11 .loading with id := BitVec.ofNat 16 i, stopA := some ⟨BitVec.ofNat 16 (1020 - i), false⟩ }
    let t := after (.runNotice 12 (writeRun (notice11 (.heldAs .planning)))) { adopted with runs }
    t.runs.map RunRec.id = [1, 2, 3, 4, 5, 0x0C11] := by decide +kernel

/-- Heard closed, heard without an own stop, and not heard for 3 × T_refresh, with a lane that claims and one promised; and
the end of the wait for the manifest. -/
theorem witness_RunLeavesWithItsClaims :
    let c := notice11 .closed
    let f : RunNotice := { notice11 (.heldAs .enroute) with stops := [] }
    let w := heard.setLane 3 { lane3 with call := .waiting, claimRun := some 0x0C11, requested := 1 }
    (heard.worksAs .rack = true ∧ heard.hears 12 = true ∧ (heard.runRec 0x0C11).isSome = true ∧ trainOf 0x0C11 = 12) ∧
    (shapeFits .run (writeRun c) = true ∧ readRun (writeRun c) = some c ∧ c.state = .closed) ∧
    (shapeFits .run (writeRun f) = true ∧ readRun (writeRun f) = some f ∧ heard.foreign f = true) ∧
    heard.due (some ((rec11 .loading).lastHeard + 3 * heard.prof.tRefresh)) = true ∧
    (w.hears 12 = true ∧ (w.lane 3).claimsOn 0x0C11 = true) ∧
    (delivering.hears 12 = true ∧ (delivering.lane 3).promisedOn 0x0C11 = true) ∧
    (heard.runRec 0x0C11 = some (rec11 .loading) ∧ (rec11 .loading).wait = .running 1000 ∧
      heard.due (some 1000) = true ∧ (rec11 .loading).settled = false) := by decide +kernel

/-- Part 0 of 1 for a lane not promised, and part 3 of 4 for a lane promised on another run; a lane promised on the run with
one bin delivered, confirmed for two bins and for one. -/
theorem witness_ManifestPartPromisesLane :
    let other := heard.setLane 3 { lane3 with call := .due, onRun := some 0x0D04 }
    let same := heard.setLane 3 { lane3 with call := .due, onRun := some 0x0C11, requested := 3, delivered := 1 }
    (heard.worksAs .rack = true ∧ heard.hears 12 = true ∧ heard.runRec (word 0x11 0x0C) = some (rec11 .loading) ∧
      (heard.lane 3).present = true ∧ heard.prof.stopOf (bankOf 3) = 4 ∧ (rec11 .loading).partCount = none) ∧
    (∀ ic ∈ [(0x01 : Byte), 0x34], ic.toNat / 16 < ic.toNat % 16 ∧ ic.toNat % 16 ≤ 4 ∧
      (rec11 .loading).mask.getLsbD (ic.toNat / 16) = false) ∧
    (heard.lane 3).call.promised = false ∧
    (other.hears 12 = true ∧ (other.lane 3).call.promised = true ∧ (other.lane 3).onRun ≠ some (word 0x11 0x0C)) ∧
    (same.hears 12 = true ∧ (same.lane 3).call.promised = true ∧ (same.lane 3).onRun = some (word 0x11 0x0C) ∧
      (same.lane 3).delivered < (2 : Byte).toNat ∧ (1 : Byte).toNat ≤ (same.lane 3).delivered) := by decide +kernel

theorem witness_ClaimsetStartsOrWaits :
    (idle.worksAs .rack = true ∧ idle.hears 2 = true ∧ idle.busy = false ∧
      (readClaimset 2 claims).isSome = true) ∧
    (calling.hears 2 = true ∧ calling.busy = true) ∧
    readClaimset 2 [1] = none := by decide +kernel

/-- The operation in progress at the rack whose lane 3 calls: it leaves an own entry, so the claim set is queued. -/
def placing : State :=
  let s := after .bookOperationCompletion calling
  { s with book := { s.book with pendingMark := false, refreshDue := false } }

/-- A peer entry of this station for lane 6, with this reference run-out. -/
def peer (station : Nat) (rref : LineCount) : Entry :=
  { run := 0x0C11, station, lane := 6, stop := 4, cls := 1, size := 4, bins := 2, rref, late := false, heard := 0,
    own := false, admitted := false }

/-- The operation in progress there. -/
def placingOp : BookOp := placing.book.op.getD
  { claimset := none, refresh := false, n := 0, runs := [], planning := none,
    lanes := Vector.replicate 16 ⟨.quiet, false, none, 0, 0⟩, entries := [] }

/-- R85: a full book loses the peer entry with the largest key, or the claim that is not before it. -/
theorem test_full_book_evicts_or_drops :
    let w : Work := ⟨[peer 2 1018, peer 3 1020], 0⟩
    insertPeer 2 1011 w (peer 4 1019) = ⟨[peer 2 1018, peer 4 1019], 1⟩ ∧
      insertPeer 2 1011 w (peer 4 1021) = ⟨w.entries, 1⟩ ∧
      insertOwn 2 1011 w { peer 7 1021 with own := true } = ⟨[peer 2 1018, { peer 7 1021 with own := true }], 1⟩ ∧
      insertPeer 3 1011 w (peer 4 1021) = ⟨w.entries ++ [peer 4 1021], 0⟩ := by decide

/-- The CLAIMSET of a sender with an entry; a run that meets the deadline with and without room and one that does not; no
candidate; a WAITING lane whose choice stands and one whose choice falls elsewhere. -/
theorem witness_BookWorkReplacesEvictsAndChooses :
    let op : BookOp := { placingOp with claimset := some ⟨2, [⟨0x0C11, 6, 4, 1, false, 4, 2, 1018⟩] ⟩ }
    let w : Work := ⟨[{ peer 2 1018 with lane := 5 }, peer 3 1020], 0⟩
    let late : BookOp := { placingOp with runs := [{ rec11 .planning with stopA := some ⟨2000, false⟩ }] }
    let full : Work := ⟨[{ peer 3 1012 with size := 12 }], 0⟩
    let own := fun (run : RunId) => (⟨[{ peer 7 1018 with own := true, lane := 3, run }], 0⟩ : Work)
    (placing.book.op = some placingOp ∧ w.entries.length + 1 ≤ Role.rack.bookCapacity ∧
      (op.replaceSender .rack w).entries = [peer 3 1020, peer 2 1018]) ∧
    (placing.chooseRun placingOp ⟨[], 0⟩ 3 = some (0x0C11, false) ∧
      placing.wouldAdmit placingOp ⟨[], 0⟩ 3 0x0C11 = true) ∧
    (placing.chooseRun placingOp full 3 = some (0x0C11, false) ∧ placing.wouldAdmit placingOp full 3 0x0C11 = false) ∧
    (placing.chooseRun late ⟨[], 0⟩ 3 = some (0x0C11, true) ∧
      placing.chooseRun { placingOp with runs := [] } ⟨[], 0⟩ 3 = none) ∧
    (placing.rechoose placingOp (own 0x0C11) 3 = own 0x0C11 ∧
      (placing.rechoose placingOp (own 0x0D04) 3).entries.map (fun e => (e.run, e.heard)) = [(0x0C11, 1000)]) := by
  decide +kernel

/-- The rack with its claim admitted. -/
def placed : State := after .bookOperationCompletion placing

theorem witness_BookKeepsPlacesAndOwnEntries :
    placed.BookInv ∧ placed.book.entries.map Entry.own = [true] ∧
      step { placed with pending := [.lampFrame] } = .next (after .lampFrame { placed with pending := [] }) :=
  ⟨⟨by unfold State.EntriesInv; decide +kernel, by unfold State.OwnInv; decide +kernel,
    fun op h => by have e : placed.book.op = none := by decide +kernel
                   rw [e] at h; exact (nomatch h),
    by decide +kernel, by decide +kernel, by decide +kernel, by decide +kernel⟩, by decide +kernel,
   step_lampFrame placed⟩

/-- Nothing waiting and no mark; a mark; a CLAIMSET waiting. -/
theorem witness_CompletionAdmitsStrictPrefix :
    let marked : State := { placing with book.pendingMark := true }
    let queued : State := { placing with air.rxq := [⟨.claimset, 2, claims⟩] }
    placing.working = true ∧ placing.book.op.isSome = true ∧ placing.air.rxq = [] ∧ placing.book.pendingMark = false ∧
      placing.book.refreshDue = false ∧
      (after .bookOperationCompletion placing).book.entries.map Entry.admitted = [true] ∧
      marked.working = true ∧ marked.book.op.isSome = true ∧ (after .bookOperationCompletion marked).busy = true ∧
      (∀ f ∈ queued.air.rxq, f.kind = .claimset) ∧ (readClaimset 2 claims).isSome = true ∧ queued.start.role = .rack ∧
      queued.bookSettled = true ∧ (after .bookOperationCompletion queued).air.rxq = [] := by decide +kernel

/-- Lane 3 keeps its entry; the lane without a claim is lane 2, made present; lane 1, made present, was moved, so the
pending mark is set; the others are absent. -/
theorem witness_CompletionSetsLaneStates :
    let s : State :=
      { (placing.setLane 2 lane3).setLane 1 { lane3 with call := .calling, moved := true } with book.pendingMark := true }
    let t := after .bookOperationCompletion s
    (s.worksAs .rack = true ∧ s.isActive = true ∧ s.txRoom = true) ∧
    ((s.lane 3).present = true ∧ (s.lane 3).moved = false ∧
      (s.book.op.map fun op => op.lanes[3].call.promised) = some false ∧
      (t.book.entries.find? fun x => x.own && x.lane == 3).isSome = true) ∧
    ((s.lane 2).present = true ∧ (s.lane 2).moved = false ∧
      (t.book.entries.find? fun x => x.own && x.lane == 2) = none) ∧
    ((s.lane 1).moved = true ∧ (t.lane 1).call = .calling) ∧
    (s.lane 15).present = false ∧ ownItems t.book.entries ≠ s.book.lastSet ∧
      ({ s with start.state := .listen } : State).isActive = false := by decide +kernel

theorem witness_BookTimersRequestOperations :
    let e : Entry := { run := 0x0C11, station := 2, lane := 6, stop := 4, cls := 1, size := 4, bins := 2, rref := 1018,
                       late := false, heard := 850, own := false, admitted := true }
    let s : State := { idle with book.entries := [e], book.refresh := some 1000 }
    (s.working = true ∧ s.worksAs .rack = true ∧
      s.book.entries.find? (fun x => !x.own && x.station == 2 && x.lane == 6) = some e ∧
      s.due (some (e.heard + 3 * s.prof.tRefresh)) = true ∧ s.due s.book.refresh = true) ∧
    (s.busy = false ∧ calling.busy = true) := by decide +kernel

/-- A lane MANIFESTED on the run, one that claims on it, one promised on another run of the bank's record, and, with REVISIT,
one short on it, CALLING and WAITING on another run. -/
theorem witness_ArriveOpensVisit :
    let m := after (part 2) heard
    let w := heard.setLane 3 { lane3 with call := .waiting, claimRun := some 0x0C11, requested := 1 }
    let o : State := { heard.setLane 3 { lane3 with call := .due, onRun := some 0x0D04 } with
      bankA.recordRun := some 0x0D04 }
    let short := fun (call : CallState) (claim : Option RunId) =>
      heard.setLane 3 { lane3 with call, claimRun := claim, short := some (0x0C11, 1) }
    (m.worksAs .rack = true ∧ m.hears 12 = true ∧ m.prof.stopOf .a = 4) ∧
    ((m.lane 3).present = true ∧ (m.lane 3).call = .manifested ∧ (m.lane 3).onRun = some (word 0x11 12)) ∧
    (w.hears 12 = true ∧ (w.lane 3).claimsOn (word 0x11 12) = true) ∧ m.prof.stopOf (bankOf 15) ≠ 4 ∧
    (o.hears 12 = true ∧ (o.bank .a).recordRun = some 0x0D04 ∧ (o.lane 3).promisedOn 0x0D04 = true) ∧
    (∀ s ∈ [short .calling none, short .waiting (some 0x0D04)], s.hears 12 = true ∧
      (s.runRec (word 0x11 12)).isSome = true ∧ (s.lane 3).short = some (word 0x11 12, 1) ∧
      (s.lane 3).claimsOn (word 0x11 12) = false) ∧
    ((2 : Byte).getLsbD 1 = true ∧ (1 : Byte).getLsbD 1 = false ∧ (heard.lane 15).call = .quiet) := by decide +kernel

/-- R130: a revisit makes the lane DUE for the bins it is short. -/
theorem test_revisit_moves_short_lane :
    let s := heard.setLane 3 { lane3 with call := .calling, short := some (0x0C11, 1) }
    ((after (.arrive 12 [0x11, 0x0C, 4, 2]) s).lane 3).call = .due ∧
      ((after (.arrive 12 [0x11, 0x0C, 4, 0]) s).lane 3).call = .calling := by decide +kernel

theorem witness_DepartSettlesLanes :
    delivering.worksAs .rack = true ∧ delivering.hears 12 = true ∧ delivering.prof.stopOf .a = 4 ∧
      delivering.departureActs .a (word 0x11 12) = true ∧ (delivering.lane 3).present = true ∧
      (delivering.lane 3).promisedOn (word 0x11 12) = true ∧ delivering.isActive = true ∧ delivering.txRoom = true ∧
      (delivering.lane 15).promisedOn (word 0x11 12) = false := by decide +kernel

/-- The train at stop 9, which it has logged, with the entry of station 5 pending. -/
def atStop : State := after .arrivalStrobe (train .enroute none)

/-- The train departed from stop 9, whose receipt it waits for. -/
def departed : State := after .goPress atStop

/-- A receipt that covers the bins and one that does not; a receipt timer at its expiry, with station 5 not heard. -/
theorem witness_ReceiptsAreHeardOrMissed :
    let s : State := { departed with start.clock := 1050 }
    (departed.worksAs .train = true ∧ departed.hears 5 = true ∧
      departed.planner.current.map Run.id = some (word 0x11 departed.ownByte)) ∧
    ((departed.planner.manifest.find? fun x => x.station == 5 && x.lane.val == 9 && x.stop == 9) = some entry9 ∧
      entry9.status ≠ .done) ∧
    (entry9.bins ≤ min (2 + (entry9.bins - 2)) 255 ∧ ¬entry9.bins ≤ min (1 + (entry9.bins - 2)) 255) ∧
    ((departed.planner.log.reverse.find? fun y => y.answers 0x0C11 9).map fun x => x.expected.contains 5) = some true ∧
    (s.worksAs .train = true ∧ (s.planner.log[0]?.map LogEntry.timer) = some (.running 1050) ∧
      s.due (some 1050) = true) := by decide +kernel

/-- With one claim admitted and three places free in the transmit queue more than the five that a full manifest takes; and
without a pacer. -/
theorem witness_LoadLockFixesManifest :
    let five : State := { planning with air.txq := List.replicate 3 ⟨.report, []⟩ }
    planning.worksAs .train = true ∧ planning.planner.current = none ∧
      planning.planner.planning = some (run11 .planning none) ∧
      (∃ e ∈ planning.book.entries, e.run = 0x0C11 ∧ e.admitted = true ∧ ∃ x ∈ planning.prof.route, x.stop = e.stop) ∧
      (five.isActive = true ∧ five.synced = true ∧ five.air.txq.length + 5 ≤ 8) ∧
      ({ planning with line.state := .unsynced } : State).synced = false := by decide +kernel

/-- R105, R117: a LATE claim raises its notice, and of 33 claims the last in key order stays out. -/
theorem test_load_lock_takes_32_in_key_order :
    let claim := fun (i : Nat) =>
      { peer (5 + i) (BitVec.ofNat 16 (1060 - i)) with stop := 9, admitted := true, late := i == 32 }
    let t := after .loadPress { planning with book.entries := (List.range 33).map claim }
    t.planner.manifest.length = 32 ∧ t.planner.manifest.head?.map ManifestEntry.station = some 37 ∧
      t.panel.notices.map (fun x => (x.kind, x.station)) = [(.late, 37)] := by decide +kernel

theorem witness_GoPressDeparts :
    (∀ s ∈ [train .loading none, train .atstop (some 9), train .detour (some 9)], s.worksAs .train = true) ∧
    ((train .loading none).planner.current = some (run11 .loading none) ∧ (train .loading none).isActive = true ∧
      (train .loading none).synced = true ∧ (train .loading none).planner.planning = none) ∧
    ({ train .loading none with line.state := .unsynced } : State).synced = false ∧
    ((train .atstop (some 9)).planner.current = some (run11 .atstop (some 9)) ∧ (train .atstop (some 9)).txRoom = true) ∧
    (train .detour (some 9)).planner.current = some (run11 .detour (some 9)) ∧
      atStop.planner.log.getLast?.isSome = true := by decide +kernel

theorem witness_HoldTogglesAndRefusedPress :
    let is := fun (s : State) (sts : List RunState) => s.planner.lead.any fun r => sts.contains r.state
    ((train .enroute none).planner.current = some (run11 .enroute none) ∧
      (train .held none).planner.current = some (run11 .held none)) ∧
    (is (train .held none) [.planning] = false ∧ is (train .held none) [.loading, .atstop, .detour] = false ∧
      is (train .detour (some 9)) [.enroute, .held] = false ∧ is (station .train 12) [.planning] = false) := by
  decide +kernel

/-- An unserved stop, a served stop with and without something outstanding, a stop off the route, the supermarket with the
planning slot empty and full and without a pacer, and the same while HELD or LOADING; no run, and the PLANNING run as
lead. -/
theorem witness_StrobeArrivesAtStop :
    let at0 (v : BitVec 5) (s : State) : State := { s with planner.stopIn := ⟨some v, some v⟩ }
    let served (s : State) : State :=
      { s with planner.current := some { run11 .enroute none with served := [false, true, false] } }
    ((train .enroute none).worksAs .train = true ∧ (train .enroute none).planner.stopIn.acc = some 9 ∧
      (train .enroute none).routeServed (run11 .enroute none) 9 = some false) ∧
    ((served (train .enroute none)).routeServed { run11 .enroute none with served := [false, true, false] } 9 = some true ∧
      (train .enroute none).outstandingAt 9 = true ∧
      ({ train .enroute none with planner.manifest := [] } : State).outstandingAt 9 = false) ∧
    ((at0 31 (train .enroute none)).planner.stopIn.acc = some 31 ∧
      (train .enroute none).routeServed (run11 .enroute none) 31 = none) ∧
    (let s := at0 0 (train .enroute none)
     let full : State := { s with planner.planning := some { run11 .planning none with id := 0x0C12 } }
     s.planner.stopIn.acc = some 0 ∧ s.isActive = true ∧ s.synced = true ∧ s.planner.planning = none ∧
       s.bookSettled = true ∧ s.busy = false ∧ s.air.txq.length + 4 ≤ 8 ∧ full.planner.planning.isSome = true ∧
       ({ s with line.state := .unsynced } : State).synced = false) ∧
    (planning.worksAs .train = true ∧ planning.planner.stopIn.acc = some 9 ∧ planning.planner.current = none ∧
      planning.planner.planning.map Run.state = some .planning ∧ (station .train 12).planner.planning = none ∧
      (station .train 12).planner.current = none) ∧
    ((train .held none).planner.current = some (run11 .held none) ∧ (train .held none).outstandingAt 9 = true ∧
      (train .held none).outstandingAt 4 = false) ∧
    (train .loading none).planner.current = some (run11 .loading none) ∧
    ((train .atstop (some 4)).planner.current = some (run11 .atstop (some 4)) ∧
      (train .detour (some 4)).planner.current = some (run11 .detour (some 4)) ∧
      (train .atstop (some 4)).isActive = true ∧ (train .atstop (some 4)).air.txq.length + 4 ≤ 8 ∧
      (train .atstop (some 4)).synced = true ∧ (train .atstop (some 4)).planner.planning = none ∧
      (train .atstop (some 4)).ownByte ++ (train .atstop (some 4)).planner.nextRun ≠ (run11 .atstop none).id ∧
      (train .atstop (some 4)).routeServed { run11 .atstop none with served := [true, false, false] } 9 = some false ∧
      (train .atstop (some 4)).routeServed { run11 .atstop none with served := [true, false, false] } 4 = some true ∧
      (train .atstop (some 4)).outstandingAt 9 = true ∧ (train .atstop (some 4)).outstandingAt 4 = false ∧
      (train .atstop (some 4)).routeServed (run11 .atstop none) 31 = none) := by decide +kernel

/-- R116: a strobe at the next stop departs from the last one; R110: at the supermarket it closes the run. -/
theorem test_strobe_departs_first :
    let t := after .arrivalStrobe (train .atstop (some 4))
    let c := after .arrivalStrobe { train .enroute none with planner.stopIn := ⟨some 0, some 0⟩ }
    t.planner.current.map (fun r => (r.present, r.served)) = some (some 9, [true, false, false]) ∧
      (⟨.depart, [0x11, 0x0C, 4]⟩ : TxFrame) ∈ t.air.txq ∧ (⟨.arrive, [0x11, 0x0C, 9, 0]⟩ : TxFrame) ∈ t.air.txq ∧
      (c.air.txq.head?.map fun f => (f.kind, f.payload.take 3)) = some (.run, [0x11, 0x0C, 6]) := by decide +kernel

/-- A current run alone, a current and a PLANNING run with 32 manifest entries and 2 frames waiting, a PLANNING run alone,
and a train that hears no pacer. -/
theorem witness_TrainRefreshAnnouncesRuns :
    let s : State := { train .enroute none with planner.refresh := some 1000 }
    let both : State := { s with
      planner.planning := some { run11 .planning none with id := 0x0C12 },
      planner.manifest := List.replicate 32 entry9, air.txq := List.replicate 2 ⟨.report, []⟩ }
    (s.worksAs .train = true ∧ s.due s.planner.refresh = true ∧ s.announces = true ∧ s.txRoom = true ∧
      s.planner.current = some (run11 .enroute none)) ∧
    (both.announces = true ∧ both.planner.current.isSome = true ∧ both.planner.planning.isSome = true ∧
      both.air.txq.length + 2 + max 1 ((both.planner.manifest.length + 7) / 8) = 8 ∧
      both.planner.manifest.length ≤ 32) ∧
    (planning.announces = true ∧ planning.planner.current = none ∧
      planning.planner.planning = some (run11 .planning none)) ∧
    (station .train 12).announces = false := by decide +kernel

theorem witness_PlannerSlotsStayLegal :
    (train .enroute none).PlannerInv ∧ atStop.PlannerInv ∧
      step { train .enroute none with pending := [.arrivalStrobe] } = .next atStop :=
  ⟨⟨nofun, fun _ h => (by cases h; decide), by decide, by decide⟩,
   ⟨nofun, fun _ h => (by cases h; decide), by decide +kernel, by decide +kernel⟩, rfl⟩

theorem witness_RunListStaysDistinct :
    heard.RunListInv ∧ step { heard with pending := [.lampFrame] } =
      .next (after .lampFrame { heard with pending := [] }) :=
  ⟨by unfold State.RunListInv; decide +kernel, step_lampFrame heard⟩

/-- A notice merged; one placed eighth; one that displaces and one that is dropped at a full list. A notice shown, with
notices lost before it; no notice, in LOADING and at a stop. -/
theorem witness_NoticesRaisedAndAcknowledged :
    let s := after .holdPress (train .atstop (some 9))
    let list := fun (n : Nat) => (List.range n).map fun i => (⟨.late, i + 1, 0, 1, 0⟩ : Notice)
    ((∃ x ∈ list 8, x.kind = .late ∧ x.station = 8) ∧ (∀ x ∈ list 7, ¬(x.kind = .late ∧ x.station = 8)) ∧
      (list 7).length < 8 ∧ 8 ≤ (list 8).length ∧
      (∀ x ∈ list 8, NoticeKind.short.priority < x.kind.priority) ∧
      (∀ x ∈ list 8, x.kind.priority ≤ NoticeKind.refused.priority)) ∧
    (s.worksAs .train = true ∧ (shownNotice s.panel.notices).isSome = true ∧ s.panel.lost = 0) ∧
    ({ s with panel.lost := 255 } : State).panel.lost ≠ 0 ∧
      (shownNotice (train .loading none).panel.notices = none ∧ (train .loading none).planner.manifest ≠ []) ∧
      (shownNotice atStop.panel.notices = none ∧ atStop.planner.lead = some (run11 .atstop (some 9))) := by
  decide +kernel

/-- R160: a SHORT notice displaces the newest of eight LATE ones, and a REFUSED notice is lost. -/
theorem test_full_notice_list :
    let p : Panel := { (train .enroute none).panel with
      notices := (List.range 8).map fun i => ⟨.late, i + 1, 0, 1, 0⟩ }
    let q := p.raise 9 .short 5 3
    q.notices.map (fun x => (x.kind, x.station)) = (List.range 7).map (fun i => (NoticeKind.late, i + 1)) ++ [(.short, 5)] ∧
      q.lost = 1 ∧ p.raise 9 .refused 0 1 = { p with lost := 1 } := by decide

theorem witness_NoticeListStaysDistinct :
    let s := after .holdPress (train .atstop (some 9))
    s.NoticeInv ∧ step { train .atstop (some 9) with pending := [.holdPress] } = .next s :=
  ⟨by unfold State.NoticeInv; decide +kernel, rfl⟩

/-- Bank A takes FRAME triggers and bank B LOCAL ones. -/
theorem witness_PresenceWorksLocalFace :
    rack.worksAs .rack = true ∧ rack.prof.isLocal .a = false ∧ rack.prof.isLocal .b = true ∧ bankOf 7 = .a ∧
      bankOf 8 = .b := by decide +kernel

/-- R149: the reference run-out within the safety, and one unit past it; a LATE claim; an ETA after the run-out. -/
theorem witness_AtRiskFollowsLaneAndRun :
    let at2 := fun (r : LaneRec) => (heard.setLane 3 { r with forecast := some ⟨1001, 1013, false⟩ }).riskOf 3
    (heard.RiskInv ∧ step { heard with pending := [.lampFrame] } =
      .next (after .lampFrame { heard with pending := [] })) ∧
    (at2 { lane3 with call := .calling } = true ∧
      (heard.setLane 3 { lane3 with call := .calling, forecast := some ⟨1002, 1014, false⟩ }).riskOf 3 = false ∧
      at2 { lane3 with call := .waiting, late := true } = true ∧ at2 { lane3 with call := .waiting } = false ∧
      at2 { lane3 with call := .manifested, onRun := some 0x0C11 } = true) :=
  ⟨⟨⟨by decide +kernel, by decide +kernel⟩, step_lampFrame heard⟩, by decide +kernel⟩

theorem witness_LampFrameShowsLamps :
    rack.start.resetLow = false ∧ rack.start.role ≠ .train ∧ rack.worksAs .rack = true ∧
      (pacer .active).worksAs .rack = false := by decide +kernel

/-- At a stop with one entry outstanding, the index at 1 and past it. -/
theorem witness_DisplayFrameHoldsForty :
    (∀ st ∈ [StartState.load, .check, .fault, .listen, .active],
      ({ train .enroute none with start.state := st } : State).start.state = st) ∧
    ((train .enroute none).start.resetLow = false ∧ (train .enroute none).start.role = .train) ∧
    ((atStop.planner.manifest.filter fun e => some e.stop == some 9 && e.status != .done).length = 1 ∧
      atStop.planner.current = some (run11 .atstop (some 9)) ∧ ¬1 < atStop.panel.stopIx ∧
      1 < ({ atStop with panel.stopIx := 2 } : State).panel.stopIx) := by decide +kernel

theorem witness_FrameReceivedAsSent :
    let s : State := { rack with air.rx := .inFrame }
    let f : TxFrame := ⟨.query, [7, 0]⟩
    s.receiving = true ∧ s.air.rx = .inFrame ∧ f.payload.length ≤ 248 ∧
      (List.replicate 248 (0 : Byte)).length ≤ 248 ∧
      (wireBytes 127 f).drop 1 = queryBytes.take 5 ++ [queryBytes.getD 5 0, queryBytes.getD 6 0] ∧
      ((0 : Byte), (0 : Byte)) ≠ (queryBytes.getD 5 0, queryBytes.getD 6 0) := by decide +kernel

/-- Hunting and in a frame; each test of R171 for a station at address 7; a code that is no kind; KEY high. -/
theorem witness_ReceptionFaultsCounted :
    (rack.receiving = true ∧ rack.air.rx = .hunting ∧ rack.ownByte = 7) ∧
    (({ rack with air.rx := .inFrame } : State).receiving = true ∧ ((1 : Byte).toNat < 2 ∧ 250 < (251 : Byte).toNat)) ∧
    (let f : RxFrame := ⟨.report, 2, []⟩
     ({ rack with air.rxq := List.replicate 8 f } : State).air.rxq.length = 8) ∧
    ((0x28 : Byte) ∉ ([0x21, 0x22, 0x23, 0x24, 0x25, 0x26, 0x27, 0x2E, 0x2F] : List Byte)) ∧
    ({ rack with air.tx := some ⟨[0xB5], 2⟩ } : State).receiving = false := by decide +kernel

theorem witness_QueryAnsweredByReport :
    (rack.receiving = true ∧ rack.air.rxq = [] ∧ rack.bookSettled = true ∧ rack.txRoom = true ∧
      rack.ownByte = 7 ∧ (127 : Byte) ≠ rack.ownByte ∧ (rack.page 0).isSome = true ∧ (rack.page 4).isSome = true ∧
      rack.page 5 = none) ∧
    (let s : State := { train .enroute none with planner.planning := some { run11 .planning none with id := 0x0C12 } }
     s.worksAs .train = true ∧ s.planner.current.isSome = true ∧ s.planner.planning.isSome = true) ∧
    (pacer .active).worksAs .pacer = true := by decide +kernel

/-- R200: page 1 of a rack shows lane 3, an absent lane beside it. -/
theorem test_rack_page_shows_lane :
    (rack.page 1).map (fun x => x.drop 40) =
      some ([0, 0, 0, 0, 0, 0, 0, 0, 0, 0, 0, 0, 0, 0, 0, 0, 0, 0, 1, 0] ++
        [0, 30, 0, 2, 0, 0, 0, 0, 0, 0, 0, 0, 0, 0, 0, 0, 0, 0, 16, 0]) := by decide +kernel

theorem witness_SendingFollowsChannelAccess :
    (ready.portWorks = true ∧ ready.air.tx = none ∧ ready.air.backoff = 0 ∧ ready.channelQuiet = true ∧
      ready.air.txq.length = 1) ∧
    (({ ready with air.quiet := some 3 } : State).channelQuiet = false ∧ rack.air.txq = []) ∧
    (({ ready with air.tx := some ⟨[], 0⟩ } : State).air.tx = some ⟨[], 0⟩ ∧
      ([0xB5, 0x21] : List Byte)[1]? = some 0x21 ∧
      ({ ready with air.tx := some ⟨[0xB5, 0x21], 2 - 1⟩ } : State).air.tx = some ⟨[0xB5, 0x21], 1⟩) := by decide +kernel

theorem witness_TransmitQueueStaysDistinct :
    atStop.TransmitInv ∧ step { atStop with pending := [.goPress] } = .next (after .goPress { atStop with pending := [] }) :=
  ⟨by unfold State.TransmitInv; decide +kernel, rfl⟩

/-- R176, R177: not accepted in LISTEN; an empty queue, one with room, the same key waiting, and a queue of 8. -/
theorem witness_TransmitQueueStaysDistinct_placement :
    let run := fun (i : Byte) => (⟨.run, [i, 0x0C, 1]⟩ : TxFrame)
    let queue := fun (n : Nat) =>
      ({ train .enroute none with air.txq := (List.range n).map fun i => run (BitVec.ofNat 8 i) } : State)
    (listening (queue 0)).accepts .run = false ∧ (queue 0).accepts .run = true ∧ (queue 0).air.txq = [] ∧
    ((queue 8).air.txq.map TxFrame.key).Nodup ∧ (queue 8).air.txq[3]? = some (run 3) ∧
    (⟨.run, [3, 0x0C, 2]⟩ : TxFrame).key = (run 3).key ∧ (∀ g ∈ (queue 8).air.txq, g.key ≠ (run 8).key) ∧
    ((queue 8).offer (run 8)).cnt.txdrop = 1 ∧ ((queue 7).offer (run 7)).air.txq.length = 8 := by decide +kernel

/-- A CLAIMSET that waits for the busy book. -/
def waiting : State := after (.claimset 2 claims) calling

theorem witness_ReceiveQueueWaitsForBook :
    waiting.ReceiveInv ∧ waiting.air.rxq ≠ [] ∧ step { waiting with pending := [.lampFrame] } =
      .next (after .lampFrame { waiting with pending := [] }) :=
  ⟨⟨by decide +kernel, fun _ => ⟨by decide +kernel, by decide +kernel, ⟨.claimset, 2, claims⟩, [], by decide +kernel⟩⟩,
   by decide +kernel, step_lampFrame waiting⟩

theorem witness_WindowHoldsPUnits :
    adopted.WindowInv ∧ step { rack with pending := [unit3 1011 9 9 5 9] } =
      .next (after (unit3 1011 9 9 5 9) { rack with pending := [] }) :=
  ⟨by unfold State.WindowInv; decide +kernel, rfl⟩

/-- Every field at the top of its range. -/
theorem witness_PayloadsReadBack :
    (let r : RunNotice := ⟨0xFFFF, .closed, ⟨255, 255, 255, 255⟩, [⟨127, true, 0xFFFF⟩]⟩
     readRun (writeRun r) = some r) ∧
    (let c : ClaimItem := ⟨0xFFFF, 255, 255, 127, true, 255, 255, 0xFFFF⟩
     readClaimset 126 (writeClaimset (List.replicate 16 c)) = some ⟨126, List.replicate 16 c⟩) ∧
    (let p : ManifestPart := ⟨0xFFFF, 3, 4, List.replicate 8 ⟨255, 255, 255, 255⟩⟩
     readPart (writePart p) = some p) ∧
    (let r : Receipt := ⟨0xFFFF, 255, List.replicate 8 ⟨255, 255, 255⟩⟩
     readReceipt (writeReceipt r) = some r) := by decide +kernel

/-- The second sample of a change, and none: TAKT; FEED, EMPTY and RESERVE of lane 3; the presence of the LOCAL bank B; each
button and the strobe. -/
theorem witness_InputSampleTakesAcceptedChanges :
    let taktHigh : Pins := ⟨0x0C9, 0⟩
    let up : Debounce Bool := ⟨some true, some false⟩
    let sensor := fun (k : Nat) => (⟨2, BitVec.ofNat 48 (2 ^ k)⟩ : Pins)
    let lane : LaneRec := { lane3 with feedIn := ⟨up, false⟩, emptyIn := ⟨up, false⟩, reserveIn := ⟨up, false⟩ }
    let s : State := { rack.setLane 3 lane with bankB.presence := up }
    let button := { train .enroute none with
      planner.strobeIn := up, planner.loadIn := up, planner.goIn := up, planner.holdIn := up, planner.ackIn := up }
    (State.reset.working = false ∧ rack.working = true) ∧
    ((pacer .active).worksAs .pacer = true ∧ taktHigh.rp.getLsbD 7 = true ∧
      ({ pacer .active with pacer.taktIn := up } : State).pacer.taktIn = ⟨some true, some false⟩ ∧
      (pacer .active).pacer.taktIn.last ≠ some true) ∧
    (s.worksAs .rack = true ∧ (s.lane 3).present = true ∧ 1 < (s.lane 3).b ∧ (s.lane 3).b < (s.lane 3).cfg.binsMax ∧
      (s.lane 3).feedIn.level = up ∧ (s.lane 3).emptyIn.level = up ∧ (s.lane 3).reserveIn.level = up ∧
      (∀ k : Fin 3, ∀ j : Fin 3, (sensor (9 + k.val)).sense.getLsbD (9 + j.val) = decide (j = k))) ∧
    (∀ k : Fin 3, (rack.lane 15).feedIn.level.last ≠ some ((sensor 9).sense.getLsbD (45 + k.val))) ∧
    ((s.bank .b).presence = up ∧ (sensor 9).rp.getLsbD 1 = true ∧ s.prof.isLocal .b = true ∧
      s.prof.isLocal .a = false) ∧
    (button.worksAs .train = true ∧
      ∀ k : Fin 5, ∀ j : Fin 5, (BitVec.ofNat 12 (2 ^ (5 + k.val))).getLsbD (5 + j.val) = decide (j = k)) := by
  decide +kernel

/-- R22: a scan is an SNS_LD pulse and 48 clocks, in the three roles; in LOAD and with RESETn low there is none. -/
theorem test_scan_pulses_sense_port :
    (∀ s ∈ [rack, train .enroute none, pacer .listen],
      s.scanPulses.head? = some .load ∧ s.scanPulses.count .clock = 48 ∧ s.scanPulses.length = 49) ∧
    (loading .rack .pin).scanPulses = [] ∧ State.reset.scanPulses = [] := by decide +kernel

/-- R25, R153, R102: the second equal sample of EMPTY, of the presence of bank B and of HOLD. -/
theorem test_second_equal_sample_is_event :
    let up : Debounce Bool := ⟨some true, some false⟩
    let s : State := { rack.setLane 3 { lane3 with emptyIn := ⟨up, false⟩ } with bankB.presence := up }
    let t := after (.inputSample ⟨2, 0x400⟩) s
    let h := after (.inputSample ⟨0x100, 0⟩) { train .enroute none with planner.holdIn := up }
    stock3 t = (1, 24, 6) ∧ t.bankB.faceOpen = true ∧ h.planner.current.map Run.state = some .held := by decide +kernel

end Sys2Proof.Tests
end

section
/-! PROOFS. EMPTY and RESERVE (R28 to R30): an accepted change of a present lane, the restock that both events make,
and the statements about them. -/

namespace Sys2Proof.Machine

/-! ## An accepted change of a present lane (R24, R25) -/

/-- The input of a sensor holds this level as accepted, with its change latch clear. -/
def State.sensed (s : State) (l : LaneIx) (k : Sensor) (level : Bool) : State :=
  s.modLane l fun r => r.setSensor k ⟨.accept level, false⟩

@[simp] theorem LaneRec.sensor_setSensor (r : LaneRec) (k : Sensor) (x : SensorIn) : (r.setSensor k x).sensor k = x := by
  cases k <;> rfl

@[simp] theorem LaneRec.setSensor_setSensor (r : LaneRec) (k : Sensor) (x y : SensorIn) :
    (r.setSensor k x).setSensor k y = r.setSensor k y := by
  cases k <;> rfl

@[simp] theorem LaneRec.setSensor_frame (r : LaneRec) (k : Sensor) (x : SensorIn) :
    (r.setSensor k x).present = r.present ∧ (r.setSensor k x).b = r.b ∧ (r.setSensor k x).stock = r.stock ∧
    (r.setSensor k x).delivery = r.delivery ∧ (r.setSensor k x).surplus = r.surplus ∧
    (r.setSensor k x).forecast = r.forecast := by
  cases k <;> exact ⟨rfl, rfl, rfl, rfl, rfl, rfl⟩

/-- A forecast reads no sensor input. -/
@[simp] theorem State.forecastOf_setSensor (s : State) (r : LaneRec) (k : Sensor) (x : SensorIn) :
    s.forecastOf (r.setSensor k x) = s.forecastOf r := by
  cases k <;> rfl

/-- Of two changes of one lane's record the second acts on the result of the first. -/
theorem State.modLane_modLane (s : State) (l : LaneIx) (f g : LaneRec → LaneRec) :
    (s.modLane l f).modLane l g = s.modLane l fun r => g (f r) := by
  rw [State.modLane, State.lane_modLane_same]
  simp [State.modLane, State.setLane]

/-- The latch that an accepted change sets is cleared when the stock tracker takes it. -/
theorem State.clearLatch_acceptSensor (s : State) (l : LaneIx) (k : Sensor) (level : Bool) :
    (s.acceptSensor l k level).clearLatch l k = s.sensed l k level := by
  simp [State.acceptSensor, State.clearLatch, State.sensed, State.modLane_modLane]

/-- On a present lane an accepted change is taken with its latch clear, and only a rising one has its event. -/
theorem State.takeChange_acceptSensor (s : State) (l : LaneIx) (k : Sensor) (level rising : Bool)
    (hp : (s.lane l).present = true) :
    (s.acceptSensor l k level).takeChange l k rising =
      if rising then (s.sensed l k level).takeRising l k else s.sensed l k level := by
  have hacc : ((s.acceptSensor l k level).lane l).present = true := by simp [State.acceptSensor, hp]
  rw [State.takeChange, if_pos hacc, State.clearLatch_acceptSensor]

theorem State.sensed_lane_same (s : State) (l : LaneIx) (k : Sensor) (level : Bool) :
    (s.sensed l k level).lane l = (s.lane l).setSensor k ⟨.accept level, false⟩ := State.lane_modLane_same ..

@[simp] theorem State.sensed_lane_b (s : State) (l : LaneIx) (k : Sensor) (level : Bool) :
    ((s.sensed l k level).lane l).b = (s.lane l).b := by
  simp [State.sensed_lane_same]

@[simp] theorem State.sensed_cnt (s : State) (l : LaneIx) (k : Sensor) (level : Bool) :
    (s.sensed l k level).cnt = s.cnt := rfl

theorem State.sensed_lane_ne (s : State) {l m : LaneIx} (h : m ≠ l) (k : Sensor) (level : Bool) :
    (s.sensed l k level).lane m = s.lane m := State.lane_setLane_ne s h _

theorem exec_emptyEvent_of_present {s : State} {l : LaneIx} (hw : s.worksAs .rack = true)
    (hp : (s.lane l).present = true) :
    exec (.emptyEvent l) s = .next ((s.sensed l .empty true).takeEmpty l).endEvent := by
  simp [exec, execEmptyEvent, hw, State.event, State.takeChange_acceptSensor, hp, State.takeRising]

theorem exec_reserveEvent_of_present {s : State} {l : LaneIx} (hw : s.worksAs .rack = true)
    (hp : (s.lane l).present = true) :
    exec (.reserveEvent l) s = .next ((s.sensed l .reserve true).takeReserve l).endEvent := by
  simp [exec, execReserveEvent, hw, State.event, State.takeChange_acceptSensor, hp, State.takeRising]

theorem exec_sensorFallingChange_of_present {s : State} {l : LaneIx} (k : Sensor) (hw : s.worksAs .rack = true)
    (hp : (s.lane l).present = true) :
    exec (.sensorFallingChange l k) s = .next (s.sensed l k false).endEvent := by
  simp [exec, execSensorFallingChange, hw, State.event, State.takeChange_acceptSensor, hp]

/-! ## A lane's stock changed and the lane forecast (R28, R30, R43) -/

/-- A lane takes new stock figures and is then passed to the forecast unit. -/
def State.restock (s : State) (l : LaneIx) (f : LaneRec → LaneRec) : State := (s.modLane l f).forecastLane l

/-- The lane restocked holds the new figures, but for its forecast and call condition. -/
theorem State.restock_sansForecast (s : State) (l : LaneIx) (f : LaneRec → LaneRec) :
    ((s.restock l f).lane l).sansForecast = (f (s.lane l)).sansForecast := by
  rw [State.restock, State.forecastLane_lane, State.lane_modLane_same]
  split <;> rfl

/-- A present lane restocked is forecast on its new figures where a pacer has been heard (R43). -/
theorem State.restock_forecast (s : State) (l : LaneIx) (f : LaneRec → LaneRec)
    (hp : (f (s.lane l)).present = true) :
    ((s.restock l f).lane l).forecast =
      if s.synced then some (s.forecastOf (f (s.lane l))) else (f (s.lane l)).forecast := by
  have hsync : (s.modLane l f).synced = s.synced := rfl
  have hcast : (s.modLane l f).forecastOf = s.forecastOf := rfl
  rw [State.restock, State.forecastLane_lane, State.lane_modLane_same, hsync, hcast]
  by_cases hs : s.synced = true <;> simp [hp, hs]

theorem State.restock_lane_ne (s : State) {l m : LaneIx} (h : m ≠ l) (f : LaneRec → LaneRec) :
    (s.restock l f).lane m = s.lane m := by
  rw [State.restock, State.forecastLane_lane, if_neg fun hc => h hc.1]
  exact State.lane_setLane_ne s h _

theorem State.restock_entries (s : State) (l : LaneIx) (f : LaneRec → LaneRec) :
    (s.restock l f).book.entries = s.book.entries :=
  (congrArg Book.entries ((s.modLane l f).forecastLane_book l) :)

/-- The whole event of a sensor that restocks its lane, where the new figures do not depend on that input: the lane holds
them, and is forecast on them where a pacer has been heard. -/
theorem State.restock_sensed_event_lane (s : State) (l : LaneIx) (k : Sensor) (f : LaneRec → LaneRec)
    (hf : ∀ r x, f (r.setSensor k x) = (f r).setSensor k x) (hp : (f (s.lane l)).present = true) :
    let r := f (s.lane l)
    let r' := ((s.sensed l k true).restock l f).endEvent.lane l
    r'.stock = r.stock ∧ r'.delivery = r.delivery ∧ r'.surplus = r.surplus ∧
      r'.forecast = if s.synced then some (s.forecastOf r) else r.forecast := by
  have hsync : (s.sensed l k true).synced = s.synced := rfl
  have hcast : (s.sensed l k true).forecastOf = s.forecastOf := rfl
  have hrec : f ((s.sensed l k true).lane l) = (f (s.lane l)).setSensor k ⟨.accept true, false⟩ := by
    rw [State.sensed_lane_same, hf]
  obtain ⟨hstock, hdelivery, -, -, -, hsurplus, -, hforecast, -⟩ :=
    ((s.sensed l k true).restock l f).endEvent_lane l
  obtain ⟨hstock', hdelivery', -, -, -, hsurplus', -⟩ :=
    LaneRec.of_sansForecast ((s.sensed l k true).restock_sansForecast l f)
  have hforecast' := (s.sensed l k true).restock_forecast l f (by simp [hrec, hp])
  simp only [hstock, hdelivery, hsurplus, hforecast, hstock', hdelivery', hsurplus', hforecast', hrec, hsync, hcast,
    LaneRec.setSensor_frame, State.forecastOf_setSensor, and_self]

/-! ## EMPTY and RESERVE (R28 to R30) -/

theorem State.takeEmpty_of_bins {s : State} {l : LaneIx} (h : 0 < (s.lane l).b) :
    s.takeEmpty l = s.restock l LaneRec.emptied := by
  rw [State.takeEmpty, if_neg (Nat.ne_of_gt h)]; rfl

theorem State.takeEmpty_cnt_of_bins {s : State} {l : LaneIx} (h : 0 < (s.lane l).b) : (s.takeEmpty l).cnt = s.cnt := by
  simp [State.takeEmpty_of_bins h, State.restock]

/-- A phantom empty sets S to 0 and makes no forecast. -/
theorem State.takeEmpty_lane_of_no_bins {s : State} {l : LaneIx} (h : (s.lane l).b = 0) :
    (s.takeEmpty l).lane l = { s.lane l with s := 0 } := by
  rw [State.takeEmpty, if_pos h]
  exact State.lane_modLane_same s l fun r => { r with s := 0 }

theorem State.takeEmpty_cnt_of_no_bins {s : State} {l : LaneIx} (h : (s.lane l).b = 0) :
    (s.takeEmpty l).cnt = { s.cnt with phantom := bump16 s.cnt.phantom } := by
  rw [State.takeEmpty, if_pos h]; rfl

theorem State.takeEmpty_lane_ne (s : State) {l m : LaneIx} (h : m ≠ l) : (s.takeEmpty l).lane m = s.lane m := by
  rcases Nat.eq_zero_or_pos (s.lane l).b with hb | hb
  · rw [State.takeEmpty, if_pos hb]; exact State.lane_setLane_ne s h _
  · rw [State.takeEmpty_of_bins hb, State.restock_lane_ne s h]

theorem State.takeEmpty_entries (s : State) (l : LaneIx) : (s.takeEmpty l).book.entries = s.book.entries := by
  rcases Nat.eq_zero_or_pos (s.lane l).b with hb | hb
  · rw [State.takeEmpty, if_pos hb]; rfl
  · rw [State.takeEmpty_of_bins hb, State.restock_entries]

theorem State.takeReserve_of_bins {s : State} {l : LaneIx} (h : 1 < (s.lane l).b) :
    s.takeReserve l = s.restock l LaneRec.reserved := by
  rw [State.takeReserve, if_pos h]; rfl

theorem State.takeReserve_of_one_bin {s : State} {l : LaneIx} (h : (s.lane l).b ≤ 1) : s.takeReserve l = s := by
  rw [State.takeReserve, if_neg (Nat.not_lt.mpr h)]

theorem State.takeReserve_lane_ne (s : State) {l m : LaneIx} (h : m ≠ l) : (s.takeReserve l).lane m = s.lane m := by
  rcases Nat.lt_or_ge 1 (s.lane l).b with hb | hb
  · rw [State.takeReserve_of_bins hb, State.restock_lane_ne s h]
  · rw [State.takeReserve_of_one_bin hb]

theorem State.takeReserve_entries (s : State) (l : LaneIx) : (s.takeReserve l).book.entries = s.book.entries := by
  rcases Nat.lt_or_ge 1 (s.lane l).b with hb | hb
  · rw [State.takeReserve_of_bins hb, State.restock_entries]
  · rw [State.takeReserve_of_one_bin hb]

/-- The blocks that an EMPTY and a RESERVE leave: all but the lanes, the counters and the requests to the book. -/
def State.keepsBlocks (s t : State) : Prop :=
  t.air = s.air ∧ t.line = s.line ∧ t.start = s.start ∧ t.prof = s.prof ∧ t.runs = s.runs ∧
    t.planner = s.planner ∧ t.panel = s.panel ∧ t.bankA = s.bankA ∧ t.bankB = s.bankB ∧
    t.book.entries = s.book.entries

theorem State.keepsBlocks_emptyEvent (s : State) (l : LaneIx) :
    s.keepsBlocks ((s.sensed l .empty true).takeEmpty l).endEvent := by
  simp [State.keepsBlocks, State.takeEmpty_entries, State.sensed]

theorem State.keepsBlocks_reserveEvent (s : State) (l : LaneIx) :
    s.keepsBlocks ((s.sensed l .reserve true).takeReserve l).endEvent := by
  simp [State.keepsBlocks, State.takeReserve_entries, State.sensed]

/-- STARVED after an EMPTY is cleared when parts are there, and kept otherwise (R28). -/
theorem LaneRec.emptied_starved (r : LaneRec) :
    r.emptied.starved = if 0 < (r.b - 1) * r.cfg.q then false else r.starved := by
  rcases Nat.eq_zero_or_pos ((r.b - 1) * r.cfg.q) with h | h
  · simp [LaneRec.emptied, h]
  · simp [LaneRec.emptied, h, Nat.ne_of_gt h]

/-- The stock figures after an EMPTY with B above 0 (R28). -/
theorem LaneRec.emptied_stock (r : LaneRec) :
    r.emptied.stock =
      { b := r.b - 1, s := (r.b - 1) * r.cfg.q, uncounted := false,
        starved := if 0 < (r.b - 1) * r.cfg.q then false else r.starved,
        drift := clampDrift (r.drift + ((r.s : Int) - ((r.b - 1) * r.cfg.q : Nat))), shortfall := r.shortfall } := by
  rw [LaneRec.stock, LaneRec.emptied_starved]; rfl

/-- The stock figures after a RESERVE with B above 1 (R30). -/
theorem LaneRec.reserved_stock (r : LaneRec) :
    r.reserved.stock =
      { r.stock with b := 1, s := min r.s r.cfg.q,
                     drift := clampDrift (r.drift + ((r.s : Int) - (min r.s r.cfg.q : Nat))) } := rfl

/-- The event of an EMPTY on a lane with bins. -/
theorem State.emptyEvent_lane (s : State) (l : LaneIx) (hp : (s.lane l).present = true) (hb : 0 < (s.lane l).b) :
    let r := s.lane l
    let r' := ((s.sensed l .empty true).takeEmpty l).endEvent.lane l
    r'.stock = r.emptied.stock ∧ r'.delivery = r.delivery ∧ r'.surplus = r.surplus ∧
      r'.forecast = if s.synced then some (s.forecastOf r.emptied) else r.forecast := by
  rw [State.takeEmpty_of_bins (by rwa [State.sensed_lane_b])]
  exact s.restock_sensed_event_lane l .empty LaneRec.emptied (fun _ _ => rfl) hp

/-- The event of a RESERVE on a lane with more than one bin. -/
theorem State.reserveEvent_lane (s : State) (l : LaneIx) (hp : (s.lane l).present = true) (hb : 1 < (s.lane l).b) :
    let r := s.lane l
    let r' := ((s.sensed l .reserve true).takeReserve l).endEvent.lane l
    r'.stock = r.reserved.stock ∧ r'.delivery = r.delivery ∧ r'.surplus = r.surplus ∧
      r'.forecast = if s.synced then some (s.forecastOf r.reserved) else r.forecast := by
  rw [State.takeReserve_of_bins (by rwa [State.sensed_lane_b])]
  exact s.restock_sensed_event_lane l .reserve LaneRec.reserved (fun _ _ => rfl) hp

/-- With one bin or none a RESERVE leaves the lane but for its input. -/
theorem State.reserveEvent_steady_of_one_bin (s : State) (l : LaneIx) (hb : (s.lane l).b ≤ 1) :
    (((s.sensed l .reserve true).takeReserve l).endEvent.lane l).steady =
      { (s.lane l).steady with reserveIn := ⟨.accept true, false⟩ } := by
  rw [State.endEvent_steady, State.takeReserve_of_one_bin (by rwa [State.sensed_lane_b]), State.sensed_lane_same]
  rfl

/-- With any number of bins a RESERVE leaves the delivery and the surplus bins total of its lane. -/
theorem State.reserveEvent_keeps (s : State) (l : LaneIx) (hp : (s.lane l).present = true) :
    let r' := ((s.sensed l .reserve true).takeReserve l).endEvent.lane l
    r'.delivery = (s.lane l).delivery ∧ r'.surplus = (s.lane l).surplus := by
  rcases Nat.lt_or_ge 1 (s.lane l).b with hb | hb
  · obtain ⟨-, hdelivery, hsurplus, -⟩ := s.reserveEvent_lane l hp hb
    exact ⟨hdelivery, hsurplus⟩
  · obtain ⟨-, hdelivery, -, -, -, hsurplus, -⟩ :=
      LaneRec.of_steady (r' := { s.lane l with reserveIn := ⟨.accept true, false⟩ })
        (s.reserveEvent_steady_of_one_bin l hb)
    exact ⟨hdelivery, hsurplus⟩

/-! ## The statements -/

/-- Settles O20: the lane is restocked with the figures of R28. -/
theorem emptyReconcilesStock : Obligations.EmptyReconcilesStock := by
  intro s l hw hp hb r rest
  obtain ⟨hstock, hdelivery, hsurplus, hforecast⟩ := s.emptyEvent_lane l hp hb
  rw [LaneRec.emptied_stock, LaneRec.stock, StockView.mk.injEq] at hstock
  obtain ⟨hbins, hparts, huncounted, hstarved, hdrift, hshortfall⟩ := hstock
  refine ⟨_, exec_emptyEvent_of_present hw hp, hbins, hparts, hdrift, huncounted, hstarved, hforecast, hshortfall,
    hsurplus, hdelivery, fun m hm => ?_, ?_, s.keepsBlocks_emptyEvent l⟩
  · rw [State.endEvent_steady, State.takeEmpty_lane_ne _ hm, State.sensed_lane_ne s hm]
  · have hsensed : 0 < ((s.sensed l .empty true).lane l).b := by rwa [State.sensed_lane_b]
    simp [State.takeEmpty_cnt_of_bins hsensed]

/-- Settles O21: with B = 0 the EMPTY sets S to 0 and raises PHANTOM, and no forecast is made. -/
theorem phantomEmptyCounted : Obligations.PhantomEmptyCounted := by
  intro s l hw hp hb r
  have hnone : ((s.sensed l .empty true).lane l).b = 0 := by rwa [State.sensed_lane_b]
  refine ⟨_, exec_emptyEvent_of_present hw hp, ?_, ?_, fun m hm => ?_, s.keepsBlocks_emptyEvent l⟩
  · simp [State.takeEmpty_cnt_of_no_bins hnone, bump16, sat16]
  · rw [State.endEvent_steady, State.takeEmpty_lane_of_no_bins hnone, State.sensed_lane_same]; rfl
  · rw [State.endEvent_steady, State.takeEmpty_lane_ne _ hm, State.sensed_lane_ne s hm]

/-- Settles O22: above one bin the lane is restocked with the figures of R30; otherwise only its input changes. -/
theorem reserveCapsAtOneBin : Obligations.ReserveCapsAtOneBin := by
  intro s l hw hp r
  obtain ⟨hdelivery, hsurplus⟩ := s.reserveEvent_keeps l hp
  refine ⟨⟨_, exec_reserveEvent_of_present hw hp, fun hb => ?_, s.reserveEvent_steady_of_one_bin l, hsurplus, hdelivery,
    fun m hm => ?_, ?_, s.keepsBlocks_reserveEvent l⟩, _, exec_sensorFallingChange_of_present .reserve hw hp, ?_⟩
  · obtain ⟨hstock, -, -, hforecast⟩ := s.reserveEvent_lane l hp hb
    exact ⟨hstock.trans (LaneRec.reserved_stock _), hforecast⟩
  · rw [State.endEvent_steady, State.takeReserve_lane_ne _ hm, State.sensed_lane_ne s hm]
  · simp [State.sensed]
  · rw [State.endEvent_steady, State.sensed_lane_same]; rfl

end Sys2Proof.Machine
end

section
/-! PROOFS. The step as a whole (Section 10.1, Section 9.6) and the timer unit (Section 0.5, R118). -/

namespace Sys2Proof.Machine

/-- Settles O1: `step` is defined by the front of the queue. -/
theorem stepRunsFrontCommand : Obligations.StepRunsFrontCommand := by
  intro c rest s h
  simp only [step, h]

/-- With no command waiting a step is a byte time. -/
theorem step_of_idle {s : State} (h : s.pending = []) : step s = .next s.byteTime := by
  simp only [step, h]

/-- Settles O2, by the cases of `State.byteTime`. -/
theorem idleStepPassesOneByteTime : Obligations.IdleStepPassesOneByteTime := by
  intro s h
  rw [step_of_idle h]
  refine ⟨fun hw => ?_, fun hw => ⟨fun x hx => ?_, fun hx hq => ?_, fun q hx hq => ?_⟩⟩
  · simp [State.byteTime, hw]
  · simp [State.byteTime, hw, hx]
  · simp [State.byteTime, hw, hx, hq]
  · simp [State.byteTime, hw, hx, hq]

theorem State.readEnd_pending (s : State) (img : List Byte) : (s.readEnd img).pending = s.pending := by
  cases hr : s.start.role <;>
    simp [State.readEnd, State.check, State.passCheck, State.adjust, State.setLanes, hr, apply_ite State.pending]

/-- Settles O3: each command's arm is a next state, and none of the operations behind them touches the queue of
commands. -/
theorem everyCommandAnswersNext : Obligations.EveryCommandAnswersNext := by
  intro c s
  cases c <;> refine ⟨_, rfl, ?_⟩
  case powerOnStart => rfl
  case pinReset => rfl
  case resetnLow => rfl
  case profileReadEnd => exact s.readEnd_pending _
  all_goals simp [apply_ite State.pending]

/-- E rises at a timer unit by one, held to 65535, while the current run travels (R118). -/
theorem Planner.elapse_eq (p : Planner) :
    p.elapse = { p with e :=
      if (p.current.any fun r => r.state == .enroute || r.state == .atstop || r.state == .detour) then min (p.e + 1) 65535
      else p.e } := by
  rcases p with ⟨_ | r⟩
  · simp [Planner.elapse]
  · cases hs : r.state <;> simp [Planner.elapse, hs, sat16]

/-- Settles O12. -/
theorem timerUnitRaisesClockAndTravel : Obligations.TimerUnitRaisesClockAndTravel := by
  intro s hlow hclock
  have htick : s.tickClock = { s with start.clock := s.start.clock + 1 } := by
    rw [State.tickClock, if_pos hclock]
  by_cases hw : s.worksAs .train = true
  · simp [exec, execTimerUnit, State.timerUnit, hlow, hw, htick, Planner.elapse_eq]
  · simp [exec, execTimerUnit, State.timerUnit, hlow, hw, htick]

/-- Settles O58. -/
theorem invariantsHoldAtReset : Obligations.InvariantsHoldAtReset := by
  have hlane : ∀ l, State.reset.lane l = .cleared := fun l => by simp [State.lane, State.reset]
  refine ⟨fun l h => ?_, ?_, ?_, ?_, ?_, ?_, ?_, ?_, ?_⟩
  · simp [hlane, LaneRec.cleared] at h
  · simp [State.TransmitInv, State.reset, Air.fresh]
  · simp [State.ReceiveInv, State.reset, Air.fresh]
  · simp [State.WindowInv, State.reset, LineClock.fresh]
  · simp [State.RunListInv, State.reset]
  · simp [State.PlannerInv, State.reset, Planner.fresh]
  · simp [State.NoticeInv, State.reset, Panel.fresh]
  · have hbook : State.reset.book = .fresh := rfl
    simp [State.BookInv, State.EntriesInv, State.OwnInv, hlane, hbook, Book.fresh, LaneRec.cleared, CallState.claims]
    simp [State.reset, Air.fresh]
  · simp [State.RiskInv, State.riskOf, hlane, LaneRec.cleared]

end Sys2Proof.Machine
end

section
/-! PROOFS. What the operations of the blocks leave of the air port: an owner block only offers frames, so everything of
the port but the transmit queue, its head's backoff count and the random register stands (Sections 9.4 to 9.6). -/

namespace Sys2Proof.Machine

/-- The air port but for what offering a frame changes: the transmit queue, the backoff count and the random register. -/
def Air.sansQueue (a : Air) : Air := { a with txq := [], backoff := 0, random := 0 }

/-- Ports equal but for the transmit queue, backoff and random register have every other field equal. -/
theorem Air.of_sansQueue {a b : Air} (h : a.sansQueue = b.sansQueue) :
    a.carrier = b.carrier ∧ a.quiet = b.quiet ∧ a.rx = b.rx ∧ a.rxq = b.rxq ∧ a.tx = b.tx ∧ a.clash = b.clash := by
  cases a; cases b; simp only [Air.sansQueue, Air.mk.injEq] at h; simp [h]

@[simp] theorem State.drawHead_sansQueue (s : State) : s.drawHead.air.sansQueue = s.air.sansQueue := by
  simp only [State.drawHead]; split <;> rfl

@[simp] theorem State.place_sansQueue (s : State) (f : TxFrame) : (s.place f).air.sansQueue = s.air.sansQueue := by
  simp only [State.place]; (repeat' split)
  · rfl
  · rw [State.drawHead_sansQueue]; rfl
  · rfl
  · rfl

@[simp] theorem State.offer_sansQueue (s : State) (f : TxFrame) : (s.offer f).air.sansQueue = s.air.sansQueue := by
  simp only [State.offer]; split <;> simp

@[simp] theorem State.offerPart_foldl_sansQueue (run : RunId) (m : List ManifestEntry) (xs : List Nat) (s : State) :
    (xs.foldl (fun t i => t.offer (manifestFrame run m i)) s).air.sansQueue = s.air.sansQueue := by
  induction xs generalizing s with
  | nil => rfl
  | cons x xs ih => rw [List.foldl_cons, ih, State.offer_sansQueue]

@[simp] theorem State.removeUnit_sansQueue (s : State) : s.removeUnit.air.sansQueue = s.air.sansQueue := by
  simp only [State.removeUnit]; (repeat' split)
  · rfl
  · rw [State.drawHead_sansQueue]; rfl
  · rfl

@[simp] theorem State.departStop_sansQueue (s : State) (run : RunId) (stop : Nat) :
    (s.departStop run stop).air.sansQueue = s.air.sansQueue := by
  simp only [State.departStop]; split <;> simp

@[simp] theorem State.departStop_foldl_sansQueue (run : RunId) (xs : List Nat) (s : State) :
    (xs.foldl (fun w stop => w.departStop run stop) s).air.sansQueue = s.air.sansQueue := by
  induction xs generalizing s with
  | nil => rfl
  | cons x xs ih => rw [List.foldl_cons, ih, State.departStop_sansQueue]

@[simp] theorem State.replaceRun_sansQueue (s : State) (old : RunRec) (n : RunNotice) (st : RunState) :
    (s.replaceRun old n st).air.sansQueue = s.air.sansQueue := by
  simp only [State.replaceRun]; (repeat' split) <;> simp

@[simp] theorem State.takeRun_sansQueue (s : State) (src : Byte) (p : List Byte) :
    (s.takeRun src p).air.sansQueue = s.air.sansQueue := by
  simp only [State.takeRun]; (repeat' split) <;> simp

@[simp] theorem State.takeDepart_sansQueue (s : State) (src : Byte) (p : List Byte) :
    (s.takeDepart src p).air.sansQueue = s.air.sansQueue := by
  simp only [State.takeDepart]; (repeat' split) <;> simp

@[simp] theorem State.queueClaims_sansQueue (s : State) (refresh : Bool) :
    (s.queueClaims refresh).air.sansQueue = s.air.sansQueue := by
  simp only [State.queueClaims]; split <;> simp

@[simp] theorem State.finishOp_sansQueue (s : State) (op : BookOp) :
    (s.finishOp op).air.sansQueue = s.air.sansQueue := by
  simp only [State.finishOp]; rw [State.queueClaims_sansQueue]; rfl

@[simp] theorem State.announce_sansQueue (s : State) (r : Run) (closed : Bool) :
    (s.announce r closed).air.sansQueue = s.air.sansQueue := by
  simp only [State.announce]; split <;> simp

@[simp] theorem State.announceSlot_sansQueue (s : State) (slot : Option Run) :
    (s.announceSlot slot).air.sansQueue = s.air.sansQueue := by
  cases slot <;> simp [State.announceSlot]

@[simp] theorem State.announceAll_sansQueue (s : State) : s.announceAll.air.sansQueue = s.air.sansQueue := by
  simp [State.announceAll]

@[simp] theorem State.queueParts_sansQueue (s : State) (r : Run) :
    (s.queueParts r).air.sansQueue = s.air.sansQueue := by
  simp only [State.queueParts]; split <;> simp

@[simp] theorem State.openAndAnnounce_sansQueue (s : State) : s.openAndAnnounce.air.sansQueue = s.air.sansQueue := by
  simp only [State.openAndAnnounce]; split <;> simp

@[simp] theorem State.loadLock_sansQueue (s : State) (r : Run) : (s.loadLock r).air.sansQueue = s.air.sansQueue := by
  simp [State.loadLock]

@[simp] theorem State.pressLoad_sansQueue (s : State) : s.pressLoad.air.sansQueue = s.air.sansQueue := by
  simp only [State.pressLoad]; (repeat' split) <;> simp

@[simp] theorem State.departPresent_sansQueue (s : State) (r : Run) (next : RunState) :
    (s.departPresent r next).air.sansQueue = s.air.sansQueue := by
  simp only [State.departPresent]; split <;> simp

@[simp] theorem State.departSupermarket_sansQueue (s : State) (r : Run) :
    (s.departSupermarket r).air.sansQueue = s.air.sansQueue := by
  simp [State.departSupermarket]

@[simp] theorem State.pressGo_sansQueue (s : State) : s.pressGo.air.sansQueue = s.air.sansQueue := by
  simp only [State.pressGo]; (repeat' split) <;> simp

@[simp] theorem State.pressHold_sansQueue (s : State) : s.pressHold.air.sansQueue = s.air.sansQueue := by
  simp only [State.pressHold]; (repeat' split) <;> simp

@[simp] theorem State.arriveAt_sansQueue (s : State) (r : Run) (stop : Nat) (kind : VisitKind) (revisit : Bool) :
    (s.arriveAt r stop kind revisit).air.sansQueue = s.air.sansQueue := by
  simp [State.arriveAt]

@[simp] theorem State.closeRun_sansQueue (s : State) (r : Run) : (s.closeRun r).air.sansQueue = s.air.sansQueue := by
  simp [State.closeRun]

@[simp] theorem State.strobeEnroute_sansQueue (s : State) (r : Run) (stop : Nat) :
    (s.strobeEnroute r stop).air.sansQueue = s.air.sansQueue := by
  simp only [State.strobeEnroute]; (repeat' split) <;> simp

@[simp] theorem State.strobeHeld_sansQueue (s : State) (r : Run) (stop : Nat) :
    (s.strobeHeld r stop).air.sansQueue = s.air.sansQueue := by
  simp only [State.strobeHeld]; split <;> simp

@[simp] theorem State.strobeAfterDeparture_sansQueue (s : State) (stop : Nat) :
    (s.strobeAfterDeparture stop).air.sansQueue = s.air.sansQueue := by
  simp only [State.strobeAfterDeparture]; (repeat' split) <;> simp

@[simp] theorem State.strobe_sansQueue (s : State) : s.strobe.air.sansQueue = s.air.sansQueue := by
  simp only [State.strobe, State.takeStrobe]; (repeat' split) <;> simp

@[simp] theorem State.plannerRefresh_sansQueue (s : State) : s.plannerRefresh.air.sansQueue = s.air.sansQueue := by
  simp only [State.plannerRefresh]; (repeat' split) <;> simp

@[simp] theorem State.queueUnit_sansQueue (s : State) : s.queueUnit.air.sansQueue = s.air.sansQueue := by
  simp [State.queueUnit]

@[simp] theorem State.enterActive_sansQueue (s : State) : s.enterActive.air.sansQueue = s.air.sansQueue := by
  simp [State.enterActive]

@[simp] theorem State.edge_sansQueue (s : State) : s.edge.air.sansQueue = s.air.sansQueue := by
  simp only [State.edge]; split <;> simp

@[simp] theorem State.keepaliveExpiry_sansQueue (s : State) : s.keepaliveExpiry.air.sansQueue = s.air.sansQueue := by
  simp only [State.keepaliveExpiry]; split <;> simp

@[simp] theorem State.silenceExpiry_sansQueue (s : State) : s.silenceExpiry.air.sansQueue = s.air.sansQueue := by
  simp only [State.silenceExpiry]; (repeat' split) <;> simp

@[simp] theorem State.adopt_sansQueue (s : State) (u : UnitNotice) : (s.adopt u).air.sansQueue = s.air.sansQueue := by
  simp [State.adopt]

@[simp] theorem State.processUnit_sansQueue (s : State) (src : Byte) (u : UnitNotice) :
    (s.processUnit src u).air.sansQueue = s.air.sansQueue := by
  simp only [State.processUnit]; split <;> simp

@[simp] theorem State.standDown_sansQueue (s : State) : s.standDown.air.sansQueue = s.air.sansQueue := by
  simp [State.standDown]

@[simp] theorem State.takeUnit_sansQueue (s : State) (src : Byte) (p : List Byte) :
    (s.takeUnit src p).air.sansQueue = s.air.sansQueue := by
  simp only [State.takeUnit]; (repeat' split) <;> simp

@[simp] theorem State.takeQuery_sansQueue (s : State) (src : Byte) (p : List Byte) :
    (s.takeQuery src p).air.sansQueue = s.air.sansQueue := by
  simp only [State.takeQuery]; (repeat' split) <;> simp

@[simp] theorem State.enterRole_sansQueue (s : State) : s.enterRole.air.sansQueue = s.air.sansQueue := by
  simp only [State.enterRole]; (repeat' split) <;> simp

@[simp] theorem State.listenEnds_sansQueue (s : State) : s.listenEnds.air.sansQueue = s.air.sansQueue := by
  simp only [State.listenEnds]; split <;> simp

/-- A frame handed over leaves the receive queue and the clash flag. -/
@[simp] theorem State.handOver_sansQueue (s : State) (f : RxFrame) :
    (s.handOver f).air.sansQueue = s.air.sansQueue := by
  simp only [State.handOver]; (repeat' split) <;> simp

end Sys2Proof.Machine
end

section
/-! PROOFS. What a command can do, said once: a chain of elementary effects, each with what is known of the station
that takes it. Every invariant is then proved over the effects (Section 10.1). -/

namespace Sys2Proof.Machine

/-! ## Effects -/

/-- A frame that the receive side may hand over: it waits already, or comes from another station. -/
def State.carries (s : State) (f : RxFrame) : Prop := f ∈ s.air.rxq ∨ f.src ≠ s.ownByte

/-- What the blocks of a station do within one event, before its requests to the book are taken up. -/
inductive State.Deed (s : State) : State → Prop
  | listenEnds (h : s.working = true) : s.Deed s.listenEnds
  | edge (h : s.worksAs .pacer = true) : s.Deed s.edge
  | keepalive (h : s.worksAs .pacer = true) : s.Deed s.keepaliveExpiry
  | silence (h : s.working = true) : s.Deed s.silenceExpiry
  | change (h : s.worksAs .rack = true) (l : LaneIx) (k : Sensor) (x : Bool) : s.Deed (s.takeChange l k x)
  | ageRun (h : s.worksAs .rack = true) (run : RunId) : s.Deed (s.ageRun run)
  | waitExpiry (h : s.worksAs .rack = true) (run : RunId) : s.Deed (s.waitExpiry run)
  | ageEntry (h : s.working = true) (station : Nat) (l : LaneIx) : s.Deed (s.ageEntry station l)
  | bookRefresh (h : s.worksAs .rack = true) : s.Deed s.bookRefresh
  | presence (h : s.worksAs .rack = true) (k : Bank) (x : Bool) : s.Deed (s.presenceChange k x)
  | receiptExpiry (h : s.worksAs .train = true) (i : Nat) : s.Deed (s.receiptExpiry i)
  | pressLoad (h : s.worksAs .train = true) : s.Deed s.pressLoad
  | pressGo (h : s.worksAs .train = true) : s.Deed s.pressGo
  | pressHold (h : s.worksAs .train = true) : s.Deed s.pressHold
  | strobe (h : s.worksAs .train = true) : s.Deed s.strobe
  | refresh (h : s.worksAs .train = true) : s.Deed s.plannerRefresh
  | ack (h : s.worksAs .train = true) : s.Deed s.takeAck
  | unit (h : s.working = true) (src : Byte) (p : List Byte) : s.Deed (s.takeUnit src p)
  | run (h : s.worksAs .rack = true) (src : Byte) (p : List Byte) : s.Deed (s.takeRun src p)
  | manifest (h : s.worksAs .rack = true) (src : Byte) (p : List Byte) : s.Deed (s.takeManifest src p)
  | claimset (h : s.worksAs .rack = true ∨ s.worksAs .train = true) (hidle : s.busy = false) (f : RxFrame)
      (hf : s.carries f) : s.Deed (s.takeClaimset f.src f.payload)
  | arrive (h : s.worksAs .rack = true) (src : Byte) (p : List Byte) : s.Deed (s.takeArrive src p)
  | depart (h : s.worksAs .rack = true) (src : Byte) (p : List Byte) : s.Deed (s.takeDepart src p)
  | receipt (h : s.worksAs .train = true) (src : Byte) (p : List Byte) : s.Deed (s.takeReceipt src p)
  | query (h : s.portWorks = true) (src : Byte) (p : List Byte) : s.Deed (s.takeQuery src p)
  | pass (h : s.portWorks = true) : s.Deed s

/-- One elementary effect of a command that begins no start. -/
inductive State.Effect (s : State) : State → Prop
  /-- An event of the station's blocks. -/
  | event {t : State} (h : s.Deed t) : s.Effect t.endEvent
  /-- A mark starts the next operation (R78). -/
  | marked (h : s.portWorks = true) : s.Effect s.startIfMarked
  /-- An operation completes (R81). -/
  | finish (h : s.working = true) (op : BookOp) (hop : s.book.op = some op) : s.Effect (s.finishOp op).refreshRisk
  /-- What is left of the receive queue after its frames have been dealt with. -/
  | queue (h : s.portWorks = true) (q : List RxFrame) (hq : ∀ f ∈ q, s.carries f) : s.Effect { s with air.rxq := q }
  /-- The port and the counters: the head may have gone to the transmitter, and nothing is queued. -/
  | port (a : Air) (c : Counters) (hrxq : a.rxq = s.air.rxq) (hclash : s.air.clash = true → a.clash = true)
      (hq : a.txq = s.air.txq ∧ c = s.cnt ∨ s.portWorks = true ∧ (a.txq = s.air.txq ∨ a.txq = s.air.txq.tail)) :
      s.Effect { s with air := a, cnt := c }
  /-- A sensor input of a lane (R23). -/
  | sensor (h : s.worksAs .rack = true) (l : LaneIx) (k : Sensor) (x : SensorIn) :
      s.Effect (s.modLane l fun r => r.setSensor k x)
  /-- A presence input (R153). -/
  | presenceIn (h : s.worksAs .rack = true) (k : Bank) (d : Debounce Bool) :
      s.Effect (s.modBank k fun b => { b with presence := d })
  /-- The LINE port (R2). -/
  | lineIn (h : s.worksAs .pacer = true) (v : Debounce (BitVec 6)) (x y : Debounce Bool) :
      s.Effect { s with pacer.variantIn := v, pacer.validIn := x, pacer.taktIn := y }
  /-- The stop port and the buttons (R102). -/
  | trainIn (h : s.worksAs .train = true) (v : Debounce (BitVec 5)) (x1 x2 x3 x4 x5 : Debounce Bool) :
      s.Effect { s with planner.stopIn := v, planner.strobeIn := x1, planner.loadIn := x2, planner.goIn := x3,
                        planner.holdIn := x4, planner.ackIn := x5 }
  | lamps : s.Effect s.shiftLamps
  | display : s.Effect s.shiftDisplay
  | timer : s.Effect s.timerUnit
  | resetLow : s.Effect s.holdReset
  | readEnd (img : List Byte) : s.Effect (s.readEnd img)

/-- A chain of effects. -/
abbrev State.Effects : State → State → Prop := Relation.ReflTransGen State.Effect

/-! ## Guards -/

theorem State.working_of_worksAs {s : State} {r : Role} (h : s.worksAs r = true) : s.working = true := by
  simp only [State.worksAs, Bool.and_eq_true] at h; exact h.1

theorem State.role_of_worksAs {s : State} {r : Role} (h : s.worksAs r = true) : s.start.role = r := by
  simp only [State.worksAs, Bool.and_eq_true, beq_iff_eq] at h; exact h.2

theorem State.worksAs_iff {s : State} {r : Role} : s.worksAs r = true ↔ s.working = true ∧ s.start.role = r := by
  simp [State.worksAs]

/-- A working station is started and in LISTEN or ACTIVE. -/
theorem State.working_iff {s : State} :
    s.working = true ↔ s.start.resetLow = false ∧ (s.start.state = .listen ∨ s.start.state = .active) := by
  simp [State.working]

theorem State.portWorks_of_working {s : State} (h : s.working = true) : s.portWorks = true := by
  obtain ⟨hlow, hst | hst⟩ := State.working_iff.mp h <;> simp [State.portWorks, portWorksIn, hlow, hst]

/-- Outside FAULT the port works exactly where the station does (R164). -/
theorem State.working_of_portWorks {s : State} (h : s.portWorks = true) (hf : s.start.state ≠ .fault) :
    s.working = true := by
  rw [State.portWorks, Bool.and_eq_true] at h
  rw [State.working_iff]
  cases hs : s.start.state <;> simp_all [portWorksIn]

/-- The guards read the start-up unit alone. -/
theorem State.guards_congr {s t : State} (h : t.start = s.start) :
    t.working = s.working ∧ t.portWorks = s.portWorks ∧ (∀ r, t.worksAs r = s.worksAs r) ∧
    t.ownByte = s.ownByte ∧ t.own = s.own ∧ t.isActive = s.isActive := by
  simp [State.working, State.portWorks, State.worksAs, State.ownByte, State.own, State.isActive, h]

theorem State.worksAs_of_start {s t : State} {r : Role} (h : s.worksAs r = true) (ht : t.start = s.start) :
    t.worksAs r = true := by rwa [(State.guards_congr ht).2.2.1]

theorem State.portWorks_of_start {s t : State} (h : s.portWorks = true) (ht : t.start = s.start) :
    t.portWorks = true := by rwa [(State.guards_congr ht).2.1]

/-- What the receive side may hand over depends on the waiting frames and the own address alone. -/
theorem State.carries_congr {s t : State} (hs : t.start = s.start) (hq : t.air.rxq = s.air.rxq) (f : RxFrame) :
    t.carries f ↔ s.carries f := by
  simp [State.carries, hq, (State.guards_congr hs).2.2.2.1]

/-! ## Frames handed over (R174, R175) -/

/-- A frame handed over is a deed of the owner of its kind. -/
theorem State.handOver_deed {s : State} (h : s.portWorks = true) {f : RxFrame} (hf : s.carries f)
    (hwait : s.waitsForBook f = true → s.busy = false) : s.Deed (s.handOver f) := by
  unfold State.handOver
  split
  · split
    · exact .query h ..
    · exact .pass h
  next hfault =>
    have hw := State.working_of_portWorks h hfault
    split
    case h_1 => exact .unit hw ..
    case h_8 => exact .query h ..
    case h_9 => exact .pass h
    all_goals dsimp only; split <;> rename_i hr
    all_goals first
      | exact .pass h
      | skip
    case h_2 => exact .run (State.worksAs_iff.mpr ⟨hw, by simpa using hr⟩) ..
    case h_3 => exact .manifest (State.worksAs_iff.mpr ⟨hw, by simpa using hr⟩) ..
    case h_5 => exact .arrive (State.worksAs_iff.mpr ⟨hw, by simpa using hr⟩) ..
    case h_6 => exact .depart (State.worksAs_iff.mpr ⟨hw, by simpa using hr⟩) ..
    case h_7 => exact .receipt (State.worksAs_iff.mpr ⟨hw, by simpa using hr⟩) ..
    case h_4 hkind =>
      refine .claimset ?_ (hwait ?_) f hf
      · simpa [State.worksAs_iff, hw] using hr
      · simpa [State.waitsForBook, hkind, hfault] using hr

/-- The receive queue dealt with is a chain of events, of operations started, and what is left of the queue. -/
theorem State.drain_effects {s : State} (h : s.portWorks = true) (fs : List RxFrame) (hfs : ∀ f ∈ fs, s.carries f) :
    s.Effects (s.drain fs) := by
  induction fs generalizing s with
  | nil =>
    exact .tail (.single (.queue h [] (by simp))) (.marked h)
  | cons f fs ih =>
    have hf : s.carries f := hfs f (by simp)
    have carry : ∀ {t : State}, t.start = s.start → t.air.rxq = s.air.rxq → t.Effects (t.drain fs) :=
      fun hst hq => ih (State.portWorks_of_start h hst)
        fun g hg => (State.carries_congr hst hq g).mpr (hfs g (by simp [hg]))
    have hrxq : ∀ t : State, (t.event fun u => u.handOver f).air.rxq = t.air.rxq := fun t =>
      (Air.of_sansQueue (by simp : (t.event fun u => u.handOver f).air.sansQueue = t.air.sansQueue)).2.2.2.1
    rw [State.drain]
    split
    next hwait =>
      split
      · exact .single (.queue h _ hfs)
      next hidle =>
        refine .head (.event (State.handOver_deed h hf fun _ => by simpa using hidle)) (carry (by simp) (hrxq s))
    next hwait =>
      have hm : s.startIfMarked.start = s.start := by simp
      have hq : s.startIfMarked.air.rxq = s.air.rxq := by simp
      have hw : s.startIfMarked.waitsForBook f = s.waitsForBook f := by simp [State.waitsForBook]
      refine .head (.marked h) (.head (.event (State.handOver_deed ?_ ((State.carries_congr hm hq f).mpr hf) ?_))
        (carry (by simp) ((hrxq _).trans hq)))
      · exact State.portWorks_of_start h hm
      · rw [hw]; exact fun hc => absurd hc hwait

theorem State.portWorks_of_receiving {s : State} (h : s.receiving = true) : s.portWorks = true := by
  rw [State.receiving, Bool.and_eq_true] at h; exact h.1

/-- A frame whose CRC matched is counted against, or dealt with from the receive queue. -/
theorem State.acceptFrame_effects {s : State} (h : s.portWorks = true) (code src : Byte) (p : List Byte) :
    s.Effects (s.acceptFrame code src p) := by
  unfold State.acceptFrame
  split
  case h_6 k hk =>
    have hsrc : src ≠ s.ownByte := by
      intro hc; rw [State.fate, if_pos hc] at hk; cases hk
    refine State.drain_effects h _ fun f hf => ?_
    rcases List.mem_append.mp hf with hf | hf
    · exact .inl hf
    · rw [List.mem_singleton.mp hf]; exact .inr hsrc
  case h_1 => exact .single (.port { s.air with clash := true } _ rfl (fun _ => rfl) (.inr ⟨h, .inl rfl⟩))
  all_goals exact .single (.port s.air _ rfl id (.inr ⟨h, .inl rfl⟩))

/-- The receive side hunts again, or is in a frame: an effect of the port. -/
theorem State.Effect.rx (s : State) (x : RxState) : s.Effect { s with air.rx := x } :=
  .port { s.air with rx := x } s.cnt rfl id (.inl ⟨rfl, rfl⟩)

theorem State.arrives_effects (s : State) (k : FrameKind) (src : Byte) (p : List Byte) :
    s.Effects (s.arrives k src p) := by
  unfold State.arrives
  split
  next h => exact .head (.rx s .hunting) (State.acceptFrame_effects (by exact State.portWorks_of_receiving h) ..)
  · exact .refl

theorem State.frameComplete_effects (s : State) (bytes : List Byte) : s.Effects (s.frameComplete bytes) := by
  unfold State.frameComplete
  split
  next h =>
    have hport : s.portWorks = true := State.portWorks_of_receiving (by simp only [Bool.and_eq_true] at h; exact h.1)
    split
    · exact .refl
    · split
      · exact .single (.port { s.air with rx := .hunting } _ rfl id (.inr ⟨hport, .inl rfl⟩))
      · split
        · refine .head (.rx s .hunting) ?_
          unfold State.testFrame
          split
          · split
            · refine State.acceptFrame_effects ?_ ..; exact hport
            · exact .single (.port { s.air with rx := .hunting } _ rfl id (.inr ⟨hport, .inl rfl⟩))
          · exact .refl
        · exact .refl
  · exact .refl

/-- A completion finishes the operation and deals with the receive queue. -/
theorem State.completeOp_effects {s : State} (h : s.working = true) : s.Effects s.completeOp := by
  unfold State.completeOp
  split
  next op hop =>
    have hst : (s.finishOp op).refreshRisk.start = s.start := by simp
    have hrxq : (s.finishOp op).refreshRisk.air.rxq = s.air.rxq :=
      (Air.of_sansQueue (by simp : (s.finishOp op).refreshRisk.air.sansQueue = s.air.sansQueue)).2.2.2.1
    exact .head (.finish h op hop) (State.drain_effects
      (State.portWorks_of_start (State.portWorks_of_working h) hst) _ fun f hf => .inl (by rwa [hrxq]))
  · exact .refl

/-! ## Samples (R2, R22, R102, R153) -/

/-- An input sampled, and the event of its accepted change where there is one. -/
theorem State.sampled_effects {s t : State} (c : Prop) [Decidable c] {f : State → State} (hin : s.Effect t)
    (hev : t.Deed (f t)) : s.Effects (if c then t.event f else t) := by
  split
  · exact .head hin (.single (.event hev))
  · exact .single hin

theorem State.sampleSensor_effects {s : State} (h : s.worksAs .rack = true) (sense : BitVec 48) (l : LaneIx)
    (k : Sensor) : s.Effects (s.sampleSensor sense l k) :=
  State.sampled_effects _ (.sensor h ..) (.change (by exact h) ..)

theorem State.sampleLane_effects {s : State} (h : s.worksAs .rack = true) (sense : BitVec 48) (l : LaneIx) :
    s.Effects (s.sampleLane sense l) := by
  unfold State.sampleLane
  induction allSensors generalizing s with
  | nil => exact .refl
  | cons k ks ih =>
    refine (State.sampleSensor_effects h sense l k).trans (ih ?_)
    exact State.worksAs_of_start h (by simp)

theorem State.sampleLanes_effects {s : State} (h : s.worksAs .rack = true) (sense : BitVec 48) (ls : List LaneIx) :
    s.Effects (ls.foldl (State.sampleLane sense) s) := by
  induction ls generalizing s with
  | nil => exact .refl
  | cons l ls ih =>
    refine (State.sampleLane_effects h sense l).trans (ih ?_)
    exact State.worksAs_of_start h (by simp)

theorem State.samplePresence_effects {s : State} (h : s.worksAs .rack = true) (k : Bank) (x : Bool) :
    s.Effects (s.samplePresence k x) := by
  exact State.sampled_effects _ (.presenceIn h ..) (.presence (State.worksAs_of_start h (by simp)) ..)

theorem State.sampleRack_effects {s : State} (h : s.worksAs .rack = true) (pins : Pins) :
    s.Effects (s.sampleRack pins) := by
  unfold State.sampleRack
  exact ((State.sampleLanes_effects h ..).trans
    (State.samplePresence_effects (State.worksAs_of_start h (by simp)) ..)).trans
    (State.samplePresence_effects (State.worksAs_of_start h (by simp)) ..)

/-- The buttons of a train, one after another. -/
theorem State.sampleTrain_effects {s : State} (h : s.worksAs .train = true) (rp : BitVec 12) :
    s.Effects (s.sampleTrain rp) := by
  have step : ∀ {t : State}, t.start = s.start → t.worksAs .train = true := State.worksAs_of_start h
  unfold State.sampleTrain
  have hstop : s.Effects (s.sampleStop rp) := .single (.trainIn h ..)
  have hstrobe (t : State) (x : Bool) (ht : t.start = s.start) : t.Effects (t.sampleStrobe x) :=
    State.sampled_effects _ (.trainIn (step ht) ..) (.strobe (by exact step ht))
  have hload (t : State) (x : Bool) (ht : t.start = s.start) : t.Effects (t.sampleLoad x) :=
    State.sampled_effects _ (.trainIn (step ht) ..) (.pressLoad (by exact step ht))
  have hgo (t : State) (x : Bool) (ht : t.start = s.start) : t.Effects (t.sampleGo x) :=
    State.sampled_effects _ (.trainIn (step ht) ..) (.pressGo (by exact step ht))
  have hhold (t : State) (x : Bool) (ht : t.start = s.start) : t.Effects (t.sampleHold x) :=
    State.sampled_effects _ (.trainIn (step ht) ..) (.pressHold (by exact step ht))
  have hack (t : State) (x : Bool) (ht : t.start = s.start) : t.Effects (t.sampleAck x) :=
    State.sampled_effects _ (.trainIn (step ht) ..) (.ack (by exact step ht))
  exact ((((hstop.trans (hstrobe _ _ (by simp))).trans (hload _ _ (by simp))).trans (hgo _ _ (by simp))).trans
    (hhold _ _ (by simp))).trans (hack _ _ (by simp))

theorem State.samplePins_effects (s : State) (pins : Pins) : s.Effects (s.samplePins pins) := by
  unfold State.samplePins
  split
  next hw =>
    split
    next hr => exact State.sampleRack_effects (State.worksAs_iff.mpr ⟨hw, hr⟩) pins
    next hr => exact State.sampleTrain_effects (State.worksAs_iff.mpr ⟨hw, hr⟩) pins.rp
    next hr =>
      have h := State.worksAs_iff.mpr ⟨hw, hr⟩
      exact State.sampled_effects _ (.lineIn h ..) (.edge (by exact h))
    · exact .refl
  · exact .refl

/-! ## Commands and steps -/

/-- An input accepted by an event command, and its event. -/
theorem State.accepted_effects {s t : State} {r : Role} {f : State → State} (hin : s.worksAs r = true → s.Effect t)
    (hst : t.start = s.start) (hev : t.worksAs r = true → t.Deed (f t)) :
    s.Effects (if s.worksAs r then t.event f else s) := by
  split
  next h => exact .head (hin h) (.single (.event (hev (State.worksAs_of_start h hst))))
  · exact .refl

/-- An event that a command brings where its guard holds. -/
theorem State.event_effects {s : State} {c : Bool} {f : State → State} (hev : c = true → s.Deed (f s)) :
    s.Effects (if c then s.event f else s) := by
  split
  next h => exact .single (.event (hev h))
  · exact .refl

/-- An effect of the port that a command brings where its guard holds. -/
theorem State.port_effects {s t : State} {c : Bool} (hport : c = true → s.Effect t) :
    s.Effects (if c then t else s) := by
  split
  next h => exact .single (hport h)
  · exact .refl

/-- A frame in reception abandoned as BROKEN is an effect of the port. -/
theorem State.abandonBroken_effect {s : State} (h : s.portWorks = true) : s.Effect s.abandonBroken := by
  unfold State.abandonBroken
  split
  · exact .port s.air s.cnt rfl id (.inl ⟨rfl, rfl⟩)
  · exact .port { s.air with rx := .hunting } _ rfl id (.inr ⟨h, .inl rfl⟩)

/-- A drawn head changes the backoff count and the random register alone. -/
theorem State.drawHead_eq (s : State) : ∃ b r, s.drawHead = { s with air.backoff := b, air.random := r } := by
  unfold State.drawHead
  split
  · exact ⟨_, _, rfl⟩
  · exact ⟨_, _, rfl⟩

theorem State.beginSend_effect {s : State} (h : s.portWorks = true) : s.Effect s.beginSend := by
  unfold State.beginSend
  split
  · exact .port s.air s.cnt rfl id (.inl ⟨rfl, rfl⟩)
  next f rest hq =>
    obtain ⟨b, r, hb⟩ := State.drawHead_eq { s.abandonBroken with
      air.txq := rest, air.quiet := none, air.tx := some ⟨wireBytes s.ownByte f, (wireBytes s.ownByte f).length + 1⟩ }
    have htail : rest = s.air.txq.tail := by rw [hq]; rfl
    dsimp only
    rw [hb]
    cases hrx : s.air.rx
    · rw [show s.abandonBroken = s by simp [State.abandonBroken, hrx]]
      exact .port { s.air with
        txq := rest, quiet := none, tx := some ⟨wireBytes s.ownByte f, (wireBytes s.ownByte f).length + 1⟩
        backoff := b, random := r } s.cnt rfl id (.inr ⟨h, .inr htail⟩)
    · rw [show s.abandonBroken = { s with air.rx := .hunting, cnt.broken := bump16 s.cnt.broken } by
        simp [State.abandonBroken, hrx]]
      exact .port { s.air with
        rx := .hunting, txq := rest, quiet := none
        tx := some ⟨wireBytes s.ownByte f, (wireBytes s.ownByte f).length + 1⟩
        backoff := b, random := r } _ rfl id (.inr ⟨h, .inr htail⟩)

/-- A byte time is an effect of the port. -/
theorem State.byteTime_effect (s : State) : s.Effect s.byteTime := by
  have hport (a : Air) (h1 : a.rxq = s.air.rxq) (h2 : a.clash = s.air.clash) (h3 : a.txq = s.air.txq) :
      s.Effect { s with air := a } := .port a s.cnt h1 (fun h => h2.trans h) (.inl ⟨h3, rfl⟩)
  unfold State.byteTime
  (repeat' split) <;> exact hport _ rfl rfl rfl

/-- What a command that begins no start can do is a chain of effects. -/
theorem exec_effects {c : Instr} {s t : State} (hc : c.isStart = false) (h : exec c s = .next t) : s.Effects t := by
  cases c <;> cases h
  case powerOnStart | pinReset => cases hc
  case resetnLow => exact .single .resetLow
  case profileReadEnd => exact .single (.readEnd _)
  case listenPeriodEnd => exact State.event_effects .listenEnds
  case taktEdge => exact State.accepted_effects (.lineIn · ..) rfl .edge
  case keepaliveTimerExpiry => exact State.event_effects .keepalive
  case unit | runNotice | manifestPart | claimset | arrive | depart | receipt | query =>
    exact State.arrives_effects ..
  case silenceTimerExpiry => exact State.event_effects .silence
  case feedEvent | emptyEvent | reserveEvent | sensorFallingChange =>
    exact State.accepted_effects (.sensor · ..) rfl (.change · ..)
  case runAgeingExpiry => exact State.event_effects (.ageRun · _)
  case manifestWaitExpiry => exact State.event_effects (.waitExpiry · _)
  case bookOperationCompletion =>
    split
    next hw => exact State.completeOp_effects hw
    · exact .refl
  case peerEntryAgeingExpiry => exact State.event_effects (.ageEntry · ..)
  case refreshTimerExpiry => exact State.event_effects .bookRefresh
  case receiptTimerExpiry => exact State.event_effects (.receiptExpiry · _)
  case loadPress => exact State.accepted_effects (.trainIn · ..) rfl .pressLoad
  case goPress => exact State.accepted_effects (.trainIn · ..) rfl .pressGo
  case holdPress => exact State.accepted_effects (.trainIn · ..) rfl .pressHold
  case arrivalStrobe => exact State.accepted_effects (.trainIn · ..) rfl .strobe
  case trainRefreshExpiry => exact State.event_effects .refresh
  case ack => exact State.accepted_effects (.trainIn · ..) rfl .ack
  case presenceRise | presenceFall =>
    exact State.accepted_effects (.presenceIn · ..) (by simp) (.presence · ..)
  case lampFrame => exact .single .lamps
  case displayFrame => exact .single .display
  case frameComplete => exact State.frameComplete_effects ..
  case lengthAbandon =>
    refine State.port_effects fun hw => .port { s.air with rx := .hunting } _ rfl id (.inr ⟨?_, .inl rfl⟩)
    simp only [Bool.and_eq_true] at hw
    exact State.portWorks_of_receiving hw.1.1
  case byteGapTimeout | lowStopBit =>
    exact State.port_effects fun hw => State.abandonBroken_effect (State.portWorks_of_receiving hw)
  case carrierRise =>
    exact .single (.port { s.air with carrier := true, quiet := none } s.cnt rfl id (.inl ⟨rfl, rfl⟩))
  case carrierFall =>
    exact .single (.port { s.air with
      carrier := false, quiet := if s.portWorks && !s.key then some 0 else none } s.cnt rfl id (.inl ⟨rfl, rfl⟩))
  case sendStart =>
    refine State.port_effects fun hw => State.beginSend_effect ?_
    simp only [State.maySend, Bool.and_eq_true] at hw
    exact hw.1.1.1.1
  case sendEnd =>
    exact State.port_effects fun _ => .port { s.air with
      tx := none, rx := .hunting, quiet := if s.air.carrier then none else some 0 } s.cnt rfl id (.inl ⟨rfl, rfl⟩)
  case timerUnit => exact .single .timer
  case syncByte => exact State.port_effects fun _ => .rx s .inFrame
  case inputSample => exact s.samplePins_effects _

/-- What a command can do, said once: begin a start, or go through a chain of effects. -/
theorem exec_cases {c : Instr} {s t : State} (h : exec c s = .next t) :
    (∃ role addr, t = s.powerOn role addr) ∨ (∃ role addr, t = s.resetByPin role addr) ∨ s.Effects t := by
  rcases hc : c.isStart with _ | _
  · exact .inr (.inr (exec_effects hc h))
  · cases c <;> cases hc <;> cases h
    · exact .inl ⟨_, _, rfl⟩
    · exact .inr (.inl ⟨_, _, rfl⟩)

/-- An invariant that reads no waiting command holds from step to step when both starts establish it and every effect
keeps it. -/
theorem step_keeps {P : State → Prop} (hpending : ∀ s q, P s → P { s with pending := q })
    (hpower : ∀ s role addr, P s → P (s.powerOn role addr)) (hpin : ∀ s role addr, P s → P (s.resetByPin role addr))
    (heffect : ∀ s t, P s → s.Effect t → P t) : ∀ s t : State, P s → step s = .next t → P t := by
  have chain {s t : State} (hs : P s) (h : s.Effects t) : P t := by
    induction h with
    | refl => exact hs
    | tail _ hlast ih => exact heffect _ _ ih hlast
  intro s t hs h
  unfold step at h
  split at h
  · cases h; exact heffect _ _ hs s.byteTime_effect
  next c rest hq =>
    have hs' := hpending s rest hs
    rcases exec_cases h with ⟨role, addr, rfl⟩ | ⟨role, addr, rfl⟩ | heff
    · exact hpower _ _ _ hs'
    · exact hpin _ _ _ hs'
    · exact chain hs' heff

end Sys2Proof.Machine
end

section
/-! PROOFS. The run list stays within 6 records of different run ids (R56, R59). -/

namespace Sys2Proof.Machine

/-- What the run list invariant says of a list of records. -/
def distinctRuns (rs : List RunRec) : Prop := rs.length ≤ 6 ∧ (rs.map RunRec.id).Nodup

theorem State.runListInv_iff (s : State) : s.RunListInv ↔ distinctRuns s.runs := Iff.rfl

theorem State.RunListInv.of_runs {s t : State} (h : s.RunListInv) (hr : t.runs = s.runs) : t.RunListInv := by
  rw [State.runListInv_iff, hr]; exact h

theorem distinctRuns.filter {rs : List RunRec} (h : distinctRuns rs) (p : RunRec → Bool) :
    distinctRuns (rs.filter p) :=
  ⟨(rs.length_filter_le p).trans h.1, h.2.sublist (rs.filter_sublist.map _)⟩

/-- A change of the record of one run that keeps its id. -/
theorem distinctRuns.modify {rs : List RunRec} (h : distinctRuns rs) (id : RunId) {f : RunRec → RunRec}
    (hf : ∀ x ∈ rs, x.id = id → (f x).id = id) : distinctRuns (rs.map fun x => if x.id = id then f x else x) := by
  have hids : (rs.map fun x => if x.id = id then f x else x).map RunRec.id = rs.map RunRec.id := by
    rw [List.map_map]
    refine List.map_congr_left fun x hx => ?_
    by_cases hid : x.id = id
    · simp [hid, hf x hx hid]
    · simp [hid]
  exact ⟨by simpa using h.1, by rw [hids]; exact h.2⟩

theorem distinctRuns.append {rs : List RunRec} (h : distinctRuns rs) (hroom : rs.length < 6) {r : RunRec}
    (hr : ∀ x ∈ rs, x.id ≠ r.id) : distinctRuns (rs ++ [r]) := by
  refine ⟨by simpa using hroom, ?_⟩
  rw [List.map_append, List.nodup_append]
  exact ⟨h.2, by simp, by simpa using hr⟩

/-- No record has the id of a run that the list does not hold. -/
theorem State.runRec_eq_none {s : State} {id : RunId} : s.runRec id = none ↔ ∀ x ∈ s.runs, x.id ≠ id := by
  simp [State.runRec]

theorem State.runRec_some {s : State} {id : RunId} {r : RunRec} (h : s.runRec id = some r) :
    r ∈ s.runs ∧ r.id = id := by
  have := List.find?_some h
  exact ⟨List.mem_of_find?_eq_some h, by simpa using this⟩

/-- The record kept by the choice of R59 is one of the records or the one chosen before. -/
theorem leavesBefore_foldl_mem (n : LineCount) (rs : List RunRec) (best : Option RunRec) (out : RunRec)
    (h : rs.foldl (fun best r =>
      match best with
      | none => some r
      | some x => if leavesBefore n r x then some r else some x) best = some out) :
    out ∈ rs ∨ best = some out := by
  induction rs generalizing best with
  | nil => exact .inr h
  | cons r rs ih =>
    rw [List.foldl_cons] at h
    rcases ih _ h with hmem | hbest
    · exact .inl (by simp [hmem])
    · cases best with
      | none => cases hbest; exact .inl (by simp)
      | some x =>
        dsimp only at hbest
        split at hbest <;> cases hbest
        · exact .inl (by simp)
        · exact .inr rfl

theorem State.evictee_mem {s : State} {out : RunRec} (h : s.evictee = some out) :
    out ∈ s.runs ∧ s.referenced out.id = false := by
  rcases leavesBefore_foldl_mem _ _ _ _ h with hmem | hnone
  · simpa using hmem
  · cases hnone

/-- An evicted record leaves room for one. -/
theorem length_filter_id_lt {rs : List RunRec} {out : RunRec} (h : out ∈ rs) :
    (rs.filter fun x => x.id != out.id).length < rs.length :=
  List.length_filter_lt_length_iff_exists.mpr ⟨out, h, by simp⟩

theorem State.insertRun_keeps {s : State} (h : s.RunListInv) {n : RunNotice} (hnew : s.runRec n.id = none)
    (st : RunState) : (s.insertRun n st).RunListInv := by
  rw [State.runRec_eq_none] at hnew
  unfold State.insertRun
  dsimp only
  split
  next hroom => exact distinctRuns.append h hroom hnew
  · split
    next out hout =>
      obtain ⟨hmem, -⟩ := State.evictee_mem hout
      exact distinctRuns.append (distinctRuns.filter h _) ((length_filter_id_lt hmem).trans_le h.1)
        fun x hx => hnew x (List.mem_of_mem_filter hx)
    · exact h

theorem State.removeRun_runs (s : State) (run : RunId) : (s.removeRun run).runs = s.runs.filter fun x => x.id != run := by
  simp [State.removeRun]

theorem State.removeRun_keeps {s : State} (h : s.RunListInv) (run : RunId) : (s.removeRun run).RunListInv := by
  rw [State.runListInv_iff, State.removeRun_runs]; exact distinctRuns.filter h _

theorem State.modRun_keeps {s : State} (h : s.RunListInv) (run : RunId) {f : RunRec → RunRec}
    (hf : ∀ x, x.id = run → (f x).id = run) : (s.modRun run f).RunListInv :=
  distinctRuns.modify h run fun x _ hx => hf x hx

theorem State.replaced_id (s : State) (old : RunRec) (n : RunNotice) (st : RunState) :
    (s.replaced old n st).id = old.id := by
  simp only [State.replaced]; (repeat' split) <;> rfl

theorem State.replaceRun_runs (s : State) (old : RunRec) (n : RunNotice) (st : RunState) :
    (s.replaceRun old n st).runs = s.runs.map fun x => if x.id = n.id then s.replaced old n st else x := by
  simp only [State.replaceRun]; (repeat' split) <;> simp

theorem State.manifestSettled_runs (s : State) (run : RunId) :
    (s.manifestSettled run).runs = (s.modRun run fun r => { r with settled := true }).runs := by
  simp [State.manifestSettled]

theorem State.takeRun_keeps {s : State} (h : s.RunListInv) (src : Byte) (p : List Byte) :
    (s.takeRun src p).RunListInv := by
  unfold State.takeRun
  split
  · exact h
  · split
    · exact h
    · split
      next hnew =>
        split
        · exact h
        · split
          · exact h
          · exact State.insertRun_keeps h hnew _
      next old hold =>
        split
        · exact State.removeRun_keeps h _
        · split
          · exact State.removeRun_keeps h _
          · rw [State.runListInv_iff, State.replaceRun_runs]
            exact distinctRuns.modify h _ fun _ _ _ => (s.replaced_id ..).trans (State.runRec_some hold).2

theorem State.ageRun_keeps {s : State} (h : s.RunListInv) (run : RunId) : (s.ageRun run).RunListInv := by
  unfold State.ageRun
  split
  · split
    · exact State.removeRun_keeps h _
    · exact h
  · exact h

theorem State.manifestSettled_keeps {s : State} (h : s.RunListInv) (run : RunId) :
    (s.manifestSettled run).RunListInv := by
  rw [State.runListInv_iff, State.manifestSettled_runs]
  exact State.modRun_keeps h run fun x hx => hx

theorem State.waitExpiry_keeps {s : State} (h : s.RunListInv) (run : RunId) : (s.waitExpiry run).RunListInv := by
  have hmod := State.modRun_keeps h run (f := fun x => { x with wait := .expired }) fun _ hx => hx
  unfold State.waitExpiry
  split
  · split
    · split
      · dsimp only
        split
        · exact hmod
        · exact State.manifestSettled_keeps hmod run
      · exact h
    · exact h
  · exact h

/-- The record of a part's run as the part leaves it before its entries act (R61, R66). -/
def State.partHeard (s : State) (old : RunRec) (p : ManifestPart) : State :=
  let t := s.modRun p.id fun r =>
    { r with partCount := some p.count, mask := old.mask ||| BitVec.ofNat 4 (2 ^ p.index)
             state := if old.state = .planning then .loading else r.state
             wait := if old.state = .planning then s.waitFromNow else r.wait }
  if old.state = .planning then t.ask else t

/-- The entries of a part applied to the record as the part leaves it. -/
def State.partApplied (s : State) (old : RunRec) (p : ManifestPart) : State :=
  p.entries.foldl (State.applyEntry p.id) (s.partHeard old p)

/-- A part is heard, its entries act, and a mask made complete stops the wait and settles the manifest. -/
theorem State.applyPart_eq (s : State) (old : RunRec) (p : ManifestPart) :
    s.applyPart old p =
      if old.mask ||| BitVec.ofNat 4 (2 ^ p.index) = fullMask p.count then
        let w := (s.partApplied old p).modRun p.id fun r => { r with wait := .stopped }
        if old.settled then w else w.manifestSettled p.id
      else s.partApplied old p := rfl

theorem State.partApplied_keeps {s : State} (h : s.RunListInv) (old : RunRec) (p : ManifestPart) :
    (s.partApplied old p).RunListInv := by
  have hheard : (s.partHeard old p).RunListInv := by
    unfold State.partHeard
    dsimp only
    split <;> exact State.modRun_keeps h p.id fun _ hx => hx
  exact hheard.of_runs (by simp [State.partApplied])

theorem State.applyPart_keeps {s : State} (h : s.RunListInv) (old : RunRec) (p : ManifestPart) :
    (s.applyPart old p).RunListInv := by
  have hparts := State.partApplied_keeps h old p
  have hstopped := State.modRun_keeps hparts p.id (f := fun r => { r with wait := .stopped }) fun _ hx => hx
  rw [State.applyPart_eq]
  split
  · dsimp only
    split
    · exact hstopped
    · exact State.manifestSettled_keeps hstopped _
  · exact hparts

theorem State.takeManifest_keeps {s : State} (h : s.RunListInv) (src : Byte) (p : List Byte) :
    (s.takeManifest src p).RunListInv := by
  unfold State.takeManifest
  split
  · exact h
  · split
    · exact h
    · split
      · exact h
      · split
        · exact h
        · split
          · exact h
          · exact State.applyPart_keeps h _ _

/-- Only notices, manifest parts and the two expiries of a record change the run list. -/
theorem State.Deed.runListInv {s t : State} (hd : s.Deed t) (h : s.RunListInv) : t.RunListInv := by
  cases hd
  case run => exact State.takeRun_keeps h ..
  case manifest => exact State.takeManifest_keeps h ..
  case ageRun => exact State.ageRun_keeps h _
  case waitExpiry => exact State.waitExpiry_keeps h _
  all_goals exact h.of_runs (by simp)

theorem State.readEnd_runs (s : State) (img : List Byte) : (s.readEnd img).runs = s.runs := by
  cases hr : s.start.role <;>
    simp [State.readEnd, State.check, State.passCheck, State.adjust, State.setLanes, hr, apply_ite State.runs]

/-- Settles O44, over the effects of a step. -/
theorem runListStaysDistinct : Obligations.RunListStaysDistinct := by
  refine step_keeps (fun _ _ h => h) (fun _ _ _ _ => by simp [State.RunListInv, State.powerOn, State.restart])
    (fun _ _ _ _ => by simp [State.RunListInv, State.resetByPin, State.restart]) fun s t h heff => ?_
  cases heff
  case event u hd => exact (hd.runListInv h).of_runs (by simp)
  case readEnd img =>
    exact h.of_runs (s.readEnd_runs img)
  all_goals exact h.of_runs (by simp)

end Sys2Proof.Machine
end

section
/-! PROOFS. Notices (R158 to R161): the cases of a notice raised, the acknowledge button, and the invariant of the notice
list. -/

namespace Sys2Proof.Machine

/-! ## The lowest priority in a list -/

theorem le_foldl_max {a : Nat} (xs : List Nat) : a ≤ xs.foldl max a ∧ ∀ x ∈ xs, x ≤ xs.foldl max a := by
  induction xs generalizing a with
  | nil => simp
  | cons x xs ih =>
    obtain ⟨hle, hall⟩ := ih (a := max a x)
    simp only [List.foldl_cons, List.mem_cons, forall_eq_or_imp]
    exact ⟨by omega, by omega, hall⟩

theorem foldl_max_mem {a : Nat} (xs : List Nat) : xs.foldl max a = a ∨ xs.foldl max a ∈ xs := by
  induction xs generalizing a with
  | nil => exact .inl rfl
  | cons x xs ih =>
    rw [List.foldl_cons]
    rcases ih (a := max a x) with h | h
    · rcases Nat.le_total a x with hx | hx
      · rw [h, Nat.max_eq_right hx]; exact .inr (by simp)
      · rw [h, Nat.max_eq_left hx]; exact .inl rfl
    · exact .inr (by simp [h])

theorem NoticeKind.priority_pos (k : NoticeKind) : 0 < k.priority := by cases k <;> decide

theorem priority_le_lowest {ns : List Notice} {x : Notice} (h : x ∈ ns) : x.kind.priority ≤ lowestPriority ns :=
  (le_foldl_max _).2 _ (List.mem_map_of_mem h)

/-- A list with a notice holds one of the lowest priority. -/
theorem exists_lowest {ns : List Notice} (h : ns ≠ []) : ∃ x ∈ ns, x.kind.priority = lowestPriority ns := by
  obtain ⟨y, hy⟩ := List.exists_mem_of_ne_nil ns h
  have hle := priority_le_lowest hy
  rcases foldl_max_mem (a := 0) (ns.map fun x => x.kind.priority) with h0 | hmem
  · have hpos := y.kind.priority_pos
    rw [lowestPriority, h0] at hle
    omega
  · obtain ⟨x, hx, heq⟩ := List.mem_map.mp hmem
    exact ⟨x, hx, heq⟩

/-- The most recently placed notice of a priority that the list holds, and the list without it. -/
theorem split_lastOf {ns : List Notice} {p : Nat} (h : ∃ x ∈ ns, x.kind.priority = p) :
    ∃ ahead out behind, ns = ahead ++ out :: behind ∧ out.kind.priority = p ∧
      (∀ x ∈ behind, x.kind.priority ≠ p) ∧ lastOf p ns = some out ∧ dropLastOf p ns = ahead ++ behind := by
  obtain ⟨x, hx, hp⟩ := h
  obtain ⟨out, behind, ahead, hbehind, hout, hrev, herase⟩ :=
    List.exists_of_eraseP (p := fun x : Notice => x.kind.priority == p) (List.mem_reverse.mpr hx) (by simpa using hp)
  have hns : ns = ahead.reverse ++ out :: behind.reverse := by
    rw [← List.reverse_reverse (as := ns), hrev]; simp
  refine ⟨ahead.reverse, out, behind.reverse, hns, by simpa using hout, ?_, ?_, ?_⟩
  · simpa using hbehind
  · rw [lastOf, hrev, List.find?_append, List.find?_eq_none.mpr (by simpa using hbehind)]
    simp [hout]
  · rw [dropLastOf, herase]; simp

/-! ## The cases of a notice raised (R160) -/

section
variable (p : Panel) (clock : Nat) (kind : NoticeKind) (station lane : Nat)

theorem Notice.sameAs_iff (x : Notice) : x.sameAs kind station = true ↔ x.kind = kind ∧ x.station = station := by
  simp [Notice.sameAs]

/-- A notice of a kind and station in the list is merged. -/
theorem Panel.raise_merged (h : ∃ x ∈ p.notices, x.kind = kind ∧ x.station = station) :
    p.raise clock kind station lane = { p with notices := p.notices.map fun x =>
      if x.kind = kind ∧ x.station = station then { x with count := min (x.count + 1) 255, lane := lane } else x } := by
  have hany : (p.notices.any fun x => x.sameAs kind station) = true := by
    simpa [Notice.sameAs_iff] using h
  simp only [Panel.raise, hany, if_true, Notice.sameAs_iff, sat8]

theorem not_any_sameAs (h : ∀ x ∈ p.notices, ¬(x.kind = kind ∧ x.station = station)) :
    (p.notices.any fun x => x.sameAs kind station) = false := by
  simpa [Notice.sameAs] using h

/-- A new notice joins the end of a list with room. -/
theorem Panel.raise_placed (h : ∀ x ∈ p.notices, ¬(x.kind = kind ∧ x.station = station))
    (hroom : p.notices.length < 8) :
    p.raise clock kind station lane = { p with notices := p.notices ++ [⟨kind, station, lane, 1, clock⟩] } := by
  simp [Panel.raise, not_any_sameAs p kind station h, hroom]

/-- A new notice takes the place of the newest of the lowest priority in a full list. -/
theorem Panel.raise_displaces (h : ∀ x ∈ p.notices, ¬(x.kind = kind ∧ x.station = station))
    (hfull : 8 ≤ p.notices.length) (hlow : ∃ x ∈ p.notices, kind.priority < x.kind.priority) :
    ∃ ahead out behind, p.notices = ahead ++ out :: behind ∧
      (∀ x ∈ p.notices, x.kind.priority ≤ out.kind.priority) ∧
      (∀ x ∈ behind, x.kind.priority < out.kind.priority) ∧
      p.raise clock kind station lane = { p with
        notices := ahead ++ behind ++ [⟨kind, station, lane, 1, clock⟩]
        lost := min (p.lost + if out.kind = .overflow then out.count + 1 else 1) 255 } := by
  obtain ⟨y, hy, hlt⟩ := hlow
  have hbelow : kind.priority < lowestPriority p.notices := hlt.trans_le (priority_le_lowest hy)
  obtain ⟨ahead, out, behind, hns, hout, hbehind, hlast, hdrop⟩ :=
    split_lastOf (exists_lowest (List.ne_nil_of_mem hy))
  refine ⟨ahead, out, behind, hns, fun x hx => ?_, fun x hx => ?_, ?_⟩
  · rw [hout]; exact priority_le_lowest hx
  · have hmem : x ∈ p.notices := by rw [hns]; simp [hx]
    have := priority_le_lowest hmem
    have := hbehind x hx
    omega
  · simp only [Panel.raise, not_any_sameAs p kind station h, if_neg (Nat.not_lt.mpr hfull), hbelow, hlast, hdrop,
      if_true, sat8]
    rfl

/-- A notice that no listed one is below is lost when the list is full. -/
theorem Panel.raise_dropped (h : ∀ x ∈ p.notices, ¬(x.kind = kind ∧ x.station = station))
    (hfull : 8 ≤ p.notices.length) (hhigh : ∀ x ∈ p.notices, x.kind.priority ≤ kind.priority) :
    p.raise clock kind station lane = { p with lost := min (p.lost + 1) 255 } := by
  obtain ⟨x, hx, hlow⟩ := exists_lowest (ns := p.notices) (by rintro h0; simp [h0] at hfull)
  have hnot : ¬kind.priority < lowestPriority p.notices := by
    have := hhigh x hx
    omega
  simp [Panel.raise, not_any_sameAs p kind station h, Nat.not_lt.mpr hfull, hnot, sat8]

/-- What raising a notice changes of the panel. -/
theorem Panel.raise_frame :
    (p.raise clock kind station lane).phase = p.phase ∧ (p.raise clock kind station lane).chain = p.chain ∧
    (p.raise clock kind station lane).display = p.display ∧ (p.raise clock kind station lane).pick = p.pick ∧
    (p.raise clock kind station lane).stopIx = p.stopIx := by
  simp only [Panel.raise]; (repeat' split) <;> simp

end

/-! ## The notice shown (R161) -/

theorem shownNotice_some {ns : List Notice} {x : Notice} (h : shownNotice ns = some x) :
    x ∈ ns ∧ ∀ y ∈ ns, x.kind.priority ≤ y.kind.priority :=
  ⟨List.mem_of_find?_eq_some h, by simpa using List.find?_some h⟩

/-! ## The invariant of the list -/

/-- What the notice invariant says of the panel. -/
def Panel.noticesFit (p : Panel) : Prop :=
  p.notices.length ≤ 8 ∧ (p.notices.map fun x => (x.kind, x.station)).Nodup ∧
    (∀ x ∈ p.notices, 1 ≤ x.count ∧ x.count ≤ 255) ∧ p.lost ≤ 255

theorem State.NoticeInv.of_panel {s t : State} (h : s.NoticeInv) (hn : t.panel.notices = s.panel.notices)
    (hl : t.panel.lost = s.panel.lost) : t.NoticeInv := by
  simpa only [State.NoticeInv, hn, hl] using h

/-- A notice of another kind or station joins a list with room. -/
theorem keys_append {ns : List Notice} (h : (ns.map fun x => (x.kind, x.station)).Nodup) {new : Notice}
    (hnew : ∀ x ∈ ns, ¬(x.kind = new.kind ∧ x.station = new.station)) :
    ((ns ++ [new]).map fun x => (x.kind, x.station)).Nodup := by
  rw [List.map_append, List.nodup_append]
  exact ⟨h, by simp, by simpa using hnew⟩

/-- Counts and lanes changed, kinds and stations kept. -/
theorem keys_map {ns : List Notice} (f : Notice → Notice) (hf : ∀ x, (f x).kind = x.kind ∧ (f x).station = x.station) :
    ((ns.map f).map fun x => (x.kind, x.station)) = ns.map fun x => (x.kind, x.station) := by
  simp [hf, Function.comp_def]

theorem Panel.raise_fits {p : Panel} (h : p.noticesFit) (clock : Nat) (kind : NoticeKind) (station lane : Nat) :
    (p.raise clock kind station lane).noticesFit := by
  obtain ⟨hlen, hkeys, hcounts, hlost⟩ := h
  by_cases hsame : ∃ x ∈ p.notices, x.kind = kind ∧ x.station = station
  · rw [Panel.raise_merged p clock kind station lane hsame]
    refine ⟨by simpa using hlen, ?_, ?_, hlost⟩
    · rw [keys_map _ fun x => by split <;> exact ⟨rfl, rfl⟩]
      exact hkeys
    · intro x hx
      obtain ⟨y, hy, rfl⟩ := List.mem_map.mp hx
      have := hcounts y hy
      split
      · dsimp only; omega
      · exact this
  · have hnew : ∀ x ∈ p.notices, ¬(x.kind = kind ∧ x.station = station) := fun x hx hc => hsame ⟨x, hx, hc⟩
    rcases Nat.lt_or_ge p.notices.length 8 with hroom | hfull
    · rw [Panel.raise_placed p clock kind station lane hnew hroom]
      refine ⟨by simpa using hroom, keys_append hkeys hnew, ?_, hlost⟩
      simpa [or_imp, forall_and] using hcounts
    · by_cases hlow : ∃ x ∈ p.notices, kind.priority < x.kind.priority
      · obtain ⟨ahead, out, behind, hns, -, -, hq⟩ := Panel.raise_displaces p clock kind station lane hnew hfull hlow
        have hsub : (ahead ++ behind).Sublist p.notices := by rw [hns]; simp
        have hlen' : (ahead ++ behind).length < 8 := by rw [hns] at hlen; simp at hlen ⊢; omega
        rw [hq]
        refine ⟨by simp at hlen' ⊢; omega, keys_append (hkeys.sublist (hsub.map _)) fun x hx => hnew x (hsub.subset hx), ?_,
          Nat.min_le_right ..⟩
        intro x hx
        rcases List.mem_append.mp hx with hx | hx
        · exact hcounts x (hsub.subset hx)
        · rw [List.mem_singleton.mp hx]; simp
      · rw [Panel.raise_dropped p clock kind station lane hnew hfull fun x hx => by
          by_contra hc; exact hlow ⟨x, hx, by omega⟩]
        exact ⟨hlen, hkeys, hcounts, Nat.min_le_right ..⟩

theorem Panel.acknowledge_fits {p : Panel} (h : p.noticesFit) (clock : Nat) {x : Notice} (hx : x ∈ p.notices) :
    (p.acknowledge clock x).noticesFit := by
  obtain ⟨hlen, hkeys, hcounts, hlost⟩ := h
  have hsub : (p.notices.erase x).Sublist p.notices := List.erase_sublist
  have hlen' : (p.notices.erase x).length < 8 := by
    rw [List.length_erase_of_mem hx]
    have := List.length_pos_of_mem hx
    omega
  have hkeys' := hkeys.sublist (hsub.map fun x => (x.kind, x.station))
  have hcounts' : ∀ y ∈ p.notices.erase x, 1 ≤ y.count ∧ y.count ≤ 255 := fun y hy => hcounts y (hsub.subset hy)
  unfold Panel.acknowledge Panel.placeLost
  dsimp only
  split
  · exact ⟨hlen'.le, hkeys', hcounts', hlost⟩
  next hpos =>
    split
    · refine ⟨by simpa using hlen'.le, ?_, ?_, Nat.zero_le _⟩
      · dsimp only
        rw [keys_map _ fun x => by split <;> exact ⟨rfl, rfl⟩]
        exact hkeys'
      · intro y hy
        obtain ⟨z, hz, rfl⟩ := List.mem_map.mp hy
        have := hcounts' z hz
        split
        · simp only [sat8]; omega
        · exact this
    next hover =>
      refine ⟨by simpa using hlen', keys_append hkeys' fun y hy hc => hover ?_, ?_, Nat.zero_le _⟩
      · exact List.any_eq_true.mpr ⟨y, hy, by simp [hc.1]⟩
      · intro y hy
        rcases List.mem_append.mp hy with hy | hy
        · exact hcounts' y hy
        · rw [List.mem_singleton.mp hy]; dsimp only; omega

theorem State.raise_keeps {s : State} (h : s.NoticeInv) (kind : NoticeKind) (station lane : Nat) :
    (s.raise kind station lane).NoticeInv := Panel.raise_fits h ..

/-- A list of notices raised one after another. -/
theorem State.raise_foldl_keeps {α : Type} {f : State → α → State} (hf : ∀ t x, t.NoticeInv → (f t x).NoticeInv)
    (xs : List α) {s : State} (h : s.NoticeInv) : (xs.foldl f s).NoticeInv := by
  induction xs generalizing s with
  | nil => exact h
  | cons x xs ih => exact ih (hf s x h)

/-! ## The deeds of a train that raise notices -/

theorem State.refuse_keeps {s : State} (h : s.NoticeInv) (button : Nat) : (s.refuse button).NoticeInv :=
  State.raise_keeps h ..

/-- The state that load lock leaves before its notices and frames: the manifest fixed, the run LOADING, the book empty
(R105). -/
def State.locked (s : State) (r : Run) : State :=
  { s with planner.manifest := s.buildManifest r.id
           planner.current := some { r with state := .loading, loadMark := s.start.clock }
           planner.planning := none, planner.e := 0, book.entries := [], panel.pick := 1 }

/-- Load lock fixes the manifest, raises the LATE notices and announces the run. -/
theorem State.loadLock_eq (s : State) (r : Run) :
    s.loadLock r = ((s.locked r).raiseLate.queueParts { r with state := .loading, loadMark := s.start.clock }).announce
      { r with state := .loading, loadMark := s.start.clock } false := rfl

theorem State.raiseLate_keeps {s : State} (h : s.NoticeInv) : s.raiseLate.NoticeInv :=
  State.raise_foldl_keeps (fun t e ht => by split <;> [exact State.raise_keeps ht ..; exact ht]) _ h

theorem State.pressLoad_keeps {s : State} (h : s.NoticeInv) : s.pressLoad.NoticeInv := by
  unfold State.pressLoad
  split
  · split
    next r _ _ =>
      rw [State.loadLock_eq]
      exact (State.raiseLate_keeps (s := s.locked r) (h.of_panel rfl rfl)).of_panel (by simp) (by simp)
    · exact State.refuse_keeps h _
  · exact State.refuse_keeps h _

theorem State.departPresent_panel (s : State) (r : Run) (next : RunState) :
    (s.departPresent r next).panel = s.panel := by
  unfold State.departPresent; split <;> simp

theorem State.pressGo_keeps {s : State} (h : s.NoticeInv) : s.pressGo.NoticeInv := by
  unfold State.pressGo
  split
  · split
    · exact h.of_panel (by simp [State.departSupermarket]) (by simp [State.departSupermarket])
    · exact h.of_panel (by rw [State.departPresent_panel]) (by rw [State.departPresent_panel])
    · exact h.of_panel (by rw [State.departPresent_panel]) (by rw [State.departPresent_panel])
    · exact State.refuse_keeps h _
  · exact State.refuse_keeps h _

theorem State.pressHold_keeps {s : State} (h : s.NoticeInv) : s.pressHold.NoticeInv := by
  unfold State.pressHold
  split
  · split
    · exact h.of_panel (by simp) (by simp)
    · exact h.of_panel (by simp) (by simp)
    · exact State.refuse_keeps h _
  · exact State.refuse_keeps h _

theorem State.arriveAt_keeps {s : State} (h : s.NoticeInv) (r : Run) (stop : Nat) (kind : VisitKind) (revisit : Bool) :
    (s.arriveAt r stop kind revisit).NoticeInv :=
  h.of_panel (by simp [State.arriveAt]) (by simp [State.arriveAt])

theorem State.strobeEnroute_keeps {s : State} (h : s.NoticeInv) (r : Run) (stop : Nat) :
    (s.strobeEnroute r stop).NoticeInv := by
  unfold State.strobeEnroute
  split
  · exact h.of_panel (by simp) (by simp)
  · split
    · exact State.arriveAt_keeps h ..
    · split
      · exact State.arriveAt_keeps h ..
      · exact State.raise_keeps h ..
    · exact State.raise_keeps h ..

theorem State.strobeHeld_keeps {s : State} (h : s.NoticeInv) (r : Run) (stop : Nat) :
    (s.strobeHeld r stop).NoticeInv := by
  unfold State.strobeHeld
  split
  · exact State.arriveAt_keeps h ..
  · exact State.raise_keeps h ..

theorem State.strobeAfterDeparture_keeps {s : State} (h : s.NoticeInv) (stop : Nat) :
    (s.strobeAfterDeparture stop).NoticeInv := by
  unfold State.strobeAfterDeparture
  split
  · split
    · exact State.strobeEnroute_keeps h ..
    · exact State.strobeHeld_keeps h ..
    · exact h
  · exact h

theorem State.takeStrobe_keeps {s : State} (h : s.NoticeInv) (stop : Nat) : (s.takeStrobe stop).NoticeInv := by
  have hdep : ∀ r next, (s.departPresent r next).NoticeInv := fun r next =>
    h.of_panel (by rw [State.departPresent_panel]) (by rw [State.departPresent_panel])
  unfold State.takeStrobe
  split
  · split
    · exact h
    · exact h
    · exact State.strobeEnroute_keeps h ..
    · exact State.strobeHeld_keeps h ..
    · exact State.strobeAfterDeparture_keeps (hdep ..) _
    · exact State.strobeAfterDeparture_keeps (hdep ..) _
  · exact h

theorem State.strobe_keeps {s : State} (h : s.NoticeInv) : s.strobe.NoticeInv :=
  State.takeStrobe_keeps (h.of_panel (by simp) (by simp)) _

theorem State.applyReceiptItem_keeps {s : State} (h : s.NoticeInv) (src stop : Nat) (i : ReceiptItem) :
    (s.applyReceiptItem src stop i).NoticeInv := by
  unfold State.applyReceiptItem
  split
  · exact h
  · split
    · exact h
    · dsimp only
      split
      · exact State.raise_keeps (h.of_panel rfl rfl) ..
      · exact h.of_panel rfl rfl

theorem State.takeReceipt_keeps {s : State} (h : s.NoticeInv) (src : Byte) (p : List Byte) :
    (s.takeReceipt src p).NoticeInv := by
  unfold State.takeReceipt
  split
  · exact h
  · split
    · dsimp only
      split
      · exact State.raise_foldl_keeps (fun t i ht => State.applyReceiptItem_keeps ht ..) _ (h.of_panel rfl rfl)
      · exact h.of_panel rfl rfl
    · exact h

theorem State.receiptExpiry_keeps {s : State} (h : s.NoticeInv) (i : Nat) : (s.receiptExpiry i).NoticeInv := by
  unfold State.receiptExpiry
  split
  · split
    · split
      · exact State.raise_foldl_keeps (fun t x ht => State.raise_keeps ht ..) _ (h.of_panel rfl rfl)
      · exact h
    · exact h
  · exact h

theorem State.takeAck_keeps {s : State} (h : s.NoticeInv) : s.takeAck.NoticeInv := by
  unfold State.takeAck
  split
  next x hx => exact Panel.acknowledge_fits h _ (shownNotice_some hx).1
  · unfold State.ackMode
    (repeat' split) <;> exact h.of_panel rfl rfl

theorem State.Deed.noticeInv {s t : State} (hd : s.Deed t) (h : s.NoticeInv) : t.NoticeInv := by
  cases hd
  case pressLoad => exact State.pressLoad_keeps h
  case pressGo => exact State.pressGo_keeps h
  case pressHold => exact State.pressHold_keeps h
  case strobe => exact State.strobe_keeps h
  case ack => exact State.takeAck_keeps h
  case receipt => exact State.takeReceipt_keeps h ..
  case receiptExpiry => exact State.receiptExpiry_keeps h _
  all_goals exact h.of_panel (by simp) (by simp)

theorem State.readEnd_panel (s : State) (img : List Byte) : (s.readEnd img).panel = s.panel := by
  cases hr : s.start.role <;>
    simp [State.readEnd, State.check, State.passCheck, State.adjust, State.setLanes, hr, apply_ite State.panel]

/-- Lamp and display frames leave the notices. -/
theorem State.frames_notices (s : State) :
    (s.shiftLamps.panel.notices = s.panel.notices ∧ s.shiftLamps.panel.lost = s.panel.lost) ∧
    (s.shiftDisplay.panel.notices = s.panel.notices ∧ s.shiftDisplay.panel.lost = s.panel.lost) := by
  have htrim : s.trimStopIx.panel.notices = s.panel.notices ∧ s.trimStopIx.panel.lost = s.panel.lost := by
    unfold State.trimStopIx; split <;> exact ⟨rfl, rfl⟩
  unfold State.shiftLamps State.shiftDisplay
  constructor
  · split <;> exact ⟨rfl, rfl⟩
  · split
    · exact ⟨rfl, rfl⟩
    · exact htrim

/-- Settles O46, over the effects of a step. -/
theorem noticeListStaysDistinct : Obligations.NoticeListStaysDistinct := by
  refine step_keeps (fun _ _ h => h)
    (fun _ _ _ _ => by simp [State.NoticeInv, State.powerOn, State.restart, Panel.fresh])
    (fun _ _ _ _ => by simp [State.NoticeInv, State.resetByPin, State.restart, Panel.fresh]) fun s t h heff => ?_
  cases heff
  case event u hd => exact (hd.noticeInv h).of_panel (by simp) (by simp)
  case readEnd img => exact h.of_panel (by rw [State.readEnd_panel]) (by rw [State.readEnd_panel])
  case lamps => exact h.of_panel s.frames_notices.1.1 s.frames_notices.1.2
  case display => exact h.of_panel s.frames_notices.2.1 s.frames_notices.2.2
  all_goals exact h.of_panel (by simp) (by simp)

/-! ## ACK (R158, R161) -/

theorem exec_ack {s : State} (hw : s.worksAs .train = true) :
    exec .ack s = .next ({ s with planner.ackIn := .accept true } : State).takeAck.endEvent := by
  simp only [exec, execAck, hw, if_true, State.event]

/-- An ACK takes away the notice shown, the lost count with it. -/
theorem State.takeAck_of_shown {s : State} {x : Notice} (h : shownNotice s.panel.notices = some x) :
    s.takeAck = { s with panel := s.panel.acknowledge s.start.clock x } := by
  simp only [State.takeAck, h]

theorem State.takeAck_of_none {s : State} (h : shownNotice s.panel.notices = none) : s.takeAck = s.ackMode := by
  simp only [State.takeAck, h]

theorem Panel.acknowledge_of_none_lost {p : Panel} (h : p.lost = 0) (clock : Nat) (x : Notice) :
    p.acknowledge clock x = { p with notices := p.notices.erase x } := by
  simp [Panel.acknowledge, Panel.placeLost, h]

/-- Lost notices take the place freed: the count is used up, as a notice of its own where no OVERFLOW notice stands. -/
theorem Panel.acknowledge_of_lost {p : Panel} (h : p.lost ≠ 0) (clock : Nat) (x : Notice) :
    (p.acknowledge clock x).lost = 0 ∧
    ((p.notices.erase x).all (fun y => y.kind != .overflow) = true →
      (p.acknowledge clock x).notices = p.notices.erase x ++ [⟨.overflow, 0, 0, p.lost, clock⟩]) := by
  simp only [Panel.acknowledge, Panel.placeLost, h, if_false]
  split
  next hover =>
    refine ⟨rfl, fun hall => ?_⟩
    obtain ⟨y, hy, hk⟩ := List.any_eq_true.mp hover
    exact absurd hk (by simpa using List.all_eq_true.mp hall y hy)
  · exact ⟨rfl, fun _ => rfl⟩

theorem Panel.acknowledge_indices (p : Panel) (clock : Nat) (x : Notice) :
    (p.acknowledge clock x).pick = p.pick ∧ (p.acknowledge clock x).stopIx = p.stopIx := by
  simp only [Panel.acknowledge, Panel.placeLost]; (repeat' split) <;> exact ⟨rfl, rfl⟩

/-- What an ACK on the mode leaves of the notices and does to the two indices. -/
theorem State.ackMode_panel (s : State) :
    s.ackMode.panel.notices = s.panel.notices ∧
    s.ackMode.panel.pick =
      (if s.planner.lead.any (fun r => r.state == .loading) ∧ s.planner.manifest ≠ [] then
        (if s.panel.pick < s.planner.manifest.length then s.panel.pick + 1 else 1) else s.panel.pick) ∧
    ∀ r, s.planner.lead = some r → r.state = .atstop ∨ r.state = .detour →
      s.ackMode.panel.stopIx = wrapNext s.panel.stopIx (s.stopList r).length := by
  unfold State.ackMode
  rcases hlead : s.planner.lead with _ | r
  · simp
  · cases hst : r.state <;> simp [hst]
    rcases hm : s.planner.manifest with _ | ⟨m, ms⟩ <;> simp [wrapNext]

/-- Settles O45. -/
theorem noticesRaisedAndAcknowledged : Obligations.NoticesRaisedAndAcknowledged := by
  refine ⟨rfl, fun p clock kind station lane => ?_, fun s hw => ⟨fun x hx => ?_, fun hx => ?_⟩⟩
  · exact ⟨Panel.raise_merged p clock kind station lane, Panel.raise_placed p clock kind station lane,
      Panel.raise_displaces p clock kind station lane, Panel.raise_dropped p clock kind station lane⟩
  · obtain ⟨hmem, hmost⟩ := shownNotice_some hx
    refine ⟨hmem, hmost, _, exec_ack hw, ?_⟩
    rw [State.takeAck_of_shown (s := { s with planner.ackIn := .accept true }) hx]
    simp only [State.endEvent_frame]
    exact ⟨fun h0 => Panel.acknowledge_of_none_lost h0 .., fun h0 => Panel.acknowledge_of_lost h0 ..,
      (Panel.acknowledge_indices ..).1, (Panel.acknowledge_indices ..).2, rfl⟩
  · refine ⟨_, exec_ack hw, ?_⟩
    rw [State.takeAck_of_none (s := { s with planner.ackIn := .accept true }) hx]
    obtain ⟨hnotices, hpick, hstop⟩ := State.ackMode_panel { s with planner.ackIn := .accept true }
    simp only [State.endEvent_frame, State.ackMode_frame]
    exact ⟨rfl, hnotices, hpick, hstop⟩

end Sys2Proof.Machine
end

section
/-! PROOFS. The run slots, the manifest and the stop log stay within their rules (R99, R117, R124). -/

namespace Sys2Proof.Machine

/-! ## What the invariant says of a planner -/

/-- A run that the current slot may hold. -/
def Run.currentFits (r : Run) : Prop :=
  r.state ≠ .planning ∧ (r.present.isSome = true ↔ r.state = .atstop ∨ r.state = .detour)

/-- A run that the planning slot may hold. -/
def Run.planningFits (r : Run) : Prop := r.state = .planning ∧ r.present = none

/-- What the planner invariant says of a planner. -/
def Planner.fits (p : Planner) : Prop :=
  (∀ r, p.planning = some r → r.planningFits) ∧ (∀ r, p.current = some r → r.currentFits) ∧
    p.manifest.length ≤ 32 ∧ p.log.length ≤ 16

theorem State.plannerInv_iff (s : State) : s.PlannerInv ↔ s.planner.fits := Iff.rfl

theorem State.PlannerInv.of_planner {s t : State} (h : s.PlannerInv) (ht : t.planner = s.planner) : t.PlannerInv := by
  rw [State.plannerInv_iff, ht]; exact h

/-- The slots of a planner that fits, and the lead run (R103). -/
theorem Planner.lead_cases {p : Planner} (h : p.fits) {r : Run} (hr : p.lead = some r) :
    (p.current = some r ∧ r.currentFits) ∨ (p.current = none ∧ p.planning = some r ∧ r.planningFits) := by
  unfold Planner.lead at hr
  rcases hc : p.current with _ | c
  · rw [hc] at hr
    exact .inr ⟨rfl, hr, h.1 r hr⟩
  · rw [hc] at hr
    cases hr
    exact .inl ⟨rfl, h.2.1 r hc⟩

/-! ## Opening, load lock, departures and arrivals -/

theorem State.openedRun_fits (s : State) : s.openedRun.planningFits := ⟨rfl, rfl⟩

theorem State.openRun_fits {s : State} (h : s.PlannerInv) : s.openRun.PlannerInv := by
  unfold State.openRun
  split
  · obtain ⟨-, hcur, hman, hlog⟩ := h
    exact ⟨fun r hr => by cases hr; exact s.openedRun_fits, hcur, hman, hlog⟩
  · exact h

theorem State.openAndAnnounce_fits {s : State} (h : s.PlannerInv) : s.openAndAnnounce.PlannerInv := by
  unfold State.openAndAnnounce
  split
  · exact (State.openRun_fits h).of_planner (by simp)
  · exact h

/-- A current run put in its slot, the log replaced, the manifest kept. -/
theorem State.PlannerInv.replace {s t : State} (h : s.PlannerInv) (hplan : t.planner.planning = s.planner.planning)
    (hman : t.planner.manifest = s.planner.manifest) (hlog : t.planner.log.length ≤ 16)
    (hcur : ∀ r, t.planner.current = some r → r.currentFits) : t.PlannerInv := by
  obtain ⟨h1, -, h3, -⟩ := h
  exact ⟨by rwa [hplan], hcur, by rwa [hman], hlog⟩

theorem State.buildManifest_length (s : State) (run : RunId) : (s.buildManifest run).length ≤ 32 := by
  simp [State.buildManifest]

theorem State.loadLock_fits {s : State} (h : s.PlannerInv) {r : Run} (hr : r.present = none) :
    (s.loadLock r).PlannerInv := by
  obtain ⟨-, -, -, hlog⟩ := h
  have hlocked : (s.locked r).PlannerInv :=
    ⟨fun x hx => (nomatch hx), fun x hx => by cases hx; simp [hr], s.buildManifest_length r.id, hlog⟩
  rw [State.loadLock_eq]
  exact hlocked.of_planner (by simp)

theorem State.pressLoad_fits {s : State} (h : s.PlannerInv) : s.pressLoad.PlannerInv := by
  unfold State.pressLoad
  split
  next r hlead =>
    split
    next hst =>
      rcases Planner.lead_cases h hlead with ⟨-, hc⟩ | ⟨-, -, hp⟩
      · exact absurd hst hc.1
      · exact State.loadLock_fits h hp.2
    · exact h.of_planner (by simp)
  · exact h.of_planner (by simp)

theorem State.departLogs_length (s : State) : s.departLogs.length = s.planner.log.length := by
  rcases hl : s.planner.log.reverse with _ | ⟨e, rest⟩
  · simp [State.departLogs, List.reverse_eq_nil_iff.mp hl]
  · simp [State.departLogs, hl, ← List.length_reverse (as := s.planner.log)]

/-- The run that a departure leaves in the current slot (R112, R115). -/
def State.departedRun (s : State) (r : Run) (stop : Nat) (next : RunState) : Run :=
  { s.setServed r stop with state := next, present := none, revisit := r.revisit && next != .enroute }

theorem State.departPresent_planner {s : State} {r : Run} {next : RunState} {stop : Nat} (hp : r.present = some stop) :
    (s.departPresent r next).planner =
      { s.planner with current := some (s.departedRun r stop next), log := s.departLogs } := by
  simp [State.departPresent, hp, State.departedRun]

theorem State.departPresent_of_none (s : State) {r : Run} (next : RunState) (hp : r.present = none) :
    s.departPresent r next = s := by
  simp [State.departPresent, hp]

theorem State.departPresent_fits {s : State} (h : s.PlannerInv) {r : Run} {next : RunState}
    (hnext : next = .enroute ∨ next = .held) : (s.departPresent r next).PlannerInv := by
  rcases hp : r.present with _ | stop
  · exact h.of_planner (by rw [State.departPresent_of_none s next hp])
  · have heq := State.departPresent_planner (s := s) (next := next) hp
    refine h.replace (by rw [heq]) (by rw [heq]) ?_ fun x hx => ?_
    · rw [heq]; exact s.departLogs_length.trans_le h.2.2.2
    · rw [heq] at hx
      cases hx
      rcases hnext with rfl | rfl <;> exact ⟨by simp [State.departedRun], by simp [State.departedRun]⟩

theorem State.announceAll_planner (s : State) : s.announceAll.planner = s.planner := by simp

/-- A run that has left the supermarket, before the opening of the next (R107). -/
def State.leaving (s : State) (r : Run) : State :=
  { s with planner.current := some { r with state := .enroute }, planner.e := 0 }

theorem State.departSupermarket_eq (s : State) (r : Run) :
    s.departSupermarket r = (s.leaving r).openRun.announceAll := rfl

theorem State.departSupermarket_fits {s : State} (h : s.PlannerInv) {r : Run} (hr : r.present = none) :
    (s.departSupermarket r).PlannerInv := by
  rw [State.departSupermarket_eq]
  have hleft : (s.leaving r).PlannerInv := h.replace rfl rfl h.2.2.2 fun x hx => by
    cases hx
    exact ⟨by simp, by simp [hr]⟩
  exact (State.openRun_fits hleft).of_planner (State.announceAll_planner _)

theorem State.pressGo_fits {s : State} (h : s.PlannerInv) : s.pressGo.PlannerInv := by
  unfold State.pressGo
  split
  next r hlead =>
    split
    next hst =>
      rcases Planner.lead_cases h hlead with ⟨-, -, hc⟩ | ⟨-, -, hp⟩
      · exact State.departSupermarket_fits h (by simpa [hst] using hc)
      · exact State.departSupermarket_fits h hp.2
    · exact State.departPresent_fits h (.inl rfl)
    · exact State.departPresent_fits h (.inr rfl)
    · exact h.of_planner (by simp)
  · exact h.of_planner (by simp)

theorem State.pressHold_fits {s : State} (h : s.PlannerInv) : s.pressHold.PlannerInv := by
  have hset : ∀ r : Run, r.currentFits → (s.setCurrent r).announceAll.PlannerInv := fun r hr =>
    State.PlannerInv.of_planner (s := s.setCurrent r)
      (h.replace rfl rfl h.2.2.2 fun x hx => by cases hx; exact hr) (by simp)
  unfold State.pressHold
  split
  next r hlead =>
    have hnone : r.state ≠ .atstop → r.state ≠ .detour → r.present = none := fun h1 h2 => by
      rcases Planner.lead_cases h hlead with ⟨-, -, hc⟩ | ⟨-, -, hp⟩
      · simpa [h1, h2] using hc
      · exact hp.2
    split
    next hst => exact hset _ ⟨by simp, by simp [hnone (by simp [hst]) (by simp [hst])]⟩
    next hst => exact hset _ ⟨by simp, by simp [hnone (by simp [hst]) (by simp [hst])]⟩
    · exact h.of_planner (by simp)
  · exact h.of_planner (by simp)

theorem State.logArrival_length {s : State} (h : s.planner.log.length ≤ 16) (r : Run) (stop : Nat) (kind : VisitKind) :
    (s.logArrival r stop kind).length ≤ 16 := by
  unfold State.logArrival
  dsimp only
  split <;> simp at * <;> omega

theorem State.arriveAt_fits {s : State} (h : s.PlannerInv) (r : Run) (stop : Nat) (kind : VisitKind) (revisit : Bool) :
    (s.arriveAt r stop kind revisit).PlannerInv := by
  refine h.replace (by simp [State.arriveAt]) (by simp [State.arriveAt]) ?_ fun x hx => ?_
  · simpa [State.arriveAt] using State.logArrival_length h.2.2.2 r stop kind
  · simp only [State.arriveAt, State.announceAll_frame, State.offer_frame, Option.some.injEq] at hx
    subst hx
    by_cases hk : kind = .detour <;> simp [Run.currentFits, hk]

/-- A closed run, before the opening of the next (R109). -/
def State.closed (s : State) (r : Run) : State :=
  let t := s.announce r true
  { t with planner.current := none, planner.e := 0, planner.closeTime := some s.start.clock }

theorem State.closeRun_eq (s : State) (r : Run) : s.closeRun r = (s.closed r).openRun.announceAll := rfl

theorem State.closeRun_fits {s : State} (h : s.PlannerInv) (r : Run) : (s.closeRun r).PlannerInv := by
  rw [State.closeRun_eq]
  have hclosed : (s.closed r).PlannerInv :=
    h.replace (by simp [State.closed]) (by simp [State.closed]) (by simpa [State.closed] using h.2.2.2) fun x hx => (nomatch hx)
  exact (State.openRun_fits hclosed).of_planner (State.announceAll_planner _)

theorem State.strobeEnroute_fits {s : State} (h : s.PlannerInv) (r : Run) (stop : Nat) :
    (s.strobeEnroute r stop).PlannerInv := by
  unfold State.strobeEnroute
  split
  · exact State.closeRun_fits h r
  · split
    · exact State.arriveAt_fits h ..
    · split
      · exact State.arriveAt_fits h ..
      · exact h.of_planner (by simp)
    · exact h.of_planner (by simp)

theorem State.strobeHeld_fits {s : State} (h : s.PlannerInv) (r : Run) (stop : Nat) :
    (s.strobeHeld r stop).PlannerInv := by
  unfold State.strobeHeld
  split
  · exact State.arriveAt_fits h ..
  · exact h.of_planner (by simp)

theorem State.strobeAfterDeparture_fits {s : State} (h : s.PlannerInv) (stop : Nat) :
    (s.strobeAfterDeparture stop).PlannerInv := by
  unfold State.strobeAfterDeparture
  split
  · split
    · exact State.strobeEnroute_fits h ..
    · exact State.strobeHeld_fits h ..
    · exact h
  · exact h

theorem State.takeStrobe_fits {s : State} (h : s.PlannerInv) (stop : Nat) : (s.takeStrobe stop).PlannerInv := by
  unfold State.takeStrobe
  split
  · split
    · exact h
    · exact h
    · exact State.strobeEnroute_fits h ..
    · exact State.strobeHeld_fits h ..
    · exact State.strobeAfterDeparture_fits (State.departPresent_fits h (.inl rfl)) _
    · exact State.strobeAfterDeparture_fits (State.departPresent_fits h (.inr rfl)) _
  · exact h

theorem State.strobe_fits {s : State} (h : s.PlannerInv) : s.strobe.PlannerInv :=
  State.takeStrobe_fits (h.of_planner (by simp)) _

/-! ## Receipts, refresh and adoption -/

@[simp] theorem replaceFirst_length {α : Type} (p : α → Bool) (x : α) (xs : List α) :
    (replaceFirst p x xs).length = xs.length := by
  induction xs with
  | nil => rfl
  | cons y ys ih => simp only [replaceFirst]; split <;> simp [ih]

theorem hearLog_length (log : List LogEntry) (run : RunId) (stop src : Nat) :
    (hearLog log run stop src).length = log.length := by
  unfold hearLog; split <;> simp

/-- A receipt item changes of the planner the manifest alone, and not its length. -/
theorem State.applyReceiptItem_planner (src stop : Nat) (s : State) (i : ReceiptItem) :
    ∃ m, m.length = s.planner.manifest.length ∧
      (s.applyReceiptItem src stop i).planner = { s.planner with manifest := m } := by
  unfold State.applyReceiptItem
  split
  · exact ⟨_, rfl, rfl⟩
  · split
    · exact ⟨_, rfl, rfl⟩
    · dsimp only
      split
      · exact ⟨_, replaceFirst_length .., rfl⟩
      · exact ⟨_, replaceFirst_length .., rfl⟩

theorem State.applyReceiptItem_foldl_fits (src stop : Nat) (is : List ReceiptItem) {s : State} (h : s.PlannerInv) :
    (is.foldl (State.applyReceiptItem src stop) s).PlannerInv := by
  induction is generalizing s with
  | nil => exact h
  | cons i is ih =>
    obtain ⟨m, hm, hp⟩ := State.applyReceiptItem_planner src stop s i
    refine ih ?_
    obtain ⟨h1, h2, h3, h4⟩ := h
    rw [State.plannerInv_iff, hp]
    exact ⟨h1, h2, hm.trans_le h3, h4⟩

theorem State.takeReceipt_fits {s : State} (h : s.PlannerInv) (src : Byte) (p : List Byte) :
    (s.takeReceipt src p).PlannerInv := by
  unfold State.takeReceipt
  split
  · exact h
  next r hread =>
    split
    · have hheard : ({ s with planner.log := hearLog s.planner.log r.id r.stop src.toNat } : State).PlannerInv :=
        h.replace rfl rfl ((hearLog_length ..).trans_le h.2.2.2) h.2.1
      dsimp only
      split
      · exact State.applyReceiptItem_foldl_fits _ _ _ hheard
      · exact hheard
    · exact h

theorem State.receiptExpiry_fits {s : State} (h : s.PlannerInv) (i : Nat) : (s.receiptExpiry i).PlannerInv := by
  unfold State.receiptExpiry
  split
  next e _ =>
    split
    · split
      · refine State.PlannerInv.of_planner
          (s := { s with planner.log := s.planner.log.set i { e with timer := .expired } }) ?_ (by simp)
        exact h.replace rfl rfl (by simpa using h.2.2.2) h.2.1
      · exact h
    · exact h
  · exact h

theorem State.plannerRefresh_fits {s : State} (h : s.PlannerInv) : s.plannerRefresh.PlannerInv := by
  unfold State.plannerRefresh
  split
  · dsimp only
    refine State.PlannerInv.of_planner (s := { s with planner.refresh := some (s.deadline s.prof.tRefresh) })
      (h.replace rfl rfl h.2.2.2 h.2.1) ?_
    split <;> simp
  · exact h

theorem State.processUnit_fits {s : State} (h : s.PlannerInv) (src : Byte) (u : UnitNotice) :
    (s.processUnit src u).PlannerInv := by
  unfold State.processUnit
  dsimp only
  split
  · exact State.openAndAnnounce_fits (h.of_planner (by simp))
  · exact h.of_planner (by simp)

theorem State.takeUnit_fits {s : State} (h : s.PlannerInv) (src : Byte) (p : List Byte) :
    (s.takeUnit src p).PlannerInv := by
  unfold State.takeUnit
  split
  · exact h
  · split
    · split
      · exact State.processUnit_fits (h.of_planner (by simp)) ..
      · exact h.of_planner (by simp)
    · split
      · exact State.processUnit_fits (h.of_planner (by simp)) ..
      · exact h.of_planner (by simp)

theorem State.enterActive_planner (s : State) : s.enterActive.planner = s.planner := by simp

theorem State.listenEnds_fits {s : State} (h : s.PlannerInv) : s.listenEnds.PlannerInv := by
  unfold State.listenEnds
  split
  · unfold State.enterRole
    split
    · exact h
    · exact State.openAndAnnounce_fits (h.replace rfl rfl h.2.2.2 h.2.1)
    · split
      · exact h.of_planner (by simp)
      · exact h
    · exact h
  · exact h

theorem State.Deed.plannerInv {s t : State} (hd : s.Deed t) (h : s.PlannerInv) : t.PlannerInv := by
  cases hd
  case listenEnds => exact State.listenEnds_fits h
  case pressLoad => exact State.pressLoad_fits h
  case pressGo => exact State.pressGo_fits h
  case pressHold => exact State.pressHold_fits h
  case strobe => exact State.strobe_fits h
  case refresh => exact State.plannerRefresh_fits h
  case receipt => exact State.takeReceipt_fits h ..
  case receiptExpiry => exact State.receiptExpiry_fits h _
  case unit => exact State.takeUnit_fits h ..
  all_goals exact h.of_planner (by simp)

theorem State.readEnd_slots (s : State) (img : List Byte) :
    (s.readEnd img).planner.current = s.planner.current ∧ (s.readEnd img).planner.planning = s.planner.planning ∧
    (s.readEnd img).planner.manifest = s.planner.manifest ∧ (s.readEnd img).planner.log = s.planner.log := by
  have h : ∀ {α : Type} (f : Planner → α), (∀ p n, f { p with nextRun := n } = f p) →
      f (s.readEnd img).planner = f s.planner := fun f hf => by
    cases hr : s.start.role <;>
      simp [State.readEnd, State.check, State.passCheck, State.adjust, State.setLanes, hr, apply_ite State.planner,
        apply_ite f, hf]
  exact ⟨h _ fun _ _ => rfl, h _ fun _ _ => rfl, h _ fun _ _ => rfl, h _ fun _ _ => rfl⟩

theorem Planner.elapse_fits {p : Planner} (h : p.fits) : p.elapse.fits := by
  rw [Planner.elapse_eq]; exact h

/-- Settles O43, over the effects of a step. -/
theorem plannerSlotsStayLegal : Obligations.PlannerSlotsStayLegal := by
  refine step_keeps (fun _ _ h => h)
    (fun _ _ _ _ => by simp [State.PlannerInv, State.powerOn, State.restart, Planner.fresh])
    (fun _ _ _ _ => by simp [State.PlannerInv, State.resetByPin, State.restart, Planner.fresh]) fun s t h heff => ?_
  cases heff
  case event u hd => exact (hd.plannerInv h).of_planner (by simp)
  case trainIn => exact h.replace rfl rfl h.2.2.2 h.2.1
  case timer =>
    unfold State.timerUnit
    split
    · exact h
    · split
      · exact Planner.elapse_fits h
      · exact h.of_planner (by simp)
  case readEnd img =>
    obtain ⟨h1, h2, h3, h4⟩ := s.readEnd_slots img
    exact h.replace h2 h3 (by rw [h4]; exact h.2.2.2) (by rw [h1]; exact h.2.1)
  all_goals exact h.of_planner (by simp)

end Sys2Proof.Machine
end

section
/-! PROOFS. The sequence window holds P entries once a pacer has been heard (R15 to R18). -/

namespace Sys2Proof.Machine

/-! ## What the invariant reads -/

theorem State.WindowInv.of_line {s t : State} (h : s.WindowInv) (hl : t.line = s.line) (hs : t.start.state = s.start.state)
    (hr : t.start.role = s.start.role) (hp : t.prof = s.prof) : t.WindowInv := by
  rw [State.WindowInv, hl, hs, hr, hp]; exact h

/-- A line clock that a started station may hold: nothing before a pacer is heard, then P entries of a RACK. -/
def LineClock.fits (line : LineClock) (role : Role) (p : Nat) : Prop :=
  (line.state = .unsynced → line.window = [] ∧ line.silence = none) ∧
    (role = .rack → line.state ≠ .unsynced → line.window.length = p)

theorem State.WindowInv.line_fits {s : State} (h : s.WindowInv) : s.line.fits s.start.role s.prof.p := h.2

/-- Outside LOAD the invariant is what the line clock says. -/
theorem State.windowInv_of_fits {s : State} (h : s.start.state ≠ .load) (hl : s.line.fits s.start.role s.prof.p) :
    s.WindowInv := ⟨fun hc => absurd hc h, hl⟩

/-- A line clock that has left UNSYNCED fits with P entries, or with any window outside RACK role. -/
theorem LineClock.fits_of_synced {line : LineClock} {role : Role} {p : Nat} (hs : line.state ≠ .unsynced)
    (hw : role = .rack → line.window.length = p) : line.fits role p := ⟨fun hc => absurd hc hs, fun hr _ => hw hr⟩

theorem State.not_load_of_working {s : State} (h : s.working = true) : s.start.state ≠ .load := by
  obtain ⟨-, hst | hst⟩ := State.working_iff.mp h <;> simp [hst]

/-! ## UNIT notices (R9 to R18) -/

theorem UnitNotice.newest_length (u : UnitNotice) (k : Nat) : (u.newest k).length = k := by
  simp only [UnitNotice.newest, UnitNotice.heard, List.length_append, List.length_replicate, List.length_drop,
    List.length_cons, List.length_nil]
  omega

/-- A window built from a heard frame has P entries; the rest of the line clock stands. -/
theorem State.buildWindow_line (s : State) (u : UnitNotice) :
    (s.buildWindow u).line = if s.start.role = .rack then { s.line with window := u.newest s.prof.p } else s.line := by
  unfold State.buildWindow; split <;> simp

/-- An advance takes d entries in and as many out; the rest of the line clock stands. -/
theorem State.advanceWindow_line (s : State) (u : UnitNotice) (d : Nat) :
    (s.advanceWindow u d).line =
      if s.start.role = .rack then { s.line with window := (s.line.window ++ u.newest d).drop d } else s.line := by
  unfold State.advanceWindow; split <;> simp

theorem State.adopt_fits (s : State) (u : UnitNotice) : (s.adopt u).line.fits s.start.role s.prof.p := by
  have hline : (s.adopt u).line = ((({ s with line.n := u.n } : State).hearPacer u).buildWindow u).line := by
    simp [State.adopt]
  rw [hline, State.buildWindow_line]
  split
  · exact LineClock.fits_of_synced (by simp [State.hearPacer])
      fun _ => by simp [UnitNotice.newest_length, State.hearPacer]
  next hr => exact LineClock.fits_of_synced (by simp [State.hearPacer]) fun hc => absurd hc hr

theorem State.advanceTest_fits {s : State} (u : UnitNotice)
    (hw : s.start.role = .rack → s.line.window.length = s.prof.p) :
    (s.advanceTest u).line.fits s.start.role s.prof.p := by
  unfold State.advanceTest
  dsimp only
  split
  · exact LineClock.fits_of_synced (by simp [State.hearPacer]) fun hr => by simpa [State.hearPacer] using hw hr
  · split
    · rw [State.advanceWindow_line]
      split
      next hr =>
        refine LineClock.fits_of_synced (by simp [State.hearPacer]) fun _ => ?_
        have hold := hw hr
        simp [UnitNotice.newest_length, State.hearPacer, hold]
      next hr => exact LineClock.fits_of_synced (by simp [State.hearPacer]) fun hc => absurd hc hr
    · rw [State.buildWindow_line]
      split
      · exact LineClock.fits_of_synced (by simp [State.hearPacer])
          fun _ => by simp [UnitNotice.newest_length, State.hearPacer]
      next hr => exact LineClock.fits_of_synced (by simp [State.hearPacer]) fun hc => absurd hc hr

theorem State.processUnit_fits_line {s : State} (h : s.line.fits s.start.role s.prof.p) (src : Byte) (u : UnitNotice) :
    (s.processUnit src u).line.fits s.start.role s.prof.p := by
  unfold State.processUnit
  dsimp only
  split
  · exact State.adopt_fits ({ s with line.followed := some src } : State) u
  next hs => exact State.advanceTest_fits (s := { s with line.followed := some src }) u fun hr => h.2 hr hs

theorem State.takeUnit_fits_line {s : State} (h : s.line.fits s.start.role s.prof.p) (src : Byte) (p : List Byte) :
    (s.takeUnit src p).line.fits s.start.role s.prof.p := by
  have hproc : ∀ {t : State} (u : UnitNotice), t.line = s.line → t.start = s.start → t.prof = s.prof →
      (t.processUnit src u).line.fits s.start.role s.prof.p := fun {t} u hl hs hp => by
    have := State.processUnit_fits_line (s := t) (by rwa [hl, hs, hp]) src u
    rwa [hs, hp] at this
  unfold State.takeUnit
  split
  · exact h
  · split
    · split
      · exact hproc _ (by simp) (by simp) (by simp)
      · exact h
    · split
      · exact hproc _ (by simp) (by simp) (by simp)
      · exact h

/-! ## Expiries, edges and the end of the listen period -/

theorem State.followOwn_line (s : State) :
    s.followOwn.line = { s.line with n := s.pacer.nLocal, takt := s.pacer.measured } := rfl

theorem State.enterActive_line (s : State) :
    s.enterActive.line =
      { s.line with followed := some s.ownByte, state := .tracking, silence := none, n := s.pacer.nLocal,
                    takt := s.pacer.measured } := by
  simp [State.enterActive, State.queueUnit, State.followOwn]

theorem State.edge_line (s : State) :
    s.edge.line.state = s.line.state ∧ s.edge.line.window = s.line.window ∧ s.edge.line.silence = s.line.silence := by
  unfold State.edge
  dsimp only
  split <;> simp [State.queueUnit, State.followOwn, State.countEdge]

theorem State.silenceExpiry_fits {s : State} (h : s.line.fits s.start.role s.prof.p) :
    s.silenceExpiry.line.fits s.start.role s.prof.p := by
  unfold State.silenceExpiry
  split
  next hdue =>
    have hsync : s.line.state ≠ .unsynced := fun hc => by simp [(h.1 hc).2, State.due] at hdue
    split
    · rw [State.enterActive_line]
      exact LineClock.fits_of_synced (by simp) fun hr => h.2 hr hsync
    · exact LineClock.fits_of_synced (by simp) fun hr => h.2 hr hsync
  · exact h

theorem State.listenEnds_windowInv {s : State} (h : s.WindowInv) : s.listenEnds.WindowInv := by
  unfold State.listenEnds
  split
  · refine State.windowInv_of_fits (by simp) ?_
    unfold State.enterRole
    split
    next hr => exact h.2
    next hr => simpa [hr] using h.line_fits
    next hr =>
      split
      · rw [State.enterActive_line]
        have hrole : s.start.role = .pacer := hr
        exact LineClock.fits_of_synced (by simp) fun hc => by simp [hrole] at hc
      · exact h.2
    · exact h.2
  · exact h

theorem State.Deed.windowInv {s t : State} (hd : s.Deed t) (h : s.WindowInv) : t.WindowInv := by
  cases hd
  case listenEnds => exact State.listenEnds_windowInv h
  case edge hw =>
    have hs := State.not_load_of_working (State.working_of_worksAs hw)
    obtain ⟨h1, h2, h3⟩ := s.edge_line
    refine State.windowInv_of_fits (by simpa using hs) ?_
    rw [LineClock.fits, h1, h2, h3]
    simpa using h.2
  case silence hw =>
    exact State.windowInv_of_fits (by simpa using State.not_load_of_working hw)
      (by simpa using State.silenceExpiry_fits h.line_fits)
  case unit hw src p =>
    exact State.windowInv_of_fits (by simpa using State.not_load_of_working hw)
      (by simpa using State.takeUnit_fits_line h.line_fits src p)
  all_goals exact h.of_line (by simp) (by simp) (by simp) (by simp)

/-! ## The end of reading (R186) -/

theorem State.readEnd_line (s : State) (img : List Byte) : (s.readEnd img).line = s.line := by
  cases hr : s.start.role <;>
    simp [State.readEnd, State.check, State.passCheck, State.adjust, State.setLanes, hr, apply_ite State.line]

theorem State.readEnd_of_not_load {s : State} (img : List Byte) (h : s.start.state ≠ .load) : s.readEnd img = s := by
  simp [State.readEnd, h]

theorem State.readEnd_windowInv {s : State} (h : s.WindowInv) (img : List Byte) : (s.readEnd img).WindowInv := by
  by_cases hload : s.start.state = .load
  · have hu : (s.readEnd img).line.state = .unsynced := by rw [State.readEnd_line]; exact h.1 hload
    exact ⟨fun _ => hu, by rw [State.readEnd_line]; exact h.2.1, fun _ hc => absurd hu hc⟩
  · rwa [State.readEnd_of_not_load img hload]

/-! ## Timer units (R118) -/

theorem State.tickClock_start (s : State) :
    s.tickClock.start.state = s.start.state ∧ s.tickClock.start.role = s.start.role ∧
    s.tickClock.start.own = s.start.own ∧ s.tickClock.start.cause = s.start.cause ∧
    s.tickClock.start.resetLow = s.start.resetLow := by
  unfold State.tickClock
  split <;> exact ⟨rfl, rfl, rfl, rfl, rfl⟩

/-- A timer unit changes the start-up unit in its clock alone. -/
theorem State.timerUnit_start (s : State) :
    s.timerUnit.start.state = s.start.state ∧ s.timerUnit.start.role = s.start.role ∧
    s.timerUnit.start.own = s.start.own ∧ s.timerUnit.start.cause = s.start.cause ∧
    s.timerUnit.start.resetLow = s.start.resetLow := by
  unfold State.timerUnit
  split
  · exact ⟨rfl, rfl, rfl, rfl, rfl⟩
  · split
    · exact s.tickClock_start
    · exact s.tickClock_start

/-- Settles O57, over the effects of a step. -/
theorem windowHoldsPUnits : Obligations.WindowHoldsPUnits := by
  refine step_keeps (fun _ _ h => h)
    (fun _ _ _ _ => by simp [State.WindowInv, State.powerOn, State.restart, LineClock.fresh])
    (fun _ _ _ _ => by simp [State.WindowInv, State.resetByPin, State.restart, LineClock.fresh]) fun s t h heff => ?_
  cases heff
  case event u hd => exact (hd.windowInv h).of_line (by simp) (by simp) (by simp) (by simp)
  case readEnd img => exact State.readEnd_windowInv h img
  case timer =>
    exact h.of_line (by simp) s.timerUnit_start.1 s.timerUnit_start.2.1 (by simp)
  case resetLow => exact h.of_line rfl rfl rfl rfl
  all_goals exact h.of_line (by simp) (by simp) (by simp) (by simp)

end Sys2Proof.Machine
end

section
/-! PROOFS. What the operations of the blocks leave of every lane's goods (its profile part, presence and stock) and of the
operation in progress with its marks and capacity copies (R21, R78, R79). -/

namespace Sys2Proof.Machine

/-! ## The two views -/

/-- What a lane is and holds: profile part, presence and stock figures. -/
def LaneRec.goods (r : LaneRec) : LaneCfg × Bool × StockView := (r.cfg, r.present, r.stock)

theorem LaneRec.of_goods {r r' : LaneRec} (h : r.goods = r'.goods) :
    r.cfg = r'.cfg ∧ r.present = r'.present ∧ r.stock = r'.stock := by
  simpa [LaneRec.goods] using h

/-- The goods of every lane stand. -/
structure State.keepsGoods (s t : State) : Prop where
  lane : ∀ l, (t.lane l).goods = (s.lane l).goods

/-- The book but for its entries, its timer, the last claim set and the requests of the event being taken: the operation in
progress, its marks and the capacity copies. -/
def Book.work (b : Book) : Option BookOp × Bool × Bool × List (RunId × Caps) :=
  (b.op, b.pendingMark, b.refreshDue, b.copies)

theorem Book.of_work {a b : Book} (h : a.work = b.work) :
    a.op = b.op ∧ a.pendingMark = b.pendingMark ∧ a.refreshDue = b.refreshDue ∧ a.copies = b.copies := by
  simpa [Book.work] using h

/-- What the events of the other blocks change of the book leaves its work. -/
@[simp] theorem Book.work_requests (b : Book) (es : List Entry) (ls : List ClaimItem) (rf : Option Nat) (a ar : Bool) :
    ({ b with entries := es, lastSet := ls, refresh := rf, asked := a, askedRefresh := ar } : Book).work = b.work := rfl

theorem State.keepsGoods.refl (s : State) : s.keepsGoods s := ⟨fun _ => rfl⟩

theorem State.keepsGoods.trans {s t u : State} (h : s.keepsGoods t) (h' : t.keepsGoods u) : s.keepsGoods u :=
  ⟨fun l => (h'.lane l).trans (h.lane l)⟩

theorem State.keepsGoods.of_lanes {s t : State} (h : t.lanes = s.lanes) : s.keepsGoods t :=
  ⟨fun l => by rw [State.lane_congr h]⟩

theorem State.keepsGoods.ask {s t : State} (h : s.keepsGoods t) : s.keepsGoods t.ask :=
  ⟨fun l => by rw [State.lane_congr t.ask_lanes, h.lane]⟩

/-- Steps that each keep a view keep it one after another. -/
theorem foldl_keeps {σ α β : Type} {f : σ → α → σ} {g : σ → β} (h : ∀ s a, g (f s a) = g s) (xs : List α) (s : σ) :
    g (xs.foldl f s) = g s := by
  induction xs generalizing s with
  | nil => rfl
  | cons x xs ih => rw [List.foldl_cons, ih, h]

theorem State.keepsGoods.foldl {α : Type} {f : State → α → State} (h : ∀ (s : State) a, s.keepsGoods (f s a)) (xs : List α)
    (s : State) : s.keepsGoods (xs.foldl f s) :=
  ⟨fun l => foldl_keeps (g := fun t : State => (t.lane l).goods) (fun s a => (h s a).lane l) xs s⟩

/-! ## Records -/

theorem LaneRec.goods_of_sansFace {r r' : LaneRec} (h : r.sansFace = r'.sansFace) : r.goods = r'.goods := by
  obtain ⟨hstock, -, hpresent, hcfg, -⟩ := LaneRec.of_sansFace h
  simp [LaneRec.goods, hstock, hpresent, hcfg]

theorem LaneRec.goods_of_steady {r r' : LaneRec} (h : r.steady = r'.steady) : r.goods = r'.goods := by
  obtain ⟨hstock, -, hpresent, hcfg, -⟩ := LaneRec.of_steady h
  simp [LaneRec.goods, hstock, hpresent, hcfg]

theorem LaneRec.goods_of_sansForecast {r r' : LaneRec} (h : r.sansForecast = r'.sansForecast) : r.goods = r'.goods := by
  obtain ⟨hstock, -, hpresent, hcfg, -⟩ := LaneRec.of_sansForecast h
  simp [LaneRec.goods, hstock, hpresent, hcfg]

@[simp] theorem LaneRec.commit_goods (r : LaneRec) : r.commit.goods = r.goods :=
  LaneRec.goods_of_sansFace r.commit_sansFace

@[simp] theorem LaneRec.darken_goods (r : LaneRec) (faceOpen : Bool) : (r.darken faceOpen).goods = r.goods := by
  unfold LaneRec.darken; dsimp only; split <;> rfl

@[simp] theorem LaneRec.setSensor_goods (r : LaneRec) (k : Sensor) (x : SensorIn) : (r.setSensor k x).goods = r.goods := by
  cases k <;> rfl

/-! ## The loading face, moves and forecasts -/

theorem State.modLane_goods {s : State} {l : LaneIx} {f : LaneRec → LaneRec}
    (hf : ∀ r : LaneRec, (f r).goods = r.goods := by exact fun _ => rfl) :
    s.keepsGoods (s.modLane l f) := ⟨fun m => by
  rw [State.lane_modLane]; split
  next h => rw [h, hf]
  · rfl⟩

theorem State.trigger_goods (s : State) (k : Bank) : s.keepsGoods (s.trigger k) := ⟨fun l => by
  rw [State.trigger_lane]; split <;> simp⟩

theorem State.closeFace_goods (s : State) (k : Bank) : s.keepsGoods (s.closeFace k) := ⟨fun l => by
  rw [State.closeFace_lane]; split <;> simp⟩

theorem State.restage_goods (s : State) (l : LaneIx) : s.keepsGoods (s.restage l) :=
  ⟨fun m => LaneRec.goods_of_sansFace (s.restage_sansFace l m)⟩

theorem State.moveLane_goods {s : State} {l : LaneIx} {f : LaneRec → LaneRec}
    (hf : ∀ r : LaneRec, (f r).goods = r.goods := by exact fun _ => rfl) :
    s.keepsGoods (s.moveLane l f) := ⟨fun m => by
  rw [(s.moveLane_cells l f m .a).1]
  exact ((State.modLane_goods (f := fun r => { f r with moved := true }) fun r => hf r).trans
    (State.restage_goods _ l)).lane m⟩

theorem State.forecastLane_goods (s : State) (l : LaneIx) : s.keepsGoods (s.forecastLane l) :=
  ⟨fun m => LaneRec.goods_of_sansForecast (State.forecastLane_foldl_sansForecast [l] s m)⟩

theorem State.forecastAll_goods (s : State) : s.keepsGoods s.forecastAll :=
  ⟨fun m => LaneRec.goods_of_sansForecast (s.forecastAll_sansForecast m)⟩

theorem State.endEvent_goods (s : State) : s.keepsGoods s.endEvent :=
  ⟨fun l => LaneRec.goods_of_steady (s.endEvent_steady l)⟩

@[simp] theorem State.moveLane_work (s : State) (l : LaneIx) (f : LaneRec → LaneRec) :
    (s.moveLane l f).book.work = s.book.work := by
  simp only [State.moveLane]; split <;> simp [Book.work]

@[simp] theorem State.forecastLane_work (s : State) (l : LaneIx) : (s.forecastLane l).book.work = s.book.work := by
  have h := s.forecastLane_book l
  exact (congrArg Book.work h :)

@[simp] theorem State.forecastAll_work (s : State) : s.forecastAll.book.work = s.book.work :=
  foldl_keeps (g := fun t : State => t.book.work) State.forecastLane_work allLanes s

/-! ## Completion and counting (R132, R133) -/

theorem State.joinItems_goods (s : State) (l : LaneIx) : s.keepsGoods (s.joinItems l) := .of_lanes (by simp)

theorem State.followItem_goods (s : State) (l : LaneIx) : s.keepsGoods (s.followItem l) := .of_lanes (by simp)

theorem State.complete_goods (s : State) (l : LaneIx) : s.keepsGoods (s.complete l) := by
  unfold State.complete
  dsimp only
  refine .trans ?_ (.trans State.moveLane_goods (State.forecastLane_goods _ l))
  split <;> split <;> exact .of_lanes (by simp)

theorem State.completeIfDone_goods (s : State) (l : LaneIx) : s.keepsGoods (s.completeIfDone l) := by
  unfold State.completeIfDone
  dsimp only
  split
  · exact s.complete_goods l
  · exact .refl s

theorem State.countFeed_goods (s : State) (l : LaneIx) : s.keepsGoods (s.countFeed l) := by
  unfold State.countFeed
  split
  · exact .trans State.modLane_goods ((State.followItem_goods _ l).trans (State.completeIfDone_goods _ l))
  · exact .refl s

@[simp] theorem State.complete_work (s : State) (l : LaneIx) : (s.complete l).book.work = s.book.work := by
  simp only [State.complete]; (repeat' split) <;> simp

@[simp] theorem State.completeIfDone_work (s : State) (l : LaneIx) : (s.completeIfDone l).book.work = s.book.work := by
  simp only [State.completeIfDone]; split <;> simp

@[simp] theorem State.countFeed_work (s : State) (l : LaneIx) : (s.countFeed l).book.work = s.book.work := by
  simp only [State.countFeed]; split <;> simp

/-! ## Settlement (R136, R138) -/

theorem State.settleLane_goods (run : RunId) (s : State) (l : LaneIx) : s.keepsGoods (s.settleLane run l) := by
  unfold State.settleLane
  dsimp only
  refine .ask (.trans ?_ State.moveLane_goods)
  split <;> split <;> exact .of_lanes (by simp)

theorem State.closeBusiness_goods (s : State) (k : Bank) (run : RunId) : s.keepsGoods (s.closeBusiness k run) := by
  unfold State.closeBusiness
  dsimp only
  split <;> split
  · exact .trans (.of_lanes (by simp)) (State.closeFace_goods _ k)
  · exact .of_lanes (by simp)
  · exact .trans (.of_lanes (by simp)) (State.closeFace_goods _ k)
  · exact .refl s

theorem State.settleBank_goods (s : State) (k : Bank) (run : RunId) : s.keepsGoods (s.settleBank k run) :=
  (State.keepsGoods.foldl (State.settleLane_goods run) _ s).trans (State.closeBusiness_goods _ k run)

theorem State.settleDeparted_goods (s : State) (k : Bank) (run : RunId) : s.keepsGoods (s.settleDeparted k run) :=
  (s.settleBank_goods k run).trans (.of_lanes (by simp [State.settleDeparted]))

theorem State.settleRun_goods (s : State) (run : RunId) : s.keepsGoods (s.settleRun run) :=
  (s.settleBank_goods .a run).trans (State.settleBank_goods _ .b run)

theorem departBank_goods (run : RunId) (acc : State × List Item) (k : Bank) :
    acc.1.keepsGoods (departBank run acc k).1 := by
  unfold departBank
  split
  · exact State.settleDeparted_goods ..
  · exact .refl _

theorem departBank_foldl_goods (run : RunId) (ks : List Bank) (acc : State × List Item) :
    acc.1.keepsGoods (ks.foldl (departBank run) acc).1 :=
  ⟨fun l => foldl_keeps (g := fun a : State × List Item => (a.1.lane l).goods)
    (fun a k => (departBank_goods run a k).lane l) ks acc⟩

theorem State.departStop_goods (s : State) (run : RunId) (stop : Nat) : s.keepsGoods (s.departStop run stop) := by
  have h := departBank_foldl_goods run (s.banksAt stop) (s, [])
  unfold State.departStop
  dsimp only
  split
  · exact h
  · exact h.trans (.of_lanes (by simp))

@[simp] theorem State.settleLane_work (run : RunId) (s : State) (l : LaneIx) :
    (s.settleLane run l).book.work = s.book.work := by
  have hask : ∀ t : State, t.ask.book.work = t.book.work := fun _ => rfl
  simp only [State.settleLane, hask]; (repeat' split) <;> simp

@[simp] theorem State.settleBank_work (s : State) (k : Bank) (run : RunId) :
    (s.settleBank k run).book.work = s.book.work := by
  simpa [State.settleBank] using foldl_keeps (g := fun t : State => t.book.work) (State.settleLane_work run) _ s

@[simp] theorem State.settleDeparted_work (s : State) (k : Bank) (run : RunId) :
    (s.settleDeparted k run).book.work = s.book.work := by
  simp [State.settleDeparted]

@[simp] theorem State.settleRun_work (s : State) (run : RunId) : (s.settleRun run).book.work = s.book.work := by
  simp [State.settleRun]

@[simp] theorem departBank_work (run : RunId) (acc : State × List Item) (k : Bank) :
    (departBank run acc k).1.book.work = acc.1.book.work := by
  unfold departBank; split <;> simp

@[simp] theorem State.departStop_work (s : State) (run : RunId) (stop : Nat) :
    (s.departStop run stop).book.work = s.book.work := by
  have h := foldl_keeps (g := fun a : State × List Item => a.1.book.work) (departBank_work run) (s.banksAt stop) (s, [])
  unfold State.departStop
  dsimp only
  split <;> simpa using h

/-! ## Arrival (R127 to R130) -/

theorem State.releaseClaim_lanes (s : State) (l : LaneIx) : (s.releaseClaim l).lanes = s.lanes := by
  unfold State.releaseClaim; split <;> rfl

theorem State.releaseClaim_goods (s : State) (l : LaneIx) : s.keepsGoods (s.releaseClaim l) :=
  .of_lanes (s.releaseClaim_lanes l)

@[simp] theorem State.releaseClaim_work (s : State) (l : LaneIx) : (s.releaseClaim l).book.work = s.book.work := by
  unfold State.releaseClaim; split <;> rfl

theorem State.arriveLane_goods (run : RunId) (s : State) (l : LaneIx) : s.keepsGoods (s.arriveLane run l) := by
  unfold State.arriveLane
  dsimp only
  split
  · exact .refl s
  · split
    · exact .trans State.moveLane_goods (State.joinItems_goods _ l)
    · split
      · exact (s.releaseClaim_goods l).trans (.trans State.moveLane_goods (State.joinItems_goods _ l))
      · exact .refl s

theorem State.revisitLane_goods (run : RunId) (s : State) (l : LaneIx) : s.keepsGoods (s.revisitLane run l) := by
  unfold State.revisitLane
  dsimp only
  split
  · split
    · exact (s.releaseClaim_goods l).trans (.trans State.moveLane_goods (State.joinItems_goods _ l))
    · exact .refl s
  · exact .refl s

/-- The bank of an ARRIVE with any other run's business settled (R128). -/
def State.clearedFor (s : State) (k : Bank) (run : RunId) : State :=
  match (s.bank k).recordRun with
  | some other => if other = run then s else s.settleBank k other
  | none => s

/-- The visit opened (R128). -/
def State.visitOpened (s : State) (k : Bank) (run : RunId) (revisit : Bool) : State :=
  s.modBank k fun b => { b with visit := some run, recordRun := some run, revisit := revisit }

/-- The lanes of a bank moved to a run that has arrived (R129, R130). -/
def State.lanesArrived (s : State) (k : Bank) (run : RunId) (revisit : Bool) : State :=
  let v := (bankLanes k).foldl (State.arriveLane run) s
  if revisit && (v.runRec run).isSome then (bankLanes k).foldl (State.revisitLane run) v else v

theorem State.arriveBank_eq (run : RunId) (revisit : Bool) (s : State) (k : Bank) :
    s.arriveBank run revisit k = (((s.clearedFor k run).visitOpened k run revisit).lanesArrived k run revisit).trigger k :=
  rfl

theorem State.clearedFor_goods (s : State) (k : Bank) (run : RunId) : s.keepsGoods (s.clearedFor k run) := by
  unfold State.clearedFor
  split
  · split
    · exact .refl s
    · exact s.settleBank_goods ..
  · exact .refl s

theorem State.lanesArrived_goods (s : State) (k : Bank) (run : RunId) (revisit : Bool) :
    s.keepsGoods (s.lanesArrived k run revisit) := by
  have h := State.keepsGoods.foldl (State.arriveLane_goods run) (bankLanes k) s
  unfold State.lanesArrived
  dsimp only
  split
  · exact h.trans (.foldl (State.revisitLane_goods run) _ _)
  · exact h

theorem State.arriveBank_goods (run : RunId) (revisit : Bool) (s : State) (k : Bank) :
    s.keepsGoods (s.arriveBank run revisit k) := by
  rw [State.arriveBank_eq]
  exact (s.clearedFor_goods k run).trans (.trans (.of_lanes (by simp [State.visitOpened]))
    ((State.lanesArrived_goods _ k run revisit).trans (State.trigger_goods _ k)))

theorem State.takeArrive_goods (s : State) (src : Byte) (p : List Byte) : s.keepsGoods (s.takeArrive src p) := by
  unfold State.takeArrive
  split
  · split
    · exact .foldl (State.arriveBank_goods _ _) _ s
    · exact .refl s
  · exact .refl s

theorem State.takeDepart_goods (s : State) (src : Byte) (p : List Byte) : s.keepsGoods (s.takeDepart src p) := by
  unfold State.takeDepart
  split
  · split
    · exact s.departStop_goods ..
    · exact .refl s
  · exact .refl s

@[simp] theorem State.arriveLane_work (run : RunId) (s : State) (l : LaneIx) :
    (s.arriveLane run l).book.work = s.book.work := by
  simp only [State.arriveLane]; (repeat' split) <;> simp

@[simp] theorem State.revisitLane_work (run : RunId) (s : State) (l : LaneIx) :
    (s.revisitLane run l).book.work = s.book.work := by
  simp only [State.revisitLane]; (repeat' split) <;> simp

@[simp] theorem State.clearedFor_work (s : State) (k : Bank) (run : RunId) :
    (s.clearedFor k run).book.work = s.book.work := by
  unfold State.clearedFor; (repeat' split) <;> simp

@[simp] theorem State.lanesArrived_work (s : State) (k : Bank) (run : RunId) (revisit : Bool) :
    (s.lanesArrived k run revisit).book.work = s.book.work := by
  have h := foldl_keeps (g := fun t : State => t.book.work) (State.arriveLane_work run) (bankLanes k) s
  unfold State.lanesArrived
  dsimp only
  split
  · exact (foldl_keeps (g := fun t : State => t.book.work) (State.revisitLane_work run) _ _).trans h
  · exact h

@[simp] theorem State.arriveBank_work (run : RunId) (revisit : Bool) (s : State) (k : Bank) :
    (s.arriveBank run revisit k).book.work = s.book.work := by
  simp [State.arriveBank_eq, State.visitOpened]

@[simp] theorem State.takeArrive_work (s : State) (src : Byte) (p : List Byte) :
    (s.takeArrive src p).book.work = s.book.work := by
  unfold State.takeArrive
  split
  · split
    · exact foldl_keeps (g := fun t : State => t.book.work) (State.arriveBank_work _ _) _ s
    · rfl
  · rfl

@[simp] theorem State.takeDepart_work (s : State) (src : Byte) (p : List Byte) :
    (s.takeDepart src p).book.work = s.book.work := by
  simp only [State.takeDepart]; (repeat' split) <;> simp

/-! ## Sensor events (R24 to R31) -/

@[simp] theorem State.markOverfill_work (s : State) (l : LaneIx) : (s.markOverfill l).book.work = s.book.work := by
  simp only [State.markOverfill]; split <;> simp

@[simp] theorem State.takeChange_work (s : State) (l : LaneIx) (k : Sensor) (x : Bool) :
    (s.takeChange l k x).book.work = s.book.work := by
  have hclear : (s.clearLatch l k).book = s.book := rfl
  unfold State.takeChange
  split
  · dsimp only
    split
    · cases k
      · simp only [State.takeRising, State.takeFeed]
        split <;> simp
      · simp only [State.takeRising, State.takeEmpty]
        split <;> simp
      · simp only [State.takeRising, State.takeReserve]
        split <;> simp
    · rw [hclear]
  · rfl

/-! ## The run list (Section 4) -/

theorem State.dropClaim_goods (run : RunId) (s : State) (l : LaneIx) : s.keepsGoods (s.dropClaim run l) := by
  unfold State.dropClaim
  split
  · exact (s.releaseClaim_goods l).trans State.moveLane_goods
  · exact .refl s

/-- A run's visits and promises settled and its claims fallen (R64). -/
def State.claimsFallen (s : State) (run : RunId) : State := allLanes.foldl (State.dropClaim run) (s.settleRun run)

/-- A run's record leaves the list (R64). -/
def State.runGone (s : State) (run : RunId) : State := { s with runs := s.runs.filter fun x => x.id != run }

theorem State.removeRun_eq (s : State) (run : RunId) : s.removeRun run = ((s.claimsFallen run).runGone run).ask := by
  unfold State.removeRun State.claimsFallen State.runGone; rfl

theorem State.claimsFallen_goods (s : State) (run : RunId) : s.keepsGoods (s.claimsFallen run) :=
  (s.settleRun_goods run).trans (.foldl (State.dropClaim_goods run) _ _)

theorem State.removeRun_goods (s : State) (run : RunId) : s.keepsGoods (s.removeRun run) := by
  rw [State.removeRun_eq]
  exact (s.claimsFallen_goods run).trans (.of_lanes (by simp [State.runGone]))

theorem State.insertRun_goods (s : State) (n : RunNotice) (st : RunState) : s.keepsGoods (s.insertRun n st) := by
  unfold State.insertRun
  dsimp only
  (repeat' split) <;> exact .of_lanes rfl

/-- The notice's record put in its place, after the settlement of a regression (R60, R62). -/
def State.renewed (s : State) (old : RunRec) (n : RunNotice) (st : RunState) : State :=
  let t := if old.state ≠ .planning ∧ st = .planning then s.settleRun n.id else s
  let u := t.modRun n.id fun _ => s.replaced old n st
  if changesList old (s.replaced old n st) then u.ask else u

theorem State.replaceRun_eq (s : State) (old : RunRec) (n : RunNotice) (st : RunState) :
    s.replaceRun old n st =
      (s.servedStops old (s.replaced old n st)).foldl (fun w stop => w.departStop n.id stop) (s.renewed old n st) := rfl

theorem State.renewed_goods (s : State) (old : RunRec) (n : RunNotice) (st : RunState) :
    s.keepsGoods (s.renewed old n st) := by
  have h : ∀ t : State, s.keepsGoods t → s.keepsGoods
      (if changesList old (s.replaced old n st) then (t.modRun n.id fun _ => s.replaced old n st).ask
        else t.modRun n.id fun _ => s.replaced old n st) := fun t ht => by
    split <;> exact ht.trans (.of_lanes rfl)
  refine h _ ?_
  split
  · exact s.settleRun_goods n.id
  · exact .refl s

theorem State.replaceRun_goods (s : State) (old : RunRec) (n : RunNotice) (st : RunState) :
    s.keepsGoods (s.replaceRun old n st) := by
  rw [State.replaceRun_eq]
  exact (s.renewed_goods old n st).trans (.foldl (fun t stop => t.departStop_goods n.id stop) _ _)

theorem State.takeRun_goods (s : State) (src : Byte) (p : List Byte) : s.keepsGoods (s.takeRun src p) := by
  unfold State.takeRun
  split
  · exact .refl s
  · split
    · exact .refl s
    · split
      · split
        · exact .refl s
        · split
          · exact .refl s
          · exact s.insertRun_goods ..
      · split
        · exact s.removeRun_goods _
        · split
          · exact s.removeRun_goods _
          · exact s.replaceRun_goods ..

theorem State.ageRun_goods (s : State) (run : RunId) : s.keepsGoods (s.ageRun run) := by
  unfold State.ageRun
  split
  · split
    · exact s.removeRun_goods run
    · exact .refl s
  · exact .refl s

theorem State.fallBackLane_goods (run : RunId) (s : State) (l : LaneIx) : s.keepsGoods (s.fallBackLane run l) := by
  unfold State.fallBackLane
  dsimp only
  split
  · exact .ask State.moveLane_goods
  · exact s.dropClaim_goods run l

theorem State.manifestSettled_goods (s : State) (run : RunId) : s.keepsGoods (s.manifestSettled run) := by
  unfold State.manifestSettled
  exact .ask (.trans (.of_lanes (by simp)) (.foldl (State.fallBackLane_goods run) _ _))

theorem State.waitExpiry_goods (s : State) (run : RunId) : s.keepsGoods (s.waitExpiry run) := by
  unfold State.waitExpiry
  split
  · split
    · split
      · dsimp only
        split
        · exact .of_lanes rfl
        · exact .trans (.of_lanes (by simp)) (State.manifestSettled_goods _ run)
      · exact .refl s
    · exact .refl s
  · exact .refl s

theorem State.promiseLane_goods (s : State) (run : RunId) (l : LaneIx) (bins : Nat) :
    s.keepsGoods (s.promiseLane run l bins) := by
  have h : s.keepsGoods ((s.releaseClaim l).moveLane l (LaneRec.manifested run bins ((s.bank (bankOf l)).visit == some run))) :=
    (s.releaseClaim_goods l).trans State.moveLane_goods
  unfold State.promiseLane
  dsimp only
  split
  · exact h.trans (State.joinItems_goods _ l)
  · exact h

theorem State.confirmLane_goods (s : State) (l : LaneIx) (bins : Nat) : s.keepsGoods (s.confirmLane l bins) :=
  .trans State.modLane_goods ((State.followItem_goods _ l).trans (State.completeIfDone_goods _ l))

theorem State.applyEntry_goods (run : RunId) (s : State) (e : PartEntry) : s.keepsGoods (s.applyEntry run e) := by
  unfold State.applyEntry
  split
  · exact .refl s
  · dsimp only
    split
    · exact s.promiseLane_goods ..
    · split
      · exact s.confirmLane_goods ..
      · exact .of_lanes rfl

theorem State.applyPart_goods (s : State) (old : RunRec) (p : ManifestPart) : s.keepsGoods (s.applyPart old p) := by
  have h : s.keepsGoods (s.partApplied old p) := by
    unfold State.partApplied
    refine .trans (.of_lanes ?_) (State.keepsGoods.foldl (State.applyEntry_goods p.id) p.entries _)
    unfold State.partHeard
    dsimp only
    split <;> rfl
  rw [State.applyPart_eq]
  split
  · split
    · exact h.trans (.of_lanes (by simp))
    · exact h.trans (.trans (.of_lanes (by simp)) (State.manifestSettled_goods _ p.id))
  · exact h

theorem State.takeManifest_goods (s : State) (src : Byte) (p : List Byte) : s.keepsGoods (s.takeManifest src p) := by
  unfold State.takeManifest
  split
  · exact .refl s
  · split
    · exact .refl s
    · split
      · exact .refl s
      · split
        · exact .refl s
        · split
          · exact .refl s
          · exact s.applyPart_goods ..

@[simp] theorem State.dropClaim_work (run : RunId) (s : State) (l : LaneIx) :
    (s.dropClaim run l).book.work = s.book.work := by
  simp only [State.dropClaim]; split <;> simp

@[simp] theorem State.claimsFallen_work (s : State) (run : RunId) : (s.claimsFallen run).book.work = s.book.work :=
  (foldl_keeps (g := fun t : State => t.book.work) (State.dropClaim_work run) allLanes _).trans (s.settleRun_work run)

@[simp] theorem State.removeRun_work (s : State) (run : RunId) : (s.removeRun run).book.work = s.book.work := by
  simp [State.removeRun_eq, State.runGone]

@[simp] theorem State.insertRun_work (s : State) (n : RunNotice) (st : RunState) :
    (s.insertRun n st).book.work = s.book.work := by
  simp only [State.insertRun]; (repeat' split) <;> rfl

@[simp] theorem State.renewed_work (s : State) (old : RunRec) (n : RunNotice) (st : RunState) :
    (s.renewed old n st).book.work = s.book.work := by
  simp only [State.renewed]; (repeat' split) <;> simp

@[simp] theorem State.replaceRun_work (s : State) (old : RunRec) (n : RunNotice) (st : RunState) :
    (s.replaceRun old n st).book.work = s.book.work := by
  rw [State.replaceRun_eq]
  exact (foldl_keeps (g := fun t : State => t.book.work) (fun t stop => t.departStop_work n.id stop) _ _).trans (by simp)

@[simp] theorem State.takeRun_work (s : State) (src : Byte) (p : List Byte) :
    (s.takeRun src p).book.work = s.book.work := by
  simp only [State.takeRun]; (repeat' split) <;> simp

@[simp] theorem State.ageRun_work (s : State) (run : RunId) : (s.ageRun run).book.work = s.book.work := by
  simp only [State.ageRun]; (repeat' split) <;> simp

@[simp] theorem State.fallBackLane_work (run : RunId) (s : State) (l : LaneIx) :
    (s.fallBackLane run l).book.work = s.book.work := by
  simp only [State.fallBackLane]; split <;> simp

@[simp] theorem State.manifestSettled_work (s : State) (run : RunId) :
    (s.manifestSettled run).book.work = s.book.work := by
  unfold State.manifestSettled
  generalize allLanes = ls
  exact foldl_keeps (g := fun t : State => t.book.work) (State.fallBackLane_work run) ls _

@[simp] theorem State.waitExpiry_work (s : State) (run : RunId) : (s.waitExpiry run).book.work = s.book.work := by
  simp only [State.waitExpiry]; (repeat' split) <;> simp

@[simp] theorem State.applyEntry_work (run : RunId) (s : State) (e : PartEntry) :
    (s.applyEntry run e).book.work = s.book.work := by
  simp only [State.applyEntry, State.promiseLane, State.confirmLane]; (repeat' split) <;> simp

@[simp] theorem State.takeManifest_work (s : State) (src : Byte) (p : List Byte) :
    (s.takeManifest src p).book.work = s.book.work := by
  have happly : ∀ (old : RunRec) (q : ManifestPart), (s.partApplied old q).book.work = s.book.work := fun old q => by
    unfold State.partApplied
    refine (foldl_keeps (g := fun t : State => t.book.work) (State.applyEntry_work q.id) q.entries _).trans ?_
    unfold State.partHeard
    dsimp only
    split <;> rfl
  simp only [State.takeManifest, State.applyPart_eq]; (repeat' split) <;> simp [happly]

/-! ## The line clock and the train -/

@[simp] theorem State.takeUnit_work (s : State) (src : Byte) (p : List Byte) :
    (s.takeUnit src p).book.work = s.book.work := by
  have hopen : ∀ t : State, t.openAndAnnounce.book.work = t.book.work := fun t => by
    simp only [State.openAndAnnounce, State.openRun]; (repeat' split) <;> simp [Book.work]
  have hbuild : ∀ (t : State) (u : UnitNotice), (t.buildWindow u).book.work = t.book.work := fun t u => by
    simp only [State.buildWindow]; split <;> simp
  have hadvance : ∀ (t : State) (u : UnitNotice) (d : Nat), (t.advanceWindow u d).book.work = t.book.work := fun t u d => by
    simp only [State.advanceWindow]; split <;> simp
  simp only [State.takeUnit, State.processUnit, State.adopt, State.advanceTest]
  (repeat' split) <;> simp [hopen, hbuild, hadvance, State.hearPacer]

end Sys2Proof.Machine
end

section
/-! PROOFS. The receive queue is held only behind a CLAIMSET that waits for a busy book (R173, R175). -/

namespace Sys2Proof.Machine

/-! ## The operation in progress stands in the events of the train and the start-up unit -/

@[simp] theorem State.openRun_work (s : State) : s.openRun.book.work = s.book.work := by
  simp only [State.openRun]; split <;> simp

@[simp] theorem State.openAndAnnounce_work (s : State) : s.openAndAnnounce.book.work = s.book.work := by
  simp only [State.openAndAnnounce]; split <;> simp

@[simp] theorem State.loadLock_work (s : State) (r : Run) : (s.loadLock r).book.work = s.book.work := by
  simp [State.loadLock]

@[simp] theorem State.pressLoad_work (s : State) : s.pressLoad.book.work = s.book.work := by
  simp only [State.pressLoad]; (repeat' split) <;> simp

@[simp] theorem State.departSupermarket_work (s : State) (r : Run) :
    (s.departSupermarket r).book.work = s.book.work := by
  simp [State.departSupermarket]

@[simp] theorem State.pressGo_work (s : State) : s.pressGo.book.work = s.book.work := by
  simp only [State.pressGo]; (repeat' split) <;> simp

@[simp] theorem State.closeRun_work (s : State) (r : Run) : (s.closeRun r).book.work = s.book.work := by
  simp [State.closeRun]

@[simp] theorem State.strobeEnroute_work (s : State) (r : Run) (stop : Nat) :
    (s.strobeEnroute r stop).book.work = s.book.work := by
  simp only [State.strobeEnroute]; (repeat' split) <;> simp

@[simp] theorem State.strobe_work (s : State) : s.strobe.book.work = s.book.work := by
  simp only [State.strobe, State.takeStrobe, State.strobeAfterDeparture]; (repeat' split) <;> simp

@[simp] theorem State.listenEnds_work (s : State) : s.listenEnds.book.work = s.book.work := by
  simp only [State.listenEnds, State.enterRole]; (repeat' split) <;> simp

@[simp] theorem State.ageEntry_work (s : State) (station : Nat) (l : LaneIx) :
    (s.ageEntry station l).book.work = s.book.work := by
  simp only [State.ageEntry]; (repeat' split) <;> simp

@[simp] theorem State.bookRefresh_work (s : State) : s.bookRefresh.book.work = s.book.work := by
  simp only [State.bookRefresh]; split <;> simp

/-- A deed leaves the operation in progress, its marks and the capacity copies, but for a CLAIMSET, which starts one. -/
theorem State.Deed.work {s t : State} (hd : s.Deed t) :
    t.book.work = s.book.work ∨ s.busy = false ∧ ∃ cs, t = s.startOp (some cs) := by
  cases hd
  case claimset hidle f hf =>
    unfold State.takeClaimset
    split
    · exact .inr ⟨hidle, _, rfl⟩
    · exact .inl rfl
  all_goals exact .inl (by simp)

/-! ## A busy book stays busy -/

theorem State.busy_of_op {s t : State} (h : t.book.op = s.book.op) : t.busy = s.busy := by
  rw [State.busy, State.busy, h]

@[simp] theorem State.startOp_busy (s : State) (cs : Option ClaimSet) : (s.startOp cs).busy = true := rfl

theorem State.Deed.busy {s t : State} (hd : s.Deed t) (h : s.busy = true) : t.busy = true := by
  rcases hd.work with hw | ⟨hidle, -⟩
  · rw [State.busy_of_op (Book.of_work hw).1, h]
  · rw [h] at hidle; cases hidle

theorem State.endEvent_busy {s : State} (h : s.busy = true) : s.endEvent.busy = true := by
  rw [State.busy_of_op (s.endEvent_op.1 h).1, h]

/-- What a waiting receive queue needs stands: the queue, the role, LISTEN or ACTIVE, and a busy book. -/
structure State.holdsQueue (s t : State) : Prop where
  rxq : t.air.rxq = s.air.rxq
  role : t.start.role = s.start.role
  state : s.start.state = .listen ∨ s.start.state = .active → t.start.state = .listen ∨ t.start.state = .active
  busy : s.busy = true → t.busy = true

theorem State.holdsQueue.refl (s : State) : s.holdsQueue s := ⟨rfl, rfl, id, id⟩

theorem State.holdsQueue.trans {s t u : State} (h : s.holdsQueue t) (h' : t.holdsQueue u) : s.holdsQueue u :=
  ⟨h'.rxq.trans h.rxq, h'.role.trans h.role, h'.state ∘ h.state, h'.busy ∘ h.busy⟩

theorem State.waitsForBook_iff (s : State) (f : RxFrame) :
    s.waitsForBook f = true ↔
      f.kind = .claimset ∧ (s.start.role = .rack ∨ s.start.role = .train) ∧ s.start.state ≠ .fault := by
  simp [State.waitsForBook, and_assoc]

theorem State.ReceiveInv.of_holdsQueue {s t : State} (h : s.ReceiveInv) (ht : s.holdsQueue t) : t.ReceiveInv := by
  refine ⟨ht.rxq ▸ h.1, fun hne => ?_⟩
  obtain ⟨hst, hbusy, f, rest, hq, hwait⟩ := h.2 (ht.rxq ▸ hne)
  obtain ⟨hkind, hrole, -⟩ := (s.waitsForBook_iff f).mp hwait
  have hst' := ht.state hst
  refine ⟨hst', ht.busy hbusy, f, rest, ht.rxq.trans hq, (t.waitsForBook_iff f).mpr ⟨hkind, ht.role ▸ hrole, ?_⟩⟩
  rcases hst' with h' | h' <;> simp [h']

theorem State.holdsQueue.of_start {s t : State} (hs : t.start = s.start) (hq : t.air.rxq = s.air.rxq)
    (hb : s.busy = true → t.busy = true) : s.holdsQueue t :=
  ⟨hq, by rw [hs], by rw [hs]; exact id, hb⟩

theorem State.listenEnds_start (s : State) :
    s.listenEnds.start = s.start ∨ s.listenEnds.start = { s.start with state := .active, listenEnd := none } := by
  unfold State.listenEnds
  split
  · exact .inr (by simp)
  · exact .inl rfl

theorem State.Deed.holdsQueue {s t : State} (hd : s.Deed t) : s.holdsQueue t.endEvent := by
  have hq : t.air.rxq = s.air.rxq := by cases hd <;> exact (Air.of_sansQueue (by simp)).2.2.2.1
  have hb : s.busy = true → t.endEvent.busy = true := fun h => State.endEvent_busy (hd.busy h)
  cases hd
  case listenEnds =>
    refine ⟨by simpa using hq, ?_, ?_, hb⟩ <;> rcases s.listenEnds_start with h | h <;> simp [h]
  all_goals exact .of_start (by simp) ((congrArg Air.rxq (State.endEvent_frame _).2.2.2.1).trans hq) hb

/-! ## Samples and commands that deal with no frame -/

theorem State.holdsQueue.sampled {s t : State} (c : Prop) [Decidable c] {f : State → State} (hin : s.holdsQueue t)
    (hev : t.Deed (f t)) : s.holdsQueue (if c then t.event f else t) := by
  split
  · exact hin.trans hev.holdsQueue
  · exact hin

theorem State.sampleLanes_holdsQueue {s : State} (h : s.worksAs .rack = true) (sense : BitVec 48) (ls : List LaneIx) :
    s.holdsQueue (ls.foldl (State.sampleLane sense) s) := by
  have hlane : ∀ {t : State} (l : LaneIx) (ks : List Sensor), t.worksAs .rack = true →
      t.holdsQueue (ks.foldl (State.sampleSensor sense l) t) := fun {t} l ks ht => by
    induction ks generalizing t with
    | nil => exact .refl t
    | cons k ks ih =>
      exact ((State.holdsQueue.sampled _ ⟨rfl, rfl, id, id⟩ (.change (by exact ht) ..) :
        t.holdsQueue (t.sampleSensor sense l k))).trans (ih (State.worksAs_of_start ht (State.sampleSensor_frame sense l t k).1))
  induction ls generalizing s with
  | nil => exact .refl s
  | cons l ls ih => exact (hlane l allSensors h).trans (ih (State.worksAs_of_start h (State.sampleLane_frame sense s l).1))

theorem State.samplePresence_holdsQueue {s : State} (h : s.worksAs .rack = true) (k : Bank) (x : Bool) :
    s.holdsQueue (s.samplePresence k x) :=
  .sampled _ (.of_start (by simp) (by simp) (by simp [State.busy]))
    (.presence (State.worksAs_of_start h (by simp)) ..)

theorem State.sampleTrain_holdsQueue {s : State} (h : s.worksAs .train = true) (rp : BitVec 12) :
    s.holdsQueue (s.sampleTrain rp) := by
  have works : ∀ {t : State}, t.start = s.start → t.worksAs .train = true := State.worksAs_of_start h
  have hstrobe (t : State) (x : Bool) (ht : t.start = s.start) : t.holdsQueue (t.sampleStrobe x) :=
    .sampled _ ⟨rfl, rfl, id, id⟩ (.strobe (by exact works ht))
  have hload (t : State) (x : Bool) (ht : t.start = s.start) : t.holdsQueue (t.sampleLoad x) :=
    .sampled _ ⟨rfl, rfl, id, id⟩ (.pressLoad (by exact works ht))
  have hgo (t : State) (x : Bool) (ht : t.start = s.start) : t.holdsQueue (t.sampleGo x) :=
    .sampled _ ⟨rfl, rfl, id, id⟩ (.pressGo (by exact works ht))
  have hhold (t : State) (x : Bool) (ht : t.start = s.start) : t.holdsQueue (t.sampleHold x) :=
    .sampled _ ⟨rfl, rfl, id, id⟩ (.pressHold (by exact works ht))
  have hack (t : State) (x : Bool) (ht : t.start = s.start) : t.holdsQueue (t.sampleAck x) :=
    .sampled _ ⟨rfl, rfl, id, id⟩ (.ack (by exact works ht))
  have hstop : s.holdsQueue (s.sampleStop rp) := ⟨rfl, rfl, id, id⟩
  exact ((((hstop.trans (hstrobe _ _ (by simp))).trans (hload _ _ (by simp))).trans (hgo _ _ (by simp))).trans
    (hhold _ _ (by simp))).trans (hack _ _ (by simp))

theorem State.samplePins_holdsQueue (s : State) (pins : Pins) : s.holdsQueue (s.samplePins pins) := by
  unfold State.samplePins
  split
  next hw =>
    split
    next hr =>
      have h := State.worksAs_iff.mpr ⟨hw, hr⟩
      exact ((State.sampleLanes_holdsQueue h ..).trans
        (State.samplePresence_holdsQueue (State.worksAs_of_start h (by simp)) ..)).trans
        (State.samplePresence_holdsQueue (State.worksAs_of_start h (by simp)) ..)
    next hr => exact State.sampleTrain_holdsQueue (State.worksAs_iff.mpr ⟨hw, hr⟩) pins.rp
    next hr =>
      have h := State.worksAs_iff.mpr ⟨hw, hr⟩
      exact .sampled _ ⟨rfl, rfl, id, id⟩ (.edge (by exact h))
    · exact .refl s
  · exact .refl s

/-- An event that a command brings where its guard holds. -/
theorem State.holdsQueue.event {s : State} {c : Bool} {f : State → State} (hev : c = true → s.Deed (f s)) :
    s.holdsQueue (if c then s.event f else s) := by
  split
  next h => exact (hev h).holdsQueue
  · exact .refl s

/-- An event that a command brings where its guard holds, after the input that it accepts. -/
theorem State.holdsQueue.accepted {s t : State} {r : Role} {f : State → State} (hs : t.start = s.start)
    (hq : t.air.rxq = s.air.rxq) (hb : t.book = s.book) (hev : t.worksAs r = true → t.Deed (f t)) :
    s.holdsQueue (if s.worksAs r then t.event f else s) := by
  split
  next h =>
    exact (State.holdsQueue.of_start hs hq (by simp [State.busy, hb])).trans
      (hev (State.worksAs_of_start h hs)).holdsQueue
  · exact .refl s

theorem State.holdsQueue.guarded {s t : State} {c : Bool} (hin : s.holdsQueue t) : s.holdsQueue (if c then t else s) := by
  split
  · exact hin
  · exact .refl s

theorem State.readEnd_holdsQueue (s : State) (img : List Byte) : s.holdsQueue (s.readEnd img) := by
  by_cases hload : s.start.state = .load
  · have hkeep : (s.readEnd img).air.rxq = s.air.rxq ∧ (s.readEnd img).start.role = s.start.role ∧
        (s.readEnd img).book = s.book := by
      cases hr : s.start.role <;>
        simp [State.readEnd, State.check, State.passCheck, State.adjust, State.setLanes, State.failWith, State.openPort, hr,
          apply_ite State.air, apply_ite Air.rxq, apply_ite State.start, apply_ite StartUnit.role, apply_ite State.book]
    exact ⟨hkeep.1, hkeep.2.1, by simp [hload], by simp [State.busy, hkeep.2.2]⟩
  · rw [State.readEnd_of_not_load img hload]; exact .refl s

/-- The commands that may deal with the receive queue: a complete frame, and the end of a book operation (R175). -/
def dealsWithQueue : Instr → Bool
  | .unit .. | .runNotice .. | .manifestPart .. | .claimset .. | .arrive .. | .depart .. | .receipt .. | .query ..
  | .frameComplete .. | .bookOperationCompletion => true
  | _ => false

theorem exec_holdsQueue {c : Instr} {s t : State} (hc : c.isStart = false) (hd : dealsWithQueue c = false)
    (h : exec c s = .next t) : s.holdsQueue t := by
  have input : ∀ {u : State}, u.start = s.start → u.air.rxq = s.air.rxq → u.book = s.book → s.holdsQueue u :=
    fun hs hq hb => .of_start hs hq (by simp [State.busy, hb])
  cases c <;> cases h <;> cases hc <;> cases hd
  case resetnLow => exact ⟨rfl, rfl, id, id⟩
  case profileReadEnd => exact s.readEnd_holdsQueue _
  case listenPeriodEnd => exact .event .listenEnds
  case taktEdge => exact .accepted rfl rfl rfl .edge
  case keepaliveTimerExpiry => exact .event .keepalive
  case silenceTimerExpiry => exact .event .silence
  case feedEvent | emptyEvent | reserveEvent | sensorFallingChange => exact .accepted rfl rfl rfl (.change · ..)
  case runAgeingExpiry => exact .event (.ageRun · _)
  case manifestWaitExpiry => exact .event (.waitExpiry · _)
  case peerEntryAgeingExpiry => exact .event (.ageEntry · ..)
  case refreshTimerExpiry => exact .event .bookRefresh
  case receiptTimerExpiry => exact .event (.receiptExpiry · _)
  case loadPress => exact .accepted rfl rfl rfl .pressLoad
  case goPress => exact .accepted rfl rfl rfl .pressGo
  case holdPress => exact .accepted rfl rfl rfl .pressHold
  case arrivalStrobe => exact .accepted rfl rfl rfl .strobe
  case trainRefreshExpiry => exact .event .refresh
  case ack => exact .accepted rfl rfl rfl .ack
  case presenceRise | presenceFall =>
    exact .accepted (by simp) (by simp) (by simp) (.presence · ..)
  case lampFrame => exact input (by simp) (by simp) (by simp)
  case displayFrame => exact input (by simp) (by simp) (by simp)
  case lengthAbandon => exact .guarded ⟨rfl, rfl, id, id⟩
  case byteGapTimeout | lowStopBit =>
    refine .guarded (input ?_ ?_ ?_) <;> unfold State.abandonBroken <;> split <;> rfl
  case carrierRise | carrierFall => exact ⟨rfl, rfl, id, id⟩
  case sendStart =>
    refine .guarded (input ?_ ?_ ?_) <;> simp [State.beginSend] <;> split <;> simp [State.drawHead, State.abandonBroken] <;>
      (repeat' split) <;> rfl
  case sendEnd => exact .guarded ⟨rfl, rfl, id, id⟩
  case timerUnit =>
    exact ⟨by simp, s.timerUnit_start.2.1, by rw [s.timerUnit_start.1]; exact id, by simp [State.busy]⟩
  case syncByte => exact .guarded ⟨rfl, rfl, id, id⟩
  case inputSample => exact s.samplePins_holdsQueue _

/-! ## The receive queue dealt with -/

/-- Whatever stood in the queue, what is left of it once it has been dealt with waits for a busy book. -/
theorem State.drain_receiveInv {s : State} (h : s.portWorks = true) {fs : List RxFrame} (hlen : fs.length ≤ 8) :
    (s.drain fs).ReceiveInv := by
  induction fs generalizing s with
  | nil => simp [State.drain, State.ReceiveInv]
  | cons f fs ih =>
    have hlen' : fs.length ≤ 8 := by simp only [List.length_cons] at hlen; omega
    rw [State.drain]
    split
    next hwait =>
      split
      next hbusy =>
        refine ⟨hlen, fun _ => ⟨?_, hbusy, f, fs, rfl, hwait⟩⟩
        exact (State.working_iff.mp (State.working_of_portWorks h ((s.waitsForBook_iff f).mp hwait).2.2)).2
      · exact ih (State.portWorks_of_start h (by simp)) hlen'
    · exact ih (State.portWorks_of_start h (by simp)) hlen'

/-- A frame joins the receive queue when it comes from another station, is of one of the nine kinds, has its shape and
finds room (R171). -/
theorem State.fate_joins_iff (s : State) (code src : Byte) (p : List Byte) (k : FrameKind) :
    s.fate code src p = .joins k ↔
      src ≠ s.ownByte ∧ ¬(src = 0 ∨ 128 ≤ src.toNat ∨ (src.toNat = 127 ∧ code ≠ FrameKind.query.code)) ∧
        kindOfCode code = some k ∧ shapeFits k p = true ∧ s.air.rxq.length < 8 := by
  unfold State.fate
  split
  next h => simp [h]
  next h =>
    split
    next h' => exact iff_of_false (by simp) fun hc => hc.2.1 h'
    next h' =>
      rw [and_iff_right h, and_iff_right h']
      rcases kindOfCode code with _ | j
      · simp
      · dsimp only
        split
        next hs => exact iff_of_false (by simp) fun hc => by cases hc.1; simp [hc.2.1] at hs
        next hs =>
          split
          next hl => exact iff_of_false (by simp) fun hc => absurd hc.2.2 (Nat.not_lt.mpr hl)
          next hl =>
            constructor
            · rintro ⟨⟩; exact ⟨rfl, by simpa using hs, Nat.not_le.mp hl⟩
            · rintro ⟨⟨⟩, -, -⟩; rfl

theorem State.acceptFrame_receiveInv {s : State} (h : s.ReceiveInv) (hport : s.portWorks = true) (code src : Byte)
    (p : List Byte) : (s.acceptFrame code src p).ReceiveInv := by
  unfold State.acceptFrame
  split
  case h_6 k hk =>
    refine State.drain_receiveInv hport ?_
    obtain ⟨-, -, -, -, hlen⟩ := (s.fate_joins_iff code src p k).mp hk
    simp only [List.length_append, List.length_singleton]
    omega
  all_goals exact h

theorem State.completeOp_receiveInv {s : State} (h : s.ReceiveInv) (hw : s.working = true) : s.completeOp.ReceiveInv := by
  unfold State.completeOp
  split
  · exact State.drain_receiveInv (State.portWorks_of_start (State.portWorks_of_working hw) (by simp)) h.1
  · exact h

theorem State.testFrame_receiveInv {s : State} (h : s.ReceiveInv) (hport : s.portWorks = true) (len : Byte)
    (body check : List Byte) : (s.testFrame len body check).ReceiveInv := by
  unfold State.testFrame
  split
  · split
    · exact State.acceptFrame_receiveInv h hport ..
    · exact h
  · exact h

theorem State.arrives_receiveInv {s : State} (h : s.ReceiveInv) (k : FrameKind) (src : Byte) (p : List Byte) :
    (s.arrives k src p).ReceiveInv := by
  unfold State.arrives
  split
  next hr => exact State.acceptFrame_receiveInv (by exact h) (by exact State.portWorks_of_receiving hr) ..
  · exact h

theorem State.frameComplete_receiveInv {s : State} (h : s.ReceiveInv) (bytes : List Byte) :
    (s.frameComplete bytes).ReceiveInv := by
  unfold State.frameComplete
  split
  next hr =>
    have hport : s.portWorks = true := State.portWorks_of_receiving (Bool.and_eq_true_iff.mp hr).1
    split
    · exact h
    · split
      · exact h
      · split
        · exact State.testFrame_receiveInv (by exact h) (by exact hport) ..
        · exact h
  · exact h

theorem exec_receiveInv_of_deals {c : Instr} {s t : State} (h : s.ReceiveInv) (hd : dealsWithQueue c = true)
    (he : exec c s = .next t) : t.ReceiveInv := by
  cases c <;> cases hd <;> cases he
  case frameComplete => exact State.frameComplete_receiveInv h _
  case bookOperationCompletion =>
    split
    next hw => exact State.completeOp_receiveInv h hw
    · exact h
  all_goals exact State.arrives_receiveInv h ..

theorem exec_receiveInv {c : Instr} {s t : State} (h : s.ReceiveInv) (he : exec c s = .next t) : t.ReceiveInv := by
  rcases hc : c.isStart with _ | _
  · rcases hd : dealsWithQueue c with _ | _
    · exact h.of_holdsQueue (exec_holdsQueue hc hd he)
    · exact exec_receiveInv_of_deals h hd he
  · cases c <;> cases hc <;> cases he <;>
      simp [State.ReceiveInv, State.powerOn, State.resetByPin, State.restart, Air.fresh]

/-- Settles O56: a command that deals with no frame holds the queue, and the others leave of it what waits. -/
theorem receiveQueueWaitsForBook : Obligations.ReceiveQueueWaitsForBook := by
  intro s t h hstep
  unfold step at hstep
  split at hstep
  · cases hstep
    refine h.of_holdsQueue (.of_start ?_ ?_ ?_) <;> unfold State.byteTime <;> (repeat' split) <;> simp [State.busy]
  next c rest hq => exact exec_receiveInv (s := { s with pending := rest }) h hstep

end Sys2Proof.Machine
end

section
/-! PROOFS. AT-RISK follows the lane and its run (R149), and the stock of a present lane stays within its bins (R21). -/

namespace Sys2Proof.Machine

/-! ## What AT-RISK reads -/

theorem State.riskOf_congr {s t : State} {l : LaneIx} (hn : t.line.n = s.line.n) (hruns : t.runs = s.runs)
    (hl : (t.lane l).present = (s.lane l).present ∧ (t.lane l).call = (s.lane l).call ∧
      (t.lane l).forecast = (s.lane l).forecast ∧ (t.lane l).cfg = (s.lane l).cfg ∧
      (t.lane l).late = (s.lane l).late ∧ (t.lane l).onRun = (s.lane l).onRun) : t.riskOf l = s.riskOf l := by
  obtain ⟨h1, h2, h3, h4, h5, h6⟩ := hl
  have hrec : t.runRec = s.runRec := by funext id; simp [State.runRec, hruns]
  simp only [State.riskOf, h1, h2, h3, h4, h5, h6, hn, hrec]

theorem State.riskOf_of_quiet {s : State} {l : LaneIx} (h : (s.lane l).call = .quiet) : s.riskOf l = false := by
  simp [State.riskOf, h]

/-- AT-RISK derived again is the flag of the state it leaves. -/
theorem State.refreshRisk_atRisk (s : State) (l : LaneIx) : (s.refreshRisk.lane l).atRisk = s.refreshRisk.riskOf l := by
  have h : s.refreshRisk.riskOf l = s.riskOf l :=
    State.riskOf_congr rfl rfl (by simp [State.refreshRisk])
  rw [h, State.refreshRisk, State.lane_mapLanes]

/-- The three cases of R149. -/
theorem State.riskOf_iff (s : State) (l : LaneIx) :
    s.riskOf l = true ↔ (s.lane l).present = true ∧
      (((s.lane l).call = .calling ∧
          ∃ f, (s.lane l).forecast = some f ∧ offset s.line.n f.rref ≤ (s.lane l).cfg.safety) ∨
        (((s.lane l).call = .waiting ∨ (s.lane l).call = .admitted) ∧ (s.lane l).late = true) ∨
        (((s.lane l).call = .manifested ∨ (s.lane l).call = .due) ∧ ∃ f id run e, (s.lane l).forecast = some f ∧
          (s.lane l).onRun = some id ∧ s.runRec id = some run ∧ run.stopOf (bankOf l) = some e ∧ e.served = false ∧
          after e.eta f.rref = true)) := by
  unfold State.riskOf
  dsimp only
  rw [Bool.and_eq_true]
  refine and_congr_right fun _ => ?_
  cases (s.lane l).call
  case quiet => simp
  case calling => rcases (s.lane l).forecast with _ | f <;> simp
  case waiting | admitted => simp
  case manifested | due =>
    rcases (s.lane l).forecast with _ | f
    · simp
    · rcases (s.lane l).onRun with _ | id
      · simp
      · rcases hr : s.runRec id with _ | run
        · simp [hr]
        · rcases he : run.stopOf (bankOf l) with _ | e <;> simp [hr, he]

/-! ## The invariant of AT-RISK -/

theorem State.RiskInv.of_lanes {s t : State} (h : s.RiskInv) (hlanes : t.lanes = s.lanes) (hline : t.line = s.line)
    (hruns : t.runs = s.runs) (hstate : t.start.state = s.start.state) : t.RiskInv := by
  have hlane : ∀ l, t.lane l = s.lane l := State.lane_congr hlanes
  refine ⟨fun l => ?_, by rw [hstate]; simpa only [hlane] using h.2⟩
  rw [hlane, h.1 l, State.riskOf_congr (by rw [hline]) hruns (by simp [hlane])]

theorem State.riskInv_of_refreshRisk {s : State} (h : s.start.state ≠ .load) : s.refreshRisk.RiskInv :=
  ⟨s.refreshRisk_atRisk, fun hc => absurd hc (by simpa [State.refreshRisk] using h)⟩

theorem State.not_load_of_portWorks {s : State} (h : s.portWorks = true) : s.start.state ≠ .load := fun hc => by
  simp [State.portWorks, portWorksIn, hc] at h

/-- Only a working port lets the blocks of a station do anything. -/
theorem State.Deed.portWorks {s t : State} (hd : s.Deed t) : s.portWorks = true := by
  cases hd
  case listenEnds | silence | unit | ageEntry => exact State.portWorks_of_working (by assumption)
  case claimset h _ _ _ => exact State.portWorks_of_working (h.elim State.working_of_worksAs State.working_of_worksAs)
  case query | pass => assumption
  all_goals exact State.portWorks_of_working (State.working_of_worksAs (by assumption))

/-- The start-up unit stands in a deed, but for the end of the listen period. -/
theorem State.Deed.start {s t : State} (hd : s.Deed t) :
    t.start = s.start ∨ t.start = { s.start with state := .active, listenEnd := none } := by
  cases hd
  case listenEnds => exact s.listenEnds_start
  all_goals exact .inl (by simp)

theorem State.Deed.not_load {s t : State} (hd : s.Deed t) : t.start.state ≠ .load := by
  rcases hd.start with hs | hs <;> rw [hs]
  · exact State.not_load_of_portWorks hd.portWorks
  · simp

theorem State.startIfMarked_lane (s : State) (l : LaneIx) :
    s.startIfMarked.lane l = s.lane l ∨ s.startIfMarked.lane l = { s.lane l with moved := false } := by
  unfold State.startIfMarked
  split
  · exact .inr (State.startOp_lane ..)
  · exact .inl rfl

theorem State.startIfMarked_riskInv {s : State} (h : s.RiskInv) : s.startIfMarked.RiskInv := by
  have hkeep : ∀ l, (s.startIfMarked.lane l).atRisk = (s.lane l).atRisk ∧
      (s.startIfMarked.lane l).present = (s.lane l).present ∧ (s.startIfMarked.lane l).call = (s.lane l).call ∧
      (s.startIfMarked.lane l).forecast = (s.lane l).forecast ∧ (s.startIfMarked.lane l).cfg = (s.lane l).cfg ∧
      (s.startIfMarked.lane l).late = (s.lane l).late ∧ (s.startIfMarked.lane l).onRun = (s.lane l).onRun := fun l => by
    rcases s.startIfMarked_lane l with hl | hl <;> simp [hl]
  refine ⟨fun l => ?_, fun hc l => ?_⟩
  · rw [(hkeep l).1, h.1 l, State.riskOf_congr (by simp) (by simp) (hkeep l).2]
  · rw [(hkeep l).2.2.1]; exact h.2 (by simpa using hc) l

theorem State.sensor_riskInv {s : State} (h : s.RiskInv) (l : LaneIx) (k : Sensor) (x : SensorIn) :
    (s.modLane l fun r => r.setSensor k x).RiskInv := by
  have hkeep : ∀ r : LaneRec, (r.setSensor k x).atRisk = r.atRisk ∧ (r.setSensor k x).present = r.present ∧
      (r.setSensor k x).call = r.call ∧ (r.setSensor k x).forecast = r.forecast ∧ (r.setSensor k x).cfg = r.cfg ∧
      (r.setSensor k x).late = r.late ∧ (r.setSensor k x).onRun = r.onRun := fun r => by
    cases k <;> simp [LaneRec.setSensor]
  have hlane : ∀ m, (s.modLane l fun r => r.setSensor k x).lane m =
      if m = l then (s.lane m).setSensor k x else s.lane m := fun m => by
    rw [State.lane_modLane]; split
    next hm => rw [hm]
    · rfl
  refine ⟨fun m => ?_, fun hc m => ?_⟩
  · have hm : ((s.modLane l fun r => r.setSensor k x).lane m).atRisk = (s.lane m).atRisk := by
      rw [hlane]; split <;> simp [hkeep]
    have hrisk : (s.modLane l fun r => r.setSensor k x).riskOf m = s.riskOf m :=
      State.riskOf_congr (by simp) (by simp) (by rw [hlane]; split <;> simp [hkeep])
    rw [hm, h.1 m, hrisk]
  · have hm : ((s.modLane l fun r => r.setSensor k x).lane m).call = (s.lane m).call := by
      rw [hlane]; split <;> simp [hkeep]
    rw [hm]; exact h.2 hc m

/-! ## The end of reading, lane by lane (R38 to R40, R193) -/

/-- What reading a profile can make of a lane record: it stands, is stocked, clamped, or cleared for another role. -/
inductive LaneRec.Reread (r : LaneRec) (cfg : LaneCfg) (present : Bool) : LaneRec → Prop
  | same : r.Reread cfg present r
  | unread (h : present = false) : r.Reread cfg present { r with cfg, present }
  | stocked : r.Reread cfg present (LaneRec.stocked { r with cfg, present })
  | clamped : r.Reread cfg present (LaneRec.clampedStock { r with cfg, present })
  | retired : r.Reread cfg present r.retired

theorem LaneRec.stocked_rest (r : LaneRec) :
    r.stocked = { r with b := r.stocked.b, s := r.stocked.s, uncounted := true, starved := false } := by
  unfold LaneRec.stocked; split <;> rfl

theorem State.readEnd_lane (s : State) (img : List Byte) (l : LaneIx) :
    ∃ p, (s.lane l).Reread (laneCfg p img l) (willBePresent p img l) ((s.readEnd img).lane l) := by
  have hfail : ∀ (t : State) (c : FaultCause), t.lanes = s.lanes →
      ∃ p, (s.lane l).Reread (laneCfg p img l) (willBePresent p img l) ((t.failWith c).lane l) := fun t c ht => by
    have hl : (t.failWith c).lane l = s.lane l := State.lane_congr (by simp [ht]) l
    rw [hl]; exact ⟨.blank, .same⟩
  have hset : ∀ p, (s.lane l).Reread (laneCfg p img l) (willBePresent p img l) ((s.setLanes p img).lane l) := fun p => by
    unfold State.setLanes
    rw [State.lane_mapLanes]
    dsimp only
    split
    · exact .stocked
    · unfold LaneRec.adjusted
      split
      · split
        · exact .clamped
        · exact .stocked
      next hp =>
        split
        · exact .stocked
        · exact .unread (by simpa using hp)
  have hadjust : ∀ p, (s.lane l).Reread (laneCfg p img l) (willBePresent p img l) ((s.adjust p img).lane l) := fun p => by
    have hretired : ∀ t : State, t.lanes = (s.mapLanes fun _ r => r.retired).lanes →
        (s.lane l).Reread (laneCfg p img l) (willBePresent p img l) (t.lane l) := fun t ht => by
      rw [State.lane_congr ht, State.lane_mapLanes]; exact .retired
    unfold State.adjust
    split
    · exact hset p
    · exact hretired _ (by simp [State.retireLanes])
    · exact hretired _ (by simp [State.retireLanes])
    · exact .same
  unfold State.readEnd
  split
  · exact ⟨.blank, .same⟩
  · split
    · exact hfail _ _ (by simp)
    · unfold State.check
      split
      · exact hfail _ _ (by simp)
      · dsimp only
        split
        · exact hfail _ _ (by simp)
        · split
          · exact hfail _ _ (by simp)
          · exact ⟨_, hadjust _⟩

theorem LaneRec.Reread.call {r r' : LaneRec} {cfg : LaneCfg} {p : Bool} (h : r.Reread cfg p r') :
    r'.call = r.call ∧ r'.atRisk = r.atRisk := by
  cases h
  case stocked => rw [LaneRec.stocked_rest]; exact ⟨rfl, rfl⟩
  case retired => unfold LaneRec.retired; split <;> [rw [LaneRec.stocked_rest]; skip] <;> exact ⟨rfl, rfl⟩
  all_goals exact ⟨rfl, rfl⟩

theorem State.readEnd_riskInv {s : State} (h : s.RiskInv) (img : List Byte) : (s.readEnd img).RiskInv := by
  by_cases hload : s.start.state = .load
  · have hquiet : ∀ l, ((s.readEnd img).lane l).call = .quiet := fun l => by
      obtain ⟨p, hl⟩ := s.readEnd_lane img l
      rw [hl.call.1]; exact h.2 hload l
    refine ⟨fun l => ?_, fun _ => hquiet⟩
    obtain ⟨p, hl⟩ := s.readEnd_lane img l
    rw [hl.call.2, h.1 l, State.riskOf_of_quiet (hquiet l), State.riskOf_of_quiet (h.2 hload l)]
  · rwa [State.readEnd_of_not_load img hload]

/-- A start leaves every lane QUIET and not at risk. -/
theorem State.restart_riskInv (s : State) (cause : StartCause) (role : BitVec 2) (addr : BitVec 7) :
    (s.restart cause role addr).RiskInv := by
  have hlane : ∀ l, (s.restart cause role addr).lane l = (s.lane l).afterStart := fun l => by
    simp [State.restart, State.lane]
  have hquiet : ∀ l, ((s.restart cause role addr).lane l).call = .quiet := fun l => by rw [hlane]; rfl
  exact ⟨fun l => by rw [State.riskOf_of_quiet (hquiet l), hlane]; rfl, fun _ => hquiet⟩

/-- Settles O48: the cases of R149, and the invariant over the effects of a step. -/
theorem atRiskFollowsLaneAndRun : Obligations.AtRiskFollowsLaneAndRun := by
  refine ⟨State.riskOf_iff, step_keeps (fun _ _ h => h) (fun _ _ _ _ => State.restart_riskInv ..)
    (fun _ _ _ _ => State.restart_riskInv ..) fun s t h heff => ?_⟩
  cases heff
  case event u hd => exact State.riskInv_of_refreshRisk (by simpa using hd.not_load)
  case marked => exact State.startIfMarked_riskInv h
  case finish hw op hop => exact State.riskInv_of_refreshRisk (by simpa using State.not_load_of_working hw)
  case sensor => exact State.sensor_riskInv h ..
  case timer => exact h.of_lanes (by simp) (by simp) (by simp) s.timerUnit_start.1
  case resetLow => exact h.of_lanes rfl rfl rfl rfl
  case readEnd => exact State.readEnd_riskInv h _
  all_goals exact h.of_lanes (by simp) (by simp) (by simp) (by simp)

/-! ## Stock within bins -/

/-- The bins and parts of a present lane stay within its bins (R21). -/
def LaneRec.fits (r : LaneRec) : Prop := r.present = true → r.b ≤ r.cfg.binsMax ∧ r.s ≤ r.b * r.cfg.q

theorem LaneRec.fits_of_goods {r r' : LaneRec} (h : r.fits) (hg : r'.goods = r.goods) : r'.fits := by
  obtain ⟨hcfg, hpresent, hstock⟩ := LaneRec.of_goods hg
  have hb : r'.b = r.b := congrArg StockView.b hstock
  have hs : r'.s = r.s := congrArg StockView.s hstock
  unfold LaneRec.fits
  rwa [hcfg, hpresent, hb, hs]

theorem State.StockInv.of_goods {s t : State} (h : s.StockInv) (hg : s.keepsGoods t) : t.StockInv :=
  fun l => LaneRec.fits_of_goods (h l) (hg.lane l)

theorem State.StockInv.modLane {s : State} (h : s.StockInv) {l : LaneIx} {f : LaneRec → LaneRec}
    (hf : (f (s.lane l)).fits) : (s.modLane l f).StockInv := fun m => by
  rw [State.lane_modLane]; split
  · exact hf
  · exact h m

theorem LaneRec.fed_fits {r : LaneRec} (h : r.fits) : r.fed.fits := by
  unfold LaneRec.fed
  split
  next hb =>
    intro hp
    obtain ⟨-, hs⟩ := h hp
    refine ⟨hb, (Nat.min_le_left ..).trans ?_⟩
    rw [Nat.succ_mul]
    exact Nat.add_le_add_right hs _
  · exact h

theorem LaneRec.emptied_fits {r : LaneRec} (h : r.fits) : r.emptied.fits := fun hp => by
  obtain ⟨hb, -⟩ := h hp
  exact ⟨(Nat.sub_le ..).trans hb, le_rfl⟩

theorem LaneRec.reserved_fits {r : LaneRec} (h : r.fits) (h1 : 1 < r.b) : r.reserved.fits := fun hp => by
  obtain ⟨hb, -⟩ := h hp
  exact ⟨h1.le.trans hb, by simp [LaneRec.reserved]⟩

theorem LaneRec.consume_fits {r : LaneRec} (h : r.fits) (e : Option Variant) : (r.consume e).fits := by
  unfold LaneRec.consume
  dsimp only
  split
  · exact h
  · split
    · exact fun hp => ⟨(h hp).1, Nat.zero_le _⟩
    · exact fun hp => ⟨(h hp).1, (Nat.sub_le ..).trans (h hp).2⟩

/-- The leaving units are consumed one by one against each lane. -/
theorem State.consumeUnits_lane (s : State) (units : List (Option Variant)) (l : LaneIx) :
    (s.consumeUnits units).lane l = units.foldl (fun r e => r.consume e) (s.lane l) := by
  unfold State.consumeUnits
  induction units generalizing s with
  | nil => rfl
  | cons e es ih => rw [List.foldl_cons, ih, State.lane_mapLanes, List.foldl_cons]

theorem State.consumeUnits_stockInv {s : State} (h : s.StockInv) (units : List (Option Variant)) :
    (s.consumeUnits units).StockInv := fun l => by
  rw [State.consumeUnits_lane]
  have : ∀ r : LaneRec, r.fits → (units.foldl (fun r e => r.consume e) r).fits := fun r hr => by
    induction units generalizing r with
    | nil => exact hr
    | cons e es ih => exact ih _ (LaneRec.consume_fits hr e)
  exact this _ (h l)

theorem State.clearLatch_goods (s : State) (l : LaneIx) (k : Sensor) : s.keepsGoods (s.clearLatch l k) :=
  State.modLane_goods fun _ => LaneRec.setSensor_goods ..

theorem State.markOverfill_goods (s : State) (l : LaneIx) : s.keepsGoods (s.markOverfill l) := by
  unfold State.markOverfill
  split
  · exact .trans State.modLane_goods (State.restage_goods _ l)
  · exact .refl s

theorem State.takeFeed_stockInv {s : State} (h : s.StockInv) (l : LaneIx) : (s.takeFeed l).StockInv := by
  have hfed : (s.modLane l LaneRec.fed).StockInv := h.modLane (LaneRec.fed_fits (h l))
  unfold State.takeFeed
  dsimp only
  split
  · exact hfed.of_goods ((State.markOverfill_goods _ l).trans (State.countFeed_goods _ l))
  · exact hfed.of_goods ((State.forecastLane_goods _ l).trans (State.countFeed_goods _ l))

theorem State.takeEmpty_stockInv {s : State} (h : s.StockInv) (l : LaneIx) : (s.takeEmpty l).StockInv := by
  unfold State.takeEmpty
  split
  · exact h.modLane (f := fun r => { r with s := 0 }) fun hp => ⟨(h l hp).1, Nat.zero_le _⟩
  · exact (h.modLane (LaneRec.emptied_fits (h l))).of_goods (State.forecastLane_goods _ l)

theorem State.takeReserve_stockInv {s : State} (h : s.StockInv) (l : LaneIx) : (s.takeReserve l).StockInv := by
  unfold State.takeReserve
  split
  next hb => exact (h.modLane (LaneRec.reserved_fits (h l) hb)).of_goods (State.forecastLane_goods _ l)
  · exact h

theorem State.takeChange_stockInv {s : State} (h : s.StockInv) (l : LaneIx) (k : Sensor) (x : Bool) :
    (s.takeChange l k x).StockInv := by
  have hclear := h.of_goods (s.clearLatch_goods l k)
  unfold State.takeChange
  split
  · dsimp only
    split
    · cases k
      · exact State.takeFeed_stockInv hclear l
      · exact State.takeEmpty_stockInv hclear l
      · exact State.takeReserve_stockInv hclear l
    · exact hclear
  · exact h

theorem State.buildWindow_goods (s : State) (u : UnitNotice) : s.keepsGoods (s.buildWindow u) := by
  unfold State.buildWindow
  split
  · exact .trans (.of_lanes (by simp)) (State.forecastAll_goods _)
  · exact .refl s

theorem State.adopt_goods (s : State) (u : UnitNotice) : s.keepsGoods (s.adopt u) := by
  have hheard : s.keepsGoods (({ s with line.n := u.n } : State).hearPacer u) := .of_lanes rfl
  exact (hheard.trans (State.buildWindow_goods _ u)).trans (.of_lanes (by simp [State.adopt]))

theorem State.advanceWindow_stockInv {s : State} (h : s.StockInv) (u : UnitNotice) (d : Nat) :
    (s.advanceWindow u d).StockInv := by
  unfold State.advanceWindow
  split
  · exact (State.consumeUnits_stockInv (by exact h) _).of_goods (State.forecastAll_goods _)
  · exact h

theorem State.processUnit_stockInv {s : State} (h : s.StockInv) (src : Byte) (u : UnitNotice) :
    (s.processUnit src u).StockInv := by
  have hlanes : ∀ {t : State}, t.lanes = s.lanes → t.StockInv := fun ht => h.of_goods (.of_lanes ht)
  unfold State.processUnit
  dsimp only
  split
  · exact State.StockInv.of_goods (s := { s with line.followed := some src }) (hlanes (by simp)) (State.adopt_goods _ u)
  · unfold State.advanceTest
    dsimp only
    split
    · exact hlanes (by simp)
    · split
      · exact State.advanceWindow_stockInv (hlanes (by simp)) u _
      · exact State.StockInv.of_goods (hlanes (by simp)) (State.buildWindow_goods _ u)

theorem State.takeUnit_stockInv {s : State} (h : s.StockInv) (src : Byte) (p : List Byte) :
    (s.takeUnit src p).StockInv := by
  unfold State.takeUnit
  split
  · exact h
  · split
    · split
      · refine State.processUnit_stockInv (h.of_goods (.of_lanes ?_)) _ _
        simp
      · exact h.of_goods (.of_lanes (by simp))
    · split
      · refine State.processUnit_stockInv (h.of_goods (.of_lanes ?_)) _ _
        simp
      · exact h.of_goods (.of_lanes (by simp))

theorem State.presenceChange_goods (s : State) (k : Bank) (x : Bool) : s.keepsGoods (s.presenceChange k x) := by
  unfold State.presenceChange State.presenceUp State.presenceDown
  split <;> split
  · exact s.trigger_goods k
  · exact .refl s
  · exact s.closeFace_goods k
  · exact .refl s

theorem State.startOp_goods (s : State) (cs : Option ClaimSet) : s.keepsGoods (s.startOp cs) :=
  ⟨fun l => by rw [State.startOp_lane]; rfl⟩

theorem State.takeClaimset_goods (s : State) (src : Byte) (p : List Byte) : s.keepsGoods (s.takeClaimset src p) := by
  unfold State.takeClaimset
  split
  · exact s.startOp_goods _
  · exact .refl s

@[simp] theorem LaneRec.result_goods (r : LaneRec) (own : Option Entry) (cond : Bool) :
    (r.result own cond).goods = r.goods := by
  unfold LaneRec.result
  split
  · rfl
  · split <;> rfl

theorem State.finishOp_goods (s : State) (op : BookOp) : s.keepsGoods (s.finishOp op) := by
  unfold State.finishOp
  refine .trans ⟨fun l => ?_⟩ (.of_lanes (State.queueClaims_frame _ _).2.2.2.2.1)
  rw [State.lane_mapLanes, apply_ite LaneRec.goods, LaneRec.result_goods, ite_self]
  rfl

theorem State.refreshRisk_goods (s : State) : s.keepsGoods s.refreshRisk :=
  ⟨fun l => by rw [State.refreshRisk, State.lane_mapLanes]; rfl⟩

theorem State.Deed.stockInv {s t : State} (hd : s.Deed t) (h : s.StockInv) : t.StockInv := by
  cases hd
  case change => exact State.takeChange_stockInv h _ _ _
  case unit => exact State.takeUnit_stockInv h _ _
  case ageRun => exact h.of_goods (s.ageRun_goods _)
  case waitExpiry => exact h.of_goods (s.waitExpiry_goods _)
  case presence => exact h.of_goods (s.presenceChange_goods ..)
  case run => exact h.of_goods (s.takeRun_goods ..)
  case manifest => exact h.of_goods (s.takeManifest_goods ..)
  case claimset => exact h.of_goods (s.takeClaimset_goods ..)
  case arrive => exact h.of_goods (s.takeArrive_goods ..)
  case depart => exact h.of_goods (s.takeDepart_goods ..)
  all_goals exact h.of_goods (.of_lanes (by simp))

theorem clampTo_value_le {lo hi v : Nat} (h : lo ≤ hi) : lo ≤ (clampTo lo hi v).value ∧ (clampTo lo hi v).value ≤ hi := by
  simp only [clampTo]; omega

theorem laneCfg_startBins {p : Profile} {img : List Byte} {l : LaneIx} :
    (laneCfg p img l).startBins ≤ (laneCfg p img l).binsMax := by
  unfold laneCfg
  split
  · exact (clampTo_value_le (Nat.zero_le _)).2
  · exact le_rfl

theorem LaneRec.Reread.fits {r r' : LaneRec} {p : Profile} {img : List Byte} {l : LaneIx}
    (h : r.Reread (laneCfg p img l) (willBePresent p img l) r') (hr : r.fits) : r'.fits := by
  cases h
  case same => exact hr
  case unread hp => exact fun hc => by simp [hp] at hc
  case stocked =>
    intro hp
    have hp' : willBePresent p img l = true := by rwa [LaneRec.stocked_rest] at hp
    simp [LaneRec.stocked, hp', laneCfg_startBins]
  case clamped => exact fun _ => ⟨Nat.min_le_right .., Nat.min_le_right ..⟩
  case retired =>
    intro hp
    unfold LaneRec.retired at hp
    split at hp
    · rw [LaneRec.stocked_rest] at hp; cases hp
    next hc => exact absurd hp hc

/-- Settles O24, over the effects of a step. -/
theorem stockStaysWithinBins : Obligations.StockStaysWithinBins := by
  have hrestart : ∀ (s : State) cause role addr, s.StockInv → (s.restart cause role addr).StockInv :=
    fun s cause role addr h => h.of_goods ⟨fun l => by simp [State.restart, State.lane, LaneRec.afterStart, LaneRec.goods,
      LaneRec.stock]⟩
  refine step_keeps (fun _ _ h => h) (fun s role addr _ => hrestart _ _ _ _ fun l hp => ?_)
    (fun s role addr h => hrestart _ _ _ _ h) fun s t h heff => ?_
  · simp [State.clearRetained, State.lane, LaneRec.cleared] at hp
  cases heff
  case event u hd => exact (hd.stockInv h).of_goods u.endEvent_goods
  case marked =>
    refine h.of_goods ⟨fun l => ?_⟩
    rcases s.startIfMarked_lane l with hl | hl
    · rw [hl]
    · rw [hl]; rfl
  case finish op _ => exact h.of_goods ((s.finishOp_goods op).trans (State.refreshRisk_goods _))
  case sensor => exact h.of_goods (State.modLane_goods fun _ => LaneRec.setSensor_goods ..)
  case readEnd img =>
    intro l
    obtain ⟨p, hl⟩ := s.readEnd_lane img l
    exact hl.fits (h l)
  case resetLow => exact h
  all_goals exact h.of_goods (.of_lanes (by simp))

end Sys2Proof.Machine
end

section
/-! PROOFS. The transmit queue holds at most 8 frames of different keys, REPORT alone outside ACTIVE (R176, R177): how a
frame offered is placed, and what a block that only offers frames makes of the queue. -/

namespace Sys2Proof.Machine

/-! ## One frame offered -/

theorem replaceByKey_keys (f : TxFrame) (q : List TxFrame) : (replaceByKey f q).map TxFrame.key = q.map TxFrame.key := by
  unfold replaceByKey
  induction q with
  | nil => rfl
  | cons g gs ih =>
    rw [replaceFirst]
    split
    next h => simp [beq_iff_eq.mp h]
    · simp [ih]

theorem mem_replaceByKey_self {f : TxFrame} {q : List TxFrame} (h : ∃ g ∈ q, g.key = f.key) : f ∈ replaceByKey f q := by
  unfold replaceByKey
  induction q with
  | nil => simp at h
  | cons g gs ih =>
    rw [replaceFirst]
    split
    · simp
    next hg =>
      obtain ⟨x, hx, hk⟩ := h
      rcases List.mem_cons.mp hx with rfl | hx
      · exact absurd (beq_iff_eq.mpr hk) hg
      · exact List.mem_cons_of_mem _ (ih ⟨x, hx, hk⟩)

theorem mem_of_mem_replaceByKey {f x : TxFrame} {q : List TxFrame} (h : x ∈ replaceByKey f q) : x = f ∨ x ∈ q := by
  unfold replaceByKey at h
  induction q with
  | nil => simp [replaceFirst] at h
  | cons g gs ih =>
    rw [replaceFirst] at h
    split at h
    · rcases List.mem_cons.mp h with rfl | h
      · exact .inl rfl
      · exact .inr (by simp [h])
    · rcases List.mem_cons.mp h with rfl | h
      · exact .inr (by simp)
      · rcases ih h with h | h
        · exact .inl h
        · exact .inr (by simp [h])

/-- A waiting frame of another key keeps its place. -/
theorem mem_replaceByKey_of_ne {f x : TxFrame} {q : List TxFrame} (h : x ∈ q) (hk : x.key ≠ f.key) :
    x ∈ replaceByKey f q := by
  unfold replaceByKey
  induction q with
  | nil => simp at h
  | cons g gs ih =>
    rw [replaceFirst]
    rcases List.mem_cons.mp h with rfl | h
    · rw [if_neg (by simpa using hk)]; simp
    · split
      · simp [h]
      · simp [ih h]

/-- Where no two frames have one key, the frame of the key at a place is the one that gives up its place. -/
theorem replaceByKey_eq_set {f g : TxFrame} {q : List TxFrame} {i : Nat} (hq : (q.map TxFrame.key).Nodup)
    (hi : q[i]? = some g) (hk : g.key = f.key) : replaceByKey f q = q.set i f := by
  unfold replaceByKey
  induction q generalizing i with
  | nil => simp at hi
  | cons y ys ih =>
    rw [List.map_cons, List.nodup_cons] at hq
    rw [replaceFirst]
    split
    next hy =>
      cases i with
      | zero => rfl
      | succ j =>
        have hmem : g ∈ ys := List.mem_of_getElem? hi
        exact absurd (List.mem_map.mpr ⟨g, hmem, hk.trans (beq_iff_eq.mp hy).symm⟩) hq.1
    next hy =>
      cases i with
      | zero =>
        obtain rfl : y = g := by simpa using hi
        exact absurd (beq_iff_eq.mpr hk) hy
      | succ j => rw [ih hq.2 (by simpa using hi)]; rfl

/-- The transmit queue after a frame was placed (R177). -/
theorem State.place_txq (s : State) (f : TxFrame) :
    (s.place f).air.txq =
      if s.air.txq.any (fun g => g.key == f.key) then replaceByKey f s.air.txq
      else if s.air.txq.length < 8 then s.air.txq ++ [f] else s.air.txq := by
  unfold State.place
  split
  · rfl
  · split
    · dsimp only
      split
      · unfold State.drawHead; split <;> rfl
      · rfl
    · rfl

/-- What offering a frame can make of the transmit queue. -/
theorem State.offer_txq_cases (s : State) (f : TxFrame) :
    (s.offer f).air.txq = s.air.txq ∨
    s.accepts f.kind = true ∧ ((s.offer f).air.txq = replaceByKey f s.air.txq ∨
      (∀ g ∈ s.air.txq, g.key ≠ f.key) ∧ s.air.txq.length < 8 ∧ (s.offer f).air.txq = s.air.txq ++ [f]) := by
  unfold State.offer
  split
  next ha =>
    rw [State.place_txq]
    split
    · exact .inr ⟨ha, .inl rfl⟩
    next hk =>
      split
      next hl => exact .inr ⟨ha, .inr ⟨by simpa using hk, hl, rfl⟩⟩
      · exact .inl rfl
  · exact .inl rfl

/-- An accepted frame with room, or with its key waiting already, waits in the queue. -/
theorem State.mem_offer_self {s : State} {f : TxFrame} (ha : s.accepts f.kind = true)
    (h : s.air.txq.length < 8 ∨ ∃ g ∈ s.air.txq, g.key = f.key) : f ∈ (s.offer f).air.txq := by
  rw [State.offer, if_pos ha, State.place_txq]
  split
  next hk => exact mem_replaceByKey_self (by simpa using hk)
  next hk =>
    have hne : ∀ g ∈ s.air.txq, g.key ≠ f.key := by simpa using hk
    rcases h with h | ⟨g, hg, hgk⟩
    · rw [if_pos h]; simp
    · exact absurd hgk (hne g hg)

theorem State.mem_of_mem_offer {s : State} {f x : TxFrame} (h : x ∈ (s.offer f).air.txq) : x = f ∨ x ∈ s.air.txq := by
  rcases s.offer_txq_cases f with hq | ⟨-, hq | ⟨-, -, hq⟩⟩ <;> rw [hq] at h
  · exact .inr h
  · exact mem_of_mem_replaceByKey h
  · rcases List.mem_append.mp h with h | h
    · exact .inr h
    · exact .inl (List.mem_singleton.mp h)

/-- A waiting frame stays, or gives up its place to the frame offered, which has its key. -/
theorem State.mem_offer_of_mem {s : State} (f : TxFrame) {x : TxFrame} (h : x ∈ s.air.txq) :
    x ∈ (s.offer f).air.txq ∨ f.key = x.key ∧ f ∈ (s.offer f).air.txq := by
  rcases s.offer_txq_cases f with hq | ⟨-, hq | ⟨-, -, hq⟩⟩ <;> rw [hq]
  · exact .inl h
  · by_cases hk : x.key = f.key
    · exact .inr ⟨hk.symm, mem_replaceByKey_self ⟨x, h, hk⟩⟩
    · exact .inl (mem_replaceByKey_of_ne h hk)
  · exact .inl (by simp [h])

theorem State.offer_length_le (s : State) (f : TxFrame) : (s.offer f).air.txq.length ≤ s.air.txq.length + 1 := by
  rcases s.offer_txq_cases f with hq | ⟨-, hq | ⟨-, -, hq⟩⟩ <;> rw [hq]
  · omega
  · rw [← List.length_map (f := TxFrame.key), replaceByKey_keys, List.length_map]; omega
  · simp

/-! ## The invariant of the queue -/

theorem State.TransmitInv.of_queue {s t : State} (h : s.TransmitInv) (hq : t.air.txq = s.air.txq)
    (hs : t.start.state = s.start.state) : t.TransmitInv := by
  rw [State.TransmitInv, hq, hs]; exact h

theorem State.TransmitInv.sublist {s t : State} (h : s.TransmitInv) (hq : t.air.txq.Sublist s.air.txq)
    (hs : t.start.state = s.start.state) : t.TransmitInv := by
  obtain ⟨hlen, hkeys, hkinds⟩ := h
  exact ⟨hq.length_le.trans hlen, hkeys.sublist (hq.map _), fun ha f hf => hkinds (hs ▸ ha) f (hq.subset hf)⟩

/-- Outside ACTIVE the queue accepts a REPORT alone (R176). -/
theorem State.kind_of_accepts {s : State} {k : FrameKind} (h : s.accepts k = true) (ha : s.start.state ≠ .active) :
    k = .report := by
  cases k <;> simp [State.accepts, State.isActive, ha] at h ⊢

theorem State.TransmitInv.offer {s : State} (h : s.TransmitInv) (f : TxFrame) : (s.offer f).TransmitInv := by
  have hstart : (s.offer f).start.state = s.start.state := by simp
  obtain ⟨hlen, hkeys, hkinds⟩ := h
  have kinds : s.accepts f.kind = true → s.start.state ≠ .active → ∀ x, x = f ∨ x ∈ s.air.txq → x.kind = .report :=
    fun ha hst x hx => by
      rcases hx with rfl | hx
      · exact State.kind_of_accepts ha hst
      · exact hkinds hst x hx
  rcases s.offer_txq_cases f with hq | ⟨ha, hq | ⟨hne, hl, hq⟩⟩
  · exact State.TransmitInv.of_queue ⟨hlen, hkeys, hkinds⟩ hq hstart
  · refine ⟨?_, ?_, fun hst x hx => kinds ha (hstart ▸ hst) x (State.mem_of_mem_offer hx)⟩
    · rwa [hq, ← List.length_map (f := TxFrame.key), replaceByKey_keys, List.length_map]
    · rwa [hq, replaceByKey_keys]
  · refine ⟨?_, ?_, fun hst x hx => kinds ha (hstart ▸ hst) x (State.mem_of_mem_offer hx)⟩
    · rw [hq, List.length_append, List.length_singleton]; omega
    · rw [hq, List.map_append, List.nodup_append]
      refine ⟨hkeys, by simp, fun k hk k' hk' hkk => ?_⟩
      obtain ⟨g, hg, rfl⟩ := List.mem_map.mp hk
      rw [List.map_singleton, List.mem_singleton] at hk'
      exact hne g hg (hkk.trans hk')

/-! ## Blocks that only offer frames -/

/-- From one state to another at most this many frames, each of this sort, have been offered to the transmit queue, and the
queue and the start-up unit have not changed otherwise. -/
inductive State.Offers (P : TxFrame → Prop) (s : State) : Nat → State → Prop
  | refl : s.Offers P 0 s
  | keep {n m : Nat} {t u : State} (h : s.Offers P n t) (hq : u.air.txq = t.air.txq) (hs : u.start = t.start)
      (hn : n ≤ m) : s.Offers P m u
  | offer {n : Nat} {t : State} (h : s.Offers P n t) (f : TxFrame) (hf : P f) : s.Offers P (n + 1) (t.offer f)

variable {P Q : TxFrame → Prop} {s t u : State} {n m : Nat}

theorem State.Offers.none (hq : t.air.txq = s.air.txq) (hs : t.start = s.start) : s.Offers P n t :=
  State.Offers.refl.keep hq hs (Nat.zero_le n)

theorem State.Offers.one (f : TxFrame) (hf : P f) : s.Offers P 1 (s.offer f) := State.Offers.refl.offer f hf

theorem State.Offers.trans (h : s.Offers P n t) (h' : t.Offers P m u) : s.Offers P (n + m) u := by
  induction h' with
  | refl => exact h
  | keep _ hq hs hn ih => exact ih.keep hq hs (Nat.add_le_add_left hn n)
  | offer _ f hf ih => exact ih.offer f hf

theorem State.Offers.mono (h : s.Offers P n t) (hn : n ≤ m) : s.Offers P m t := h.keep rfl rfl hn

theorem State.Offers.weaken (h : s.Offers P n t) (hPQ : ∀ f, P f → Q f) : s.Offers Q n t := by
  induction h with
  | refl => exact .refl
  | keep _ hq hs hn ih => exact ih.keep hq hs hn
  | offer _ f hf ih => exact ih.offer f (hPQ f hf)

theorem State.Offers.start_eq (h : s.Offers P n t) : t.start = s.start := by
  induction h with
  | refl => rfl
  | keep _ _ hs _ ih => exact hs.trans ih
  | offer _ f _ ih => rw [← ih]; simp

theorem State.Offers.transmitInv (h : s.Offers P n t) (hs : s.TransmitInv) : t.TransmitInv := by
  induction h with
  | refl => exact hs
  | keep _ hq hs _ ih => exact ih.of_queue hq (by rw [hs])
  | offer _ f _ ih => exact ih.offer f

theorem State.Offers.length_le (h : s.Offers P n t) : t.air.txq.length ≤ s.air.txq.length + n := by
  induction h with
  | refl => exact le_rfl
  | keep _ hq _ hn ih => rw [hq]; omega
  | @offer n t _ f _ ih => have := t.offer_length_le f; omega

/-- Every frame of the queue waited already or is one of those offered. -/
theorem State.Offers.mem_or (h : s.Offers P n t) {x : TxFrame} (hx : x ∈ t.air.txq) : x ∈ s.air.txq ∨ P x := by
  induction h with
  | refl => exact .inl hx
  | keep _ hq _ _ ih => exact ih (hq ▸ hx)
  | offer _ f hf ih =>
    rcases State.mem_of_mem_offer hx with rfl | hx
    · exact .inr hf
    · exact ih hx

/-- A waiting frame stays, or one of those offered with its key has its place. -/
theorem State.Offers.mem_of_mem (h : s.Offers P n t) {x : TxFrame} (hx : x ∈ s.air.txq) :
    x ∈ t.air.txq ∨ ∃ f ∈ t.air.txq, P f ∧ f.key = x.key := by
  induction h with
  | refl => exact .inl hx
  | keep _ hq _ _ ih => rw [hq]; exact ih
  | offer _ g hg ih =>
    rcases ih with ih | ⟨f, hf, hPf, hk⟩
    · rcases State.mem_offer_of_mem g ih with h | ⟨hk, h⟩
      · exact .inl h
      · exact .inr ⟨g, h, hg, hk⟩
    · rcases State.mem_offer_of_mem g hf with h | ⟨hk', h⟩
      · exact .inr ⟨f, h, hPf, hk⟩
      · exact .inr ⟨g, h, hg, hk'.trans hk⟩

/-- A waiting frame stays where none of those offered has its key. -/
theorem State.Offers.mem_of_ne (h : s.Offers P n t) {x : TxFrame} (hx : x ∈ s.air.txq)
    (hk : ∀ f, P f → f.key ≠ x.key) : x ∈ t.air.txq := by
  rcases h.mem_of_mem hx with hx | ⟨f, -, hf, hfk⟩
  · exact hx
  · exact absurd hfk (hk f hf)

/-- Offers one after another. -/
theorem State.Offers.foldl {α : Type} {f : State → α → State} (hf : ∀ (s : State) a, s.Offers P 1 (f s a)) (xs : List α)
    (s : State) : s.Offers P xs.length (xs.foldl f s) := by
  induction xs generalizing s with
  | nil => exact .refl
  | cons x xs ih => rw [List.length_cons, Nat.add_comm]; exact (hf s x).trans (ih _)

end Sys2Proof.Machine
end

section
/-! PROOFS. What each block offers to the transmit queue, and how many frames (R122, R123, R137, R176, R177). -/

namespace Sys2Proof.Machine

/-- The frame is of this kind. -/
def ofKind (k : FrameKind) (f : TxFrame) : Prop := f.kind = k

/-- The frame is of one of these two kinds. -/
def ofKinds (j k : FrameKind) (f : TxFrame) : Prop := f.kind = j ∨ f.kind = k

/-! ## The run planner -/

theorem State.announce_offers (s : State) (r : Run) (closed : Bool) :
    s.Offers (fun f => f = s.runFrame r closed) 1 (s.announce r closed) := by
  unfold State.announce
  split
  · exact .one _ rfl
  · exact .none rfl rfl

theorem State.announce_offers_run (s : State) (r : Run) (closed : Bool) :
    s.Offers (ofKind .run) 1 (s.announce r closed) :=
  (s.announce_offers r closed).weaken fun f hf => by rw [hf]; rfl

theorem State.announceSlot_offers (s : State) (slot : Option Run) : s.Offers (ofKind .run) 1 (s.announceSlot slot) := by
  cases slot with
  | none => exact .none rfl rfl
  | some r => exact s.announce_offers_run r false

theorem State.announceAll_offers (s : State) : s.Offers (ofKind .run) 2 s.announceAll :=
  (s.announceSlot_offers _).trans (State.announceSlot_offers _ _)

theorem State.queueParts_offers (s : State) (r : Run) :
    s.Offers (ofKind .manifest) (partCount s.planner.manifest.length) (s.queueParts r) := by
  unfold State.queueParts
  split
  · have h := State.Offers.foldl (P := ofKind .manifest)
      (f := fun (t : State) i => t.offer (manifestFrame r.id s.planner.manifest i))
      (fun t i => .one _ (by rfl)) (List.range (partCount s.planner.manifest.length)) s
    rwa [List.length_range] at h
  · exact .none rfl rfl

theorem State.openRun_offers {P : TxFrame → Prop} (s : State) : s.Offers P 0 s.openRun := .none (by simp) (by simp)

theorem State.openAndAnnounce_offers (s : State) : s.Offers (ofKind .run) 2 s.openAndAnnounce := by
  unfold State.openAndAnnounce
  split
  · exact s.openRun_offers.trans (State.announceAll_offers _)
  · exact .none rfl rfl

theorem State.locked_offers {P : TxFrame → Prop} (s : State) (r : Run) : s.Offers P 0 (s.locked r).raiseLate :=
  .none (by simp [State.locked]) (by simp [State.locked])

/-- The DEPART of a run from a stop (R112). -/
def departFrame (r : Run) (stop : Nat) : TxFrame := ⟨.depart, writeDepart ⟨r.id, stop⟩⟩

/-- A run that has departed from its present stop, with its DEPART, before the RUN notices (R112, R115). -/
def State.departed (s : State) (r : Run) (stop : Nat) (next : RunState) : State :=
  { s.offer (departFrame r stop) with
    planner := { s.planner with current := some (s.departedRun r stop next), log := s.departLogs } }

theorem State.departPresent_eq {s : State} {r : Run} {next : RunState} {stop : Nat} (hp : r.present = some stop) :
    s.departPresent r next = (s.departed r stop next).announceAll := by
  simp [State.departPresent, hp, State.departed, State.departedRun, departFrame]

theorem State.departed_offers (s : State) (r : Run) (stop : Nat) (next : RunState) :
    s.Offers (fun f => f = departFrame r stop) 1 (s.departed r stop next) := by
  have h : s.Offers (fun f => f = departFrame r stop) 1 (s.offer (departFrame r stop)) := .one _ rfl
  exact h.keep rfl rfl le_rfl

theorem State.departPresent_offers (s : State) (r : Run) (next : RunState) :
    s.Offers (ofKinds .depart .run) 3 (s.departPresent r next) := by
  rcases hp : r.present with _ | stop
  · rw [State.departPresent_of_none s next hp]; exact .none rfl rfl
  · rw [State.departPresent_eq hp]
    exact ((s.departed_offers r stop next).weaken fun f hf => .inl (by rw [hf]; rfl)).trans
      ((State.announceAll_offers _).weaken fun f hf => .inr hf)

/-- The ARRIVE of a run at a stop (R108, R114). -/
def arriveFrame (r : Run) (stop : Nat) (kind : VisitKind) (revisit : Bool) : TxFrame :=
  ⟨.arrive, writeArrive ⟨r.id, stop, kind = .detour, revisit⟩⟩

/-- A run that has arrived at a stop, before its ARRIVE and the RUN notices (R108, R109, R114). -/
def State.arrived (s : State) (r : Run) (stop : Nat) (kind : VisitKind) (revisit : Bool) : State :=
  { s with planner.current := some { r with state := if kind = .detour then .detour else .atstop,
                                            present := some stop, revisit := revisit },
           planner.e := if kind = .detour then s.planner.e else max s.planner.e (s.travelTo stop),
           planner.log := s.logArrival r stop kind, panel.stopIx := 1 }

theorem State.arriveAt_eq (s : State) (r : Run) (stop : Nat) (kind : VisitKind) (revisit : Bool) :
    s.arriveAt r stop kind revisit =
      ((s.arrived r stop kind revisit).offer (arriveFrame r stop kind revisit)).announceAll := by
  simp [State.arriveAt, State.arrived, arriveFrame]

theorem State.arrived_offers (s : State) (r : Run) (stop : Nat) (kind : VisitKind) (revisit : Bool) :
    s.Offers (fun f => f = arriveFrame r stop kind revisit) 1
      ((s.arrived r stop kind revisit).offer (arriveFrame r stop kind revisit)) := by
  have h : s.Offers (fun f => f = arriveFrame r stop kind revisit) 0 (s.arrived r stop kind revisit) := .none rfl rfl
  exact h.offer _ rfl

theorem State.arriveAt_offers (s : State) (r : Run) (stop : Nat) (kind : VisitKind) (revisit : Bool) :
    s.Offers (ofKinds .arrive .run) 3 (s.arriveAt r stop kind revisit) := by
  rw [State.arriveAt_eq]
  exact ((s.arrived_offers r stop kind revisit).weaken fun f hf => .inl (by rw [hf]; rfl)).trans
    ((State.announceAll_offers _).weaken fun f hf => .inr hf)

theorem State.departSupermarket_offers (s : State) (r : Run) : s.Offers (ofKind .run) 2 (s.departSupermarket r) := by
  have h : s.Offers (ofKind .run) 0 (s.leaving r).openRun := .none (by simp [State.leaving]) (by simp [State.leaving])
  rw [State.departSupermarket_eq, ← Nat.zero_add 2]
  exact h.trans (State.announceAll_offers _)

theorem State.closed_offers (s : State) (r : Run) : s.Offers (ofKind .run) 1 (s.closed r) :=
  (s.announce_offers_run r true).keep rfl rfl le_rfl

theorem State.closeRun_offers (s : State) (r : Run) : s.Offers (ofKind .run) 3 (s.closeRun r) := by
  rw [State.closeRun_eq]
  exact (s.closed_offers r).trans ((State.openRun_offers _).trans (State.announceAll_offers _))

/-! ## The other blocks -/

theorem State.departStop_offers (s : State) (run : RunId) (stop : Nat) :
    s.Offers (ofKind .receipt) 1 (s.departStop run stop) := by
  unfold State.departStop
  dsimp only
  have h : s.Offers (ofKind .receipt) 0 ((s.banksAt stop).foldl (departBank run) (s, [])).1 := .none (by simp) (by simp)
  split
  · exact h.mono (Nat.zero_le 1)
  · exact h.offer _ rfl

theorem State.replaceRun_offers (s : State) (old : RunRec) (n : RunNotice) (st : RunState) :
    s.Offers (ofKind .receipt) (s.servedStops old (s.replaced old n st)).length (s.replaceRun old n st) := by
  have h : s.Offers (ofKind .receipt) 0 (s.renewed old n st) := by
    refine .none ?_ ?_ <;> simp only [State.renewed] <;> (repeat' split) <;> simp
  rw [State.replaceRun_eq, ← Nat.zero_add (List.length _)]
  exact h.trans (.foldl (fun t stop => t.departStop_offers n.id stop) _ _)

theorem State.queueUnit_offers (s : State) : s.Offers (ofKind .unit) 1 s.queueUnit := by
  have h : s.Offers (ofKind .unit) 0 { s with pacer.keepalive := some (s.deadline s.prof.tKeep) } := .none rfl rfl
  exact h.offer _ rfl

theorem State.takeQuery_offers (s : State) (src : Byte) (p : List Byte) :
    s.Offers (ofKind .report) 1 (s.takeQuery src p) := by
  unfold State.takeQuery
  split
  · split
    · have h (page : Byte) : s.Offers (ofKind .report) 1 (s.offer (s.report src page)) := .one _ rfl
      dsimp only
      split
      · exact (h _).keep rfl rfl le_rfl
      · exact h _
    · exact .none rfl rfl
  · exact .none rfl rfl

theorem State.queueClaims_offers (s : State) (refresh : Bool) : s.Offers (ofKind .claimset) 1 (s.queueClaims refresh) := by
  unfold State.queueClaims
  dsimp only
  split
  · have h : s.Offers (ofKind .claimset) 0 { s with book.lastSet := ownItems s.book.entries } := .none rfl rfl
    exact h.offer _ rfl
  · exact .none rfl rfl

theorem State.finishOp_offers (s : State) (op : BookOp) : s.Offers (ofKind .claimset) 1 (s.finishOp op) := by
  rw [← Nat.zero_add 1]
  exact (State.Offers.none (by simp) (by simp)).trans (State.queueClaims_offers _ op.refresh)

/-! ## The invariant, deed by deed -/

theorem State.openAndAnnounce_transmitInv {s : State} (h : s.TransmitInv) : s.openAndAnnounce.TransmitInv :=
  s.openAndAnnounce_offers.transmitInv h

theorem State.pressLoad_transmitInv {s : State} (h : s.TransmitInv) : s.pressLoad.TransmitInv := by
  unfold State.pressLoad
  split
  · split
    · rw [State.loadLock_eq]
      exact (State.announce_offers ..).transmitInv ((State.queueParts_offers ..).transmitInv
        ((s.locked_offers (P := fun _ => True) _).transmitInv h))
    · exact h.of_queue (by simp) (by simp)
  · exact h.of_queue (by simp) (by simp)

theorem State.pressGo_transmitInv {s : State} (h : s.TransmitInv) : s.pressGo.TransmitInv := by
  unfold State.pressGo
  split
  · split
    · exact (s.departSupermarket_offers _).transmitInv h
    · exact (s.departPresent_offers ..).transmitInv h
    · exact (s.departPresent_offers ..).transmitInv h
    · exact h.of_queue (by simp) (by simp)
  · exact h.of_queue (by simp) (by simp)

theorem State.pressHold_transmitInv {s : State} (h : s.TransmitInv) : s.pressHold.TransmitInv := by
  have hset : ∀ r, (s.setCurrent r).announceAll.TransmitInv := fun r =>
    (State.announceAll_offers _).transmitInv (h.of_queue rfl rfl)
  unfold State.pressHold
  split
  · split
    · exact hset _
    · exact hset _
    · exact h.of_queue (by simp) (by simp)
  · exact h.of_queue (by simp) (by simp)

theorem State.strobeEnroute_transmitInv {s : State} (h : s.TransmitInv) (r : Run) (stop : Nat) :
    (s.strobeEnroute r stop).TransmitInv := by
  unfold State.strobeEnroute
  split
  · exact (s.closeRun_offers r).transmitInv h
  · split
    · exact (s.arriveAt_offers ..).transmitInv h
    · split
      · exact (s.arriveAt_offers ..).transmitInv h
      · exact h.of_queue (by simp) (by simp)
    · exact h.of_queue (by simp) (by simp)

theorem State.strobeHeld_transmitInv {s : State} (h : s.TransmitInv) (r : Run) (stop : Nat) :
    (s.strobeHeld r stop).TransmitInv := by
  unfold State.strobeHeld
  split
  · exact (s.arriveAt_offers ..).transmitInv h
  · exact h.of_queue (by simp) (by simp)

theorem State.strobe_transmitInv {s : State} (h : s.TransmitInv) : s.strobe.TransmitInv := by
  have hafter : ∀ {t : State} (stop : Nat), t.TransmitInv → (t.strobeAfterDeparture stop).TransmitInv :=
    fun {t} stop ht => by
      unfold State.strobeAfterDeparture
      split
      · split
        · exact State.strobeEnroute_transmitInv ht ..
        · exact State.strobeHeld_transmitInv ht ..
        · exact ht
      · exact ht
  have hcode : s.stopCode.2.TransmitInv := h.of_queue (by simp) (by simp)
  unfold State.strobe State.takeStrobe
  split
  · split
    · exact hcode
    · exact hcode
    · exact State.strobeEnroute_transmitInv hcode ..
    · exact State.strobeHeld_transmitInv hcode ..
    · exact hafter _ ((State.departPresent_offers ..).transmitInv hcode)
    · exact hafter _ ((State.departPresent_offers ..).transmitInv hcode)
  · exact hcode

theorem State.plannerRefresh_transmitInv {s : State} (h : s.TransmitInv) : s.plannerRefresh.TransmitInv := by
  unfold State.plannerRefresh
  split
  · have hset : State.TransmitInv { s with planner.refresh := some (s.deadline s.prof.tRefresh) } := h.of_queue rfl rfl
    dsimp only
    refine (State.announceSlot_offers ..).transmitInv ?_
    split
    · exact (State.queueParts_offers ..).transmitInv ((State.announce_offers ..).transmitInv hset)
    · exact hset
  · exact h

theorem State.queueUnit_transmitInv {s : State} (h : s.TransmitInv) : s.queueUnit.TransmitInv :=
  s.queueUnit_offers.transmitInv h

theorem State.enterActive_transmitInv {s : State} (h : s.TransmitInv) : s.enterActive.TransmitInv :=
  State.queueUnit_transmitInv (h.of_queue rfl rfl)

theorem State.removeUnit_txq (s : State) : s.removeUnit.air.txq.Sublist s.air.txq := by
  unfold State.removeUnit
  split
  · exact .refl _
  next f rest hq =>
    dsimp only
    split
    · have hdraw : ∀ t : State, t.drawHead.air.txq = t.air.txq := fun t => by unfold State.drawHead; split <;> rfl
      rw [hdraw, hq]
      exact List.filter_sublist.trans (List.sublist_cons_self ..)
    · rw [hq]; exact List.filter_sublist.cons_cons f

theorem State.processUnit_transmitInv {s : State} (h : s.TransmitInv) (src : Byte) (u : UnitNotice) :
    (s.processUnit src u).TransmitInv := by
  unfold State.processUnit
  dsimp only
  split
  · exact State.openAndAnnounce_transmitInv (h.of_queue (by simp) (by simp))
  · exact h.of_queue (by simp) (by simp)

theorem State.takeUnit_transmitInv {s : State} (h : s.TransmitInv) (src : Byte) (p : List Byte) :
    (s.takeUnit src p).TransmitInv := by
  have hdown : ∀ u, (s.standDown.standBy u).TransmitInv := fun u =>
    h.sublist (by simpa [State.standDown] using State.removeUnit_txq { s with pacer.keepalive := none }) (by simp)
  unfold State.takeUnit
  split
  · exact h
  · split
    · split
      · exact State.processUnit_transmitInv (hdown _) ..
      · exact h.of_queue rfl rfl
    · split
      · exact State.processUnit_transmitInv (h.of_queue (by simp) (by simp)) ..
      · exact h.of_queue rfl rfl

theorem State.edge_transmitInv {s : State} (h : s.TransmitInv) : s.edge.TransmitInv := by
  have hcount : (s.edgeVariant.2.countEdge s.edgeVariant.1).TransmitInv := h.of_queue (by simp) (by simp)
  unfold State.edge
  dsimp only
  split
  · exact State.queueUnit_transmitInv (hcount.of_queue rfl rfl)
  · exact hcount

theorem State.silenceExpiry_transmitInv {s : State} (h : s.TransmitInv) : s.silenceExpiry.TransmitInv := by
  unfold State.silenceExpiry
  split
  · split
    · exact State.enterActive_transmitInv h
    · exact h.of_queue rfl rfl
  · exact h

theorem State.TransmitInv.activate {s t : State} (h : s.TransmitInv) (hq : t.air.txq = s.air.txq)
    (hs : t.start.state = .active) : t.TransmitInv := by
  obtain ⟨hlen, hkeys, -⟩ := h
  exact ⟨hq ▸ hlen, hq ▸ hkeys, fun hc => absurd hs hc⟩

theorem State.listenEnds_transmitInv {s : State} (h : s.TransmitInv) : s.listenEnds.TransmitInv := by
  unfold State.listenEnds
  split
  · have hactive : State.TransmitInv { s with start.state := .active, start.listenEnd := none } := h.activate rfl rfl
    unfold State.enterRole
    split
    · exact hactive.of_queue rfl rfl
    · exact State.openAndAnnounce_transmitInv (hactive.of_queue rfl rfl)
    · split
      · exact State.enterActive_transmitInv hactive
      · exact hactive
    · exact hactive
  · exact h

theorem State.takeRun_transmitInv {s : State} (h : s.TransmitInv) (src : Byte) (p : List Byte) :
    (s.takeRun src p).TransmitInv := by
  unfold State.takeRun
  split
  · exact h
  · split
    · exact h
    · split
      · split
        · exact h
        · split
          · exact h
          · exact h.of_queue (by simp) (by simp)
      · split
        · exact h.of_queue (by simp) (by simp)
        · split
          · exact h.of_queue (by simp) (by simp)
          · exact (s.replaceRun_offers ..).transmitInv h

theorem State.takeDepart_transmitInv {s : State} (h : s.TransmitInv) (src : Byte) (p : List Byte) :
    (s.takeDepart src p).TransmitInv := by
  unfold State.takeDepart
  split
  · split
    · exact (s.departStop_offers ..).transmitInv h
    · exact h
  · exact h

theorem State.Deed.transmitInv {s t : State} (hd : s.Deed t) (h : s.TransmitInv) : t.TransmitInv := by
  cases hd
  case listenEnds => exact State.listenEnds_transmitInv h
  case edge => exact State.edge_transmitInv h
  case keepalive =>
    unfold State.keepaliveExpiry
    split
    · exact State.queueUnit_transmitInv h
    · exact h
  case silence => exact State.silenceExpiry_transmitInv h
  case pressLoad => exact State.pressLoad_transmitInv h
  case pressGo => exact State.pressGo_transmitInv h
  case pressHold => exact State.pressHold_transmitInv h
  case strobe => exact State.strobe_transmitInv h
  case refresh => exact State.plannerRefresh_transmitInv h
  case unit => exact State.takeUnit_transmitInv h ..
  case run => exact State.takeRun_transmitInv h ..
  case depart => exact State.takeDepart_transmitInv h ..
  case query => exact (s.takeQuery_offers ..).transmitInv h
  all_goals exact h.of_queue (by simp) (by simp)

theorem State.readEnd_transmitInv {s : State} (h : s.TransmitInv) (img : List Byte) : (s.readEnd img).TransmitInv := by
  by_cases hload : s.start.state = .load
  · have hq : (s.readEnd img).air.txq = s.air.txq := by
      cases hr : s.start.role <;>
        simp [State.readEnd, State.check, State.passCheck, State.adjust, State.setLanes, State.failWith, State.openPort, hr,
          apply_ite State.air, apply_ite Air.txq]
    obtain ⟨hlen, hkeys, hkinds⟩ := h
    exact ⟨hq ▸ hlen, hq ▸ hkeys, fun _ f hf => hkinds (by simp [hload]) f (hq ▸ hf)⟩
  · rwa [State.readEnd_of_not_load img hload]

theorem transmitInv_keeps : ∀ s t : State, s.TransmitInv → step s = .next t → t.TransmitInv := by
  refine step_keeps (fun _ _ h => h)
    (fun _ _ _ _ => by simp [State.TransmitInv, State.powerOn, State.restart, Air.fresh])
    (fun _ _ _ _ => by simp [State.TransmitInv, State.resetByPin, State.restart, Air.fresh]) fun s t h heff => ?_
  cases heff
  case event u hd => exact (hd.transmitInv h).of_queue (by simp) (by simp)
  case finish op _ => exact ((s.finishOp_offers op).transmitInv h).of_queue (by simp) (by simp)
  case queue => exact h.of_queue rfl rfl
  case port a c _ _ hq =>
    rcases hq with ⟨hq, -⟩ | ⟨-, hq | hq⟩
    · exact h.of_queue hq rfl
    · exact h.of_queue hq rfl
    · exact h.sublist (t := { s with air := a, cnt := c }) (by rw [hq]; exact List.tail_sublist _) rfl
  case timer => exact h.of_queue (by simp) s.timerUnit_start.1
  case resetLow => exact h.of_queue rfl rfl
  case readEnd => exact State.readEnd_transmitInv h _
  all_goals exact h.of_queue (by simp) (by simp)

/-! ## The statement -/

theorem State.offer_of_waiting {s : State} {f g : TxFrame} {i : Nat} (ha : s.accepts f.kind = true)
    (hkeys : (s.air.txq.map TxFrame.key).Nodup) (hi : s.air.txq[i]? = some g) (hk : g.key = f.key) :
    s.offer f = { s with air.txq := s.air.txq.set i f } := by
  have hany : (s.air.txq.any fun g => g.key == f.key) = true :=
    List.any_eq_true.mpr ⟨g, List.mem_of_getElem? hi, beq_iff_eq.mpr hk⟩
  rw [State.offer, if_pos ha, State.place, if_pos hany, replaceByKey_eq_set hkeys hi hk]

theorem State.offer_of_new {s : State} {f : TxFrame} (ha : s.accepts f.kind = true)
    (hne : ∀ g ∈ s.air.txq, g.key ≠ f.key) :
    s.offer f =
      if s.air.txq.length < 8 then
        if s.air.txq.isEmpty then ({ s with air.txq := s.air.txq ++ [f] } : State).drawHead
        else { s with air.txq := s.air.txq ++ [f] }
      else { s with cnt.txdrop := bump16 s.cnt.txdrop } := by
  have hany : ¬(s.air.txq.any fun g => g.key == f.key) = true := by simpa using hne
  rw [State.offer, if_pos ha, State.place, if_neg hany]

/-- Settles O55: the invariant over the effects of a step, and the places a frame offered can take. -/
theorem transmitQueueStaysDistinct : Obligations.TransmitQueueStaysDistinct := by
  refine ⟨transmitInv_keeps, fun s f => ⟨fun ha => by simp [State.offer, ha], fun ha hkeys => ⟨fun i g hi hk =>
    State.offer_of_waiting ha hkeys hi hk, fun hne => ?_⟩⟩⟩
  rw [State.offer_of_new ha hne]
  refine ⟨fun hq => ?_, fun hq hl => ?_, fun hl => ?_⟩
  · simp [hq, State.drawHead]
  · simp [hq, hl]
  · simp [Nat.not_lt.mpr hl, bump16, sat16]

end Sys2Proof.Machine
end

section
/-! PROOFS. The starts and what stands between them (R172, R184, R185). -/

namespace Sys2Proof.Machine

/-! ## Between two starts -/

/-- What stands from one start to the next: the straps and the start cause, and a clash flag once set. -/
def State.sameStart (s t : State) : Prop :=
  t.start.role = s.start.role ∧ t.start.own = s.start.own ∧ t.start.cause = s.start.cause ∧
    (s.air.clash = true → t.air.clash = true)

theorem State.sameStart.refl (s : State) : s.sameStart s := ⟨rfl, rfl, rfl, id⟩

theorem State.sameStart.trans {s t u : State} (h : s.sameStart t) (h' : t.sameStart u) : s.sameStart u := by
  obtain ⟨hr, ho, hc, hx⟩ := h
  obtain ⟨hr', ho', hc', hx'⟩ := h'
  exact ⟨hr'.trans hr, ho'.trans ho, hc'.trans hc, hx' ∘ hx⟩

theorem State.sameStart.of_start {s t : State} (hs : t.start = s.start) (ha : t.air.clash = s.air.clash) :
    s.sameStart t := by
  simp [State.sameStart, hs, ha]

theorem State.Deed.clash {s t : State} (hd : s.Deed t) : t.air.clash = s.air.clash := by
  have h : t.air.sansQueue = s.air.sansQueue := by cases hd <;> simp
  obtain ⟨-, -, -, -, -, hclash⟩ := Air.of_sansQueue h
  exact hclash

theorem State.Deed.sameStart {s t : State} (hd : s.Deed t) : s.sameStart t := by
  rcases hd.start with h | h <;> simp [State.sameStart, h, hd.clash]

theorem State.readEnd_sameStart (s : State) (img : List Byte) : s.sameStart (s.readEnd img) := by
  cases hr : s.start.role <;>
    simp [State.sameStart, State.readEnd, State.check, State.passCheck, State.adjust, State.setLanes, State.failWith,
      State.openPort, hr, apply_ite State.start, apply_ite State.air, apply_ite StartUnit.role, apply_ite StartUnit.own,
      apply_ite StartUnit.cause, apply_ite Air.clash]

theorem State.Effect.sameStart {s t : State} (h : s.Effect t) : s.sameStart t := by
  cases h
  case event hd =>
    exact hd.sameStart.trans (.of_start (by simp) (by simp))
  case finish op _ =>
    have h : (s.finishOp op).refreshRisk.air.sansQueue = s.air.sansQueue := by simp
    obtain ⟨-, -, -, -, -, hclash⟩ := Air.of_sansQueue h
    exact .of_start (by simp) hclash
  case port a c _ hclash _ => exact ⟨rfl, rfl, rfl, hclash⟩
  case timer =>
    obtain ⟨-, hrole, hown, hcause, -⟩ := s.timerUnit_start
    exact ⟨hrole, hown, hcause, by simp⟩
  case resetLow => exact ⟨rfl, rfl, rfl, id⟩
  case readEnd img => exact s.readEnd_sameStart img
  all_goals exact .of_start (by simp) (by simp)

/-- Settles O4, over the effects of a command. -/
theorem strapsAndClashStandBetweenStarts : Obligations.StrapsAndClashStandBetweenStarts := by
  intro c s t hc h
  have chain {u : State} (heff : s.Effects u) : s.sameStart u := by
    induction heff with
    | refl => exact .refl s
    | tail _ hlast ih => exact ih.trans hlast.sameStart
  exact chain (exec_effects hc h)

/-! ## RESETn low -/

theorem State.not_portWorks_of_low {s : State} (h : s.start.resetLow = true) : s.portWorks = false := by
  simp [State.portWorks, h]

theorem State.not_working_of_low {s : State} (h : s.start.resetLow = true) : s.working = false := by
  simp [State.working, h]

/-- What a station with RESETn low keeps: everything but the receiver, the transmitter, CARRIER and the quiet time. -/
def State.held (s t : State) : Prop :=
  t.start = s.start ∧ t.lanes = s.lanes ∧ t.line = s.line ∧ t.pacer = s.pacer ∧ t.runs = s.runs ∧ t.book = s.book ∧
    t.planner = s.planner ∧ t.panel = s.panel ∧ t.bankA = s.bankA ∧ t.bankB = s.bankB ∧ t.cnt = s.cnt ∧
    t.air.txq = s.air.txq ∧ t.air.rxq = s.air.rxq

theorem State.held.refl (s : State) : s.held s := by simp [State.held]

theorem State.held.trans {s t u : State} (h : s.held t) (h' : t.held u) : s.held u := by
  simp only [State.held] at *; simp [h, h']

/-- With RESETn low no block of the station has an event to take: every guard is down. -/
theorem State.Effect.held_of_low {s t : State} (h : s.Effect t) (hlow : s.start.resetLow = true) : s.held t := by
  have hport : s.portWorks ≠ true := by simp [State.not_portWorks_of_low hlow]
  have hwork : s.working ≠ true := by simp [State.not_working_of_low hlow]
  have hrole : ∀ r, s.worksAs r ≠ true := fun r hr => hwork (State.working_of_worksAs hr)
  cases h
  case event hd => exact absurd hd.portWorks hport
  case marked hp | queue hp _ _ => exact absurd hp hport
  case finish hw _ _ => exact absurd hw hwork
  case sensor hr _ _ _ | presenceIn hr _ _ | lineIn hr _ _ _ | trainIn hr _ _ _ _ _ _ => exact absurd hr (hrole _)
  case port a c hrxq _ hq =>
    rcases hq with ⟨htxq, rfl⟩ | ⟨hp, -⟩
    · simp [State.held, hrxq, htxq]
    · exact absurd hp hport
  case lamps => simp [State.shiftLamps, hlow, State.held.refl]
  case display => simp [State.shiftDisplay, hlow, State.held.refl]
  case timer => simp [State.timerUnit, hlow, State.held.refl]
  case resetLow => simp [State.held, State.holdReset, ← hlow]
  case readEnd img => simp [State.readEnd, hlow, State.held.refl]

/-- Settles O7: with RESETn low no effect changes a block, and none raises RESETn. -/
theorem resetnLowHoldsStation : Obligations.ResetnLowHoldsStation := by
  refine ⟨fun _ => rfl, fun c s t hc hlow h => ?_⟩
  have chain {u : State} (heff : s.Effects u) : s.held u := by
    induction heff with
    | refl => exact .refl s
    | tail _ hlast ih => exact ih.trans (hlast.held_of_low (by rw [ih.1]; exact hlow))
  exact chain (exec_effects hc h)

/-! ## The values after a start -/

theorem strapsInvalid_eq (role : BitVec 2) (addr : BitVec 7) :
    strapsInvalid role addr = decide (role = 3 ∨ addr = 0 ∨ addr = 127) := by
  have h : (roleOf role == .unknown) = decide (role = 3) := by revert role; decide
  simp only [strapsInvalid, h, Bool.or_assoc, Bool.decide_or]
  rfl

theorem roleOf_eq (role : BitVec 2) :
    roleOf role = if role = 0 then .rack else if role = 1 then .train else if role = 2 then .pacer else .unknown := by
  revert role; decide

/-- The random register after a start: the sampled address times 257, which 16 bits hold (R182). -/
theorem startRandom_toNat (addr : BitVec 7) : (addr.setWidth 16 * 257).toNat = addr.toNat * 257 := by
  have h : addr.toNat < 128 := addr.isLt
  rw [BitVec.toNat_mul, BitVec.toNat_setWidth, Nat.mod_eq_of_lt (by omega : addr.toNat < 2 ^ 16)]
  exact Nat.mod_eq_of_lt (by simp; omega)

theorem LaneRec.afterStart_cleared : LaneRec.cleared.afterStart = LaneRec.cleared := rfl

theorem State.restart_lane (s : State) (cause : StartCause) (role : BitVec 2) (addr : BitVec 7) (l : LaneIx) :
    (s.restart cause role addr).lane l = (s.lane l).afterStart := by
  simp [State.lane, State.restart]

theorem State.powerOn_lane (s : State) (role : BitVec 2) (addr : BitVec 7) (l : LaneIx) :
    (s.powerOn role addr).lane l = .cleared := by
  rw [State.powerOn, State.restart_lane]
  have h : s.clearRetained.lane l = .cleared := s.lane_mapLanes (fun _ _ => .cleared) l
  rw [h, LaneRec.afterStart_cleared]

/-- Settles O5. -/
theorem powerOnStartValues : Obligations.PowerOnStartValues := by
  intro role addr s bad
  have hbad : strapsInvalid role addr = bad := strapsInvalid_eq role addr
  refine ⟨s.powerOn role addr, rfl, ?_⟩
  have hlane : ∀ l, (s.powerOn role addr).lane l = .cleared := s.powerOn_lane role addr
  have hclear : s.powerOn role addr = s.clearRetained.restart .powerOn role addr := rfl
  refine ⟨?_, ?_, rfl, rfl, rfl, rfl, rfl, rfl, roleOf_eq role, rfl, hlane, rfl, rfl, rfl, rfl, rfl, rfl, rfl, rfl, rfl, rfl,
    rfl, rfl, rfl, rfl, rfl, rfl, rfl, rfl, rfl, rfl, rfl, rfl, rfl, rfl, rfl, rfl, rfl, rfl, startRandom_toNat addr⟩
  · simp only [hclear, State.restart, hbad]
  · simp only [hclear, State.restart, hbad]

/-- Settles O6. -/
theorem pinResetKeepsRetainedArea : Obligations.PinResetKeepsRetainedArea := by
  intro role addr s bad off
  have hbad : strapsInvalid role addr = bad := strapsInvalid_eq role addr
  refine ⟨s.resetByPin role addr, rfl, ?_, rfl, rfl, rfl, fun l => ?_, rfl, rfl, rfl, rfl, rfl, rfl, rfl⟩
  · simp only [State.resetByPin, State.restart, hbad, roleOf_eq]
  · rw [State.resetByPin, State.restart_lane]
    exact ⟨rfl, rfl, rfl, rfl, rfl, rfl, rfl, rfl, rfl, rfl, rfl, rfl, rfl, rfl, rfl⟩

end Sys2Proof.Machine
end

section
/-! PROOFS. The profile image: where a start fails, and what one that passes CHECK leaves (R186 to R193, R195, R38 to
R40). -/

namespace Sys2Proof.Machine

/-! ## A start that fails (R186 to R189) -/

/-- In FAULT with a cause that leaves the port working, the quiet time starts. -/
theorem State.failWith_eq {s : State} {cause : FaultCause} (hlow : s.start.resetLow = false)
    (hc : cause = .noProfile ∨ cause = .badCheck ∨ cause = .roleMismatch) :
    s.failWith cause = ({ s with start.state := .fault, start.faultCause := cause } : State).openPort := by
  have hport : State.portWorks { s with start.state := .fault, start.faultCause := cause } = true := by
    rcases hc with rfl | rfl | rfl <;> simp [State.portWorks, portWorksIn, hlow]
  rw [State.failWith, if_pos hport]

/-- What a start that ends in FAULT leaves of the station it found. -/
def State.endsInFault (s t : State) (cause : FaultCause) : Prop :=
  t.start.state = .fault ∧ t.start.faultCause = cause ∧ t.lanes = s.lanes ∧ t.cnt = s.cnt ∧ t.pacer = s.pacer ∧
    t.planner = s.planner ∧ t.portWorks = true ∧ (t.start.faultCause ≠ .roleMismatch → t.gap = 4 ∧ t.divisor = 96)

theorem State.endsInFault_of_failWith {s u : State} {cause : FaultCause} (hlow : u.start.resetLow = false)
    (hc : cause = .noProfile ∨ cause = .badCheck ∨ cause = .roleMismatch)
    (hu : u.lanes = s.lanes ∧ u.cnt = s.cnt ∧ u.pacer = s.pacer ∧ u.planner = s.planner) :
    s.endsInFault (u.failWith cause) cause := by
  obtain ⟨hl, hcnt, hp, hpl⟩ := hu
  rw [State.failWith_eq hlow hc]
  refine ⟨rfl, rfl, hl, hcnt, hp, hpl, ?_, ?_⟩
  · rcases hc with rfl | rfl | rfl <;> simp [State.openPort, State.portWorks, portWorksIn, hlow]
  · rcases hc with rfl | rfl | rfl <;> simp [State.openPort, State.gap, State.divisor, State.onFallback]

/-- The cause of the first test that an image fails. -/
def State.failCause (s : State) (img : List Byte) : FaultCause :=
  if imgErased img then .noProfile
  else if !imgIntact img then .badCheck
  else if s.start.role.imageCode ≠ some (imgByte img 3) then .roleMismatch
  else .badCheck

theorem State.readEnd_of_load {s : State} (img : List Byte) (hst : s.start.state = .load)
    (hlow : s.start.resetLow = false) :
    s.readEnd img = if imgErased img then s.failWith .noProfile else s.check img := by
  simp [State.readEnd, hst, hlow]

theorem State.readEnd_fails {s : State} (img : List Byte) (hst : s.start.state = .load)
    (hlow : s.start.resetLow = false)
    (hbad : imgErased img = true ∨ imgIntact img = false ∨ s.start.role.imageCode ≠ some (imgByte img 3) ∨
      imgLenFits img s.start.role = false) : s.endsInFault (s.readEnd img) (s.failCause img) := by
  rw [State.readEnd_of_load img hst hlow, State.failCause]
  split
  · exact State.endsInFault_of_failWith hlow (.inl rfl) ⟨rfl, rfl, rfl, rfl⟩
  next he =>
    unfold State.check
    split
    · exact State.endsInFault_of_failWith hlow (.inr (.inl rfl)) ⟨rfl, rfl, rfl, rfl⟩
    next hi =>
      dsimp only
      split
      · exact State.endsInFault_of_failWith hlow (.inr (.inr rfl)) ⟨rfl, rfl, rfl, rfl⟩
      next hr =>
        have hlen : imgLenFits img s.start.role = false := by
          have hi' : imgIntact img = true := by simpa using hi
          have hr' := not_not.mp hr
          simpa [he, hi', hr'] using hbad
        rw [if_pos (by simp [hlen])]
        exact State.endsInFault_of_failWith hlow (.inr (.inl rfl)) ⟨rfl, rfl, rfl, rfl⟩

/-- Settles O8: the image fails the first of the tests that it does not meet. -/
theorem unusableProfileFaults : Obligations.UnusableProfileFaults := by
  intro img s hst hlow hbad
  exact ⟨_, rfl, State.readEnd_fails img hst hlow hbad⟩

/-! ## A field within its range (R188) -/

theorem clampTo_mem {lo hi : Nat} (h : lo ≤ hi) (v : Nat) : lo ≤ (clampTo lo hi v).value ∧ (clampTo lo hi v).value ≤ hi := by
  simp only [clampTo]; omega

theorem clampOr_mem {lo hi dflt : Nat} (h : lo ≤ dflt ∧ dflt ≤ hi) (v : Nat) :
    lo ≤ (clampOr lo hi dflt v).value ∧ (clampOr lo hi dflt v).value ≤ hi := by
  unfold clampOr
  split
  · exact h
  · exact clampTo_mem (h.1.trans h.2) v

/-- A common block within its ranges. -/
def Profile.commonFits (p : Profile) : Prop :=
  (1 ≤ p.d ∧ p.d ≤ 4095) ∧ (1 ≤ p.gap ∧ p.gap ≤ 15) ∧ (20 ≤ p.tRefresh ∧ p.tRefresh ≤ 100) ∧
    (30 ≤ p.tSilence ∧ p.tSilence ≤ 600)

theorem readCommon_fits (img : List Byte) : (readCommon img).1.commonFits :=
  ⟨clampTo_mem (by omega) _, clampTo_mem (by omega) _, clampOr_mem (by omega) _, clampOr_mem (by omega) _⟩

/-- The role block leaves the common block. -/
theorem readRoleBlock_common (role : Role) (p : Profile) (img : List Byte) (h : p.commonFits) :
    (readRoleBlock role p img).1.commonFits := by
  cases role <;> exact h

/-! ## The lane records (R190) -/

/-- The settings of a present lane within their ranges. -/
def LaneCfg.fits (c : LaneCfg) : Prop :=
  (1 ≤ c.q ∧ c.q ≤ 999) ∧ (1 ≤ c.binsMax ∧ c.binsMax ≤ 4) ∧ c.startBins ≤ c.binsMax ∧ c.cls ≤ 3 ∧
    (1 ≤ c.slot ∧ c.slot ≤ 4) ∧ (1 ≤ c.horizon ∧ c.horizon ≤ 255) ∧ c.safety ≤ 15 ∧ c.du ≤ 15 ∧
    c.usage.length = 64 ∧ ∀ u ∈ c.usage, u ≤ 15

theorem imgByte_lt (img : List Byte) (i : Nat) : imgByte img i < 256 := (img.getD i 0xFF).isLt

theorem readUsage_fits (img : List Byte) (at0 : Nat) :
    (readUsage img at0).length = 64 ∧ ∀ u ∈ readUsage img at0, u ≤ 15 := by
  refine ⟨by simp [readUsage, List.length_flatMap], fun u hu => ?_⟩
  obtain ⟨i, -, hi⟩ := List.mem_flatMap.mp hu
  have := imgByte_lt img (at0 + 9 + i)
  simp only [List.mem_cons, List.not_mem_nil, or_false] at hi
  omega

theorem readLane_fits {img : List Byte} {at0 : Nat} (hq : imgWord img at0 ≠ 0) : (readLane img at0).1.fits := by
  have hpos : 1 ≤ (clampTo 0 999 (imgWord img at0)).value := by simp only [clampTo]; omega
  have hbins : ∀ v, (clampTo 0 v (imgByte img (at0 + 3))).value ≤ v := fun v => (clampTo_mem (Nat.zero_le v) _).2
  exact ⟨⟨hpos, (clampTo_mem (by omega) _).2⟩, clampTo_mem (by omega) _, hbins _, (clampTo_mem (by omega) _).2,
    clampTo_mem (by omega) _, clampTo_mem (by omega) _, (clampTo_mem (by omega) _).2, (clampTo_mem (by omega) _).2,
    readUsage_fits img at0⟩

theorem laneCfg_fits {p : Profile} {img : List Byte} {l : LaneIx} (h : willBePresent p img l = true) :
    (laneCfg p img l).fits := by
  rw [laneCfg, if_pos h]
  simp only [willBePresent, Bool.and_eq_true, bne_iff_ne] at h
  exact readLane_fits h.1

/-! ## The route (R101, R191) -/

/-- A route of at most as many stops as items, each stop 1..31 and none twice. -/
def routeFits (items : List (Taken × Nat)) (route : List RouteStop) : Prop :=
  route.length ≤ items.length ∧ (route.map RouteStop.stop).Nodup ∧ ∀ x ∈ route, 1 ≤ x.stop ∧ x.stop ≤ 31

theorem buildRoute_fits (items : List (Taken × Nat)) (h : ∀ i ∈ items, 1 ≤ i.1.value ∧ i.1.value ≤ 32) :
    routeFits items (buildRoute items) := by
  induction items using List.reverseRecOn with
  | nil => simp [routeFits, buildRoute]
  | append_singleton items i ih =>
    have hfold : buildRoute (items ++ [i]) =
        if i.1.value = 32 ∨ ((buildRoute items).any fun x => x.stop == i.1.value) then buildRoute items
        else buildRoute items ++ [⟨i.1.value, i.2⟩] := by simp [buildRoute]
    obtain ⟨hlen, hnodup, hstops⟩ := ih fun j hj => h j (List.mem_append_left _ hj)
    have hi := h i (by simp)
    rw [hfold]
    split
    · exact ⟨by simp; omega, hnodup, hstops⟩
    next hnew =>
      obtain ⟨hne, hfresh⟩ := not_or.mp hnew
      refine ⟨by simpa using hlen, ?_, fun x hx => ?_⟩
      · simp only [List.any_eq_true, not_exists, not_and, beq_iff_eq] at hfresh
        rw [List.map_append, List.nodup_append]
        refine ⟨hnodup, by simp, fun a ha b hb => ?_⟩
        obtain ⟨x, hx, rfl⟩ := List.mem_map.mp ha
        rw [List.map_singleton, List.mem_singleton] at hb
        exact hb ▸ hfresh x hx
      · rcases List.mem_append.mp hx with hx | hx
        · exact hstops x hx
        · obtain rfl := List.mem_singleton.mp hx
          exact ⟨hi.1, by dsimp only; omega⟩

theorem routeItems_stops (img : List Byte) : ∀ i ∈ routeItems img, 1 ≤ i.1.value ∧ i.1.value ≤ 32 := by
  intro i hi
  obtain ⟨j, -, rfl⟩ := List.mem_map.mp hi
  dsimp only [clampStop]
  split
  next h => exact h
  · exact ⟨by decide, by decide⟩

/-! ## A start that passes CHECK (R193, R195) -/

/-- The role block and the common block of an image as taken. -/
def State.profileOf (s : State) (img : List Byte) : Profile :=
  (readRoleBlock s.start.role (readCommon img).1 img).1

/-- What a start that passes CHECK with this profile leaves. -/
def State.passesInto (s : State) (p : Profile) (img : List Byte) (t : State) : Prop :=
  (∃ count, t.start = { s.start with
    state := .listen, clamped := fieldCount count, listenEnd := some (s.start.clock + 3 * p.tRefresh) }) ∧
  t.prof = p ∧ t.cnt = (s.adjust p img).cnt ∧ t.pacer = (s.adjust p img).pacer ∧
  t.planner = (s.adjust p img).planner ∧ t.lanes = (s.adjust p img).lanes

theorem State.readEnd_passes {s : State} {img : List Byte} (hst : s.start.state = .load)
    (hlow : s.start.resetLow = false) (he : imgErased img = false) (hi : imgIntact img = true)
    (hr : s.start.role.imageCode = some (imgByte img 3)) (hlen : imgLenFits img s.start.role = true) :
    s.passesInto (s.profileOf img) img (s.readEnd img) := by
  have heq : s.readEnd img = s.passCheck
      (s.profileOf img) ((readCommon img).2 + (readRoleBlock s.start.role (readCommon img).1 img).2) img := by
    rw [State.readEnd_of_load img hst hlow, he, State.check, hi, hlen]
    simp [hr, State.profileOf]
  rw [heq]
  cases hrole : s.start.role <;>
    simp [State.passesInto, State.passCheck, State.adjust, State.openPort, State.deadline, hrole, State.setLanes,
      State.retireLanes]

/-- A lane of a rack after a power-on start: stocked by the new profile (R38). -/
theorem State.setLanes_lane_powerOn {s : State} (h : s.start.cause = .powerOn) (p : Profile) (img : List Byte)
    (l : LaneIx) : (s.setLanes p img).lane l =
      LaneRec.stocked { s.lane l with cfg := laneCfg p img l, present := willBePresent p img l } := by
  rw [State.setLanes, State.lane_mapLanes]
  simp [h]

/-- A lane of a rack after a pin reset: adjusted by its presence before (R39, R40). -/
theorem State.setLanes_lane_pin {s : State} (h : s.start.cause = .pin) (p : Profile) (img : List Byte) (l : LaneIx) :
    (s.setLanes p img).lane l = LaneRec.adjusted (s.lane l).present
      { s.lane l with cfg := laneCfg p img l, present := willBePresent p img l } := by
  rw [State.setLanes, State.lane_mapLanes]
  simp [h]

theorem LaneRec.stocked_keeps (r : LaneRec) :
    r.stocked.cfg = r.cfg ∧ r.stocked.present = r.present ∧ r.stocked.drift = r.drift ∧
    r.stocked.shortfall = r.shortfall ∧ r.stocked.surplus = r.surplus ∧ r.stocked.shortBins = r.shortBins := by
  rw [LaneRec.stocked_rest]; exact ⟨rfl, rfl, rfl, rfl, rfl, rfl⟩

theorem LaneRec.adjusted_keeps (r : LaneRec) (before : Bool) :
    (r.adjusted before).cfg = r.cfg ∧ (r.adjusted before).present = r.present ∧ (r.adjusted before).drift = r.drift ∧
    (r.adjusted before).shortfall = r.shortfall ∧ (r.adjusted before).surplus = r.surplus ∧
    (r.adjusted before).shortBins = r.shortBins := by
  unfold LaneRec.adjusted
  split
  · split
    · exact ⟨rfl, rfl, rfl, rfl, rfl, rfl⟩
    · exact r.stocked_keeps
  · split
    · exact r.stocked_keeps
    · exact ⟨rfl, rfl, rfl, rfl, rfl, rfl⟩

theorem State.setLanes_keeps (s : State) (p : Profile) (img : List Byte) (l : LaneIx) :
    ((s.setLanes p img).lane l).cfg = laneCfg p img l ∧ ((s.setLanes p img).lane l).present = willBePresent p img l ∧
    ((s.setLanes p img).lane l).drift = (s.lane l).drift ∧
    ((s.setLanes p img).lane l).shortfall = (s.lane l).shortfall ∧
    ((s.setLanes p img).lane l).surplus = (s.lane l).surplus ∧
    ((s.setLanes p img).lane l).shortBins = (s.lane l).shortBins := by
  cases hc : s.start.cause
  · rw [State.setLanes_lane_powerOn hc]; exact LaneRec.stocked_keeps _
  · rw [State.setLanes_lane_pin hc]; exact LaneRec.adjusted_keeps _ _

theorem LaneRec.retired_totals (r : LaneRec) :
    r.retired.present = false ∧ r.retired.drift = 0 ∧ r.retired.shortfall = 0 ∧ r.retired.surplus = 0 ∧
    r.retired.shortBins = 0 := by
  unfold LaneRec.retired
  split
  · rw [LaneRec.stocked_rest]; exact ⟨rfl, rfl, rfl, rfl, rfl⟩
  next h => exact ⟨by simpa using h, rfl, rfl, rfl, rfl⟩

/-- The takt settings of a PACER: R192's three steps leave takt_min ≤ takt_nom ≤ takt_max. -/
theorem readPacer_fits (p : Profile) (img : List Byte) :
    let q := (readPacer p img).1
    10 ≤ q.taktMin ∧ q.taktMin ≤ q.taktNom ∧ q.taktNom ≤ q.taktMax ∧ q.taktMax ≤ 1200 ∧
      10 ≤ q.tKeep ∧ q.tKeep ≤ 100 := by
  have hkeep := clampOr_mem (lo := 10) (hi := 100) (dflt := 30) (by omega) (imgByte img 18)
  simp only [readPacer, clampTo, lowerTo]
  omega

theorem readTrain_fits (p : Profile) (img : List Byte) (h : imgLenFits img .train = true) :
    let q := (readTrain p img).1
    (∀ c, q.caps.get c ≤ 63) ∧ (10 ≤ q.tReceipt ∧ q.tReceipt ≤ 300) ∧ q.route.length ≤ 24 ∧
      (q.route.map RouteStop.stop).Nodup ∧ ∀ x ∈ q.route, 1 ≤ x.stop ∧ x.stop ≤ 31 := by
  obtain ⟨hlen, hnodup, hstops⟩ := buildRoute_fits _ (routeItems_stops img)
  have hcount : imgByte img 22 ≤ 24 := by
    simp only [imgLenFits, Bool.and_eq_true, decide_eq_true_eq] at h; omega
  have hitems : (routeItems img).length = imgByte img 22 := by simp [routeItems]
  have hcap : ∀ v, (clampTo 0 63 v).value ≤ 63 := fun v => (clampTo_mem (by omega) v).2
  refine ⟨fun c => ?_, clampOr_mem (by omega) _, by rw [hitems] at hlen; exact hlen.trans hcount, hnodup, hstops⟩
  match c with
  | 0 | 1 | 2 | 3 => exact hcap _
  | _ + 4 => exact Nat.zero_le _

/-- Settles O9: the profile as taken is within its ranges, and the retained area is adjusted by role. -/
theorem goodProfileEntersListen : Obligations.GoodProfileEntersListen := by
  intro img s hst hlow he hi hr hlen
  obtain ⟨⟨count, hstart⟩, hprof, hcnt, hpacer, hplanner, hlanes⟩ := State.readEnd_passes hst hlow he hi hr hlen
  have hlane : ∀ l, (s.readEnd img).lane l = (s.adjust (s.profileOf img) img).lane l := State.lane_congr hlanes
  obtain ⟨hd, hgap, hrefresh, hsilence⟩ := readRoleBlock_common s.start.role _ img (readCommon_fits img)
  refine ⟨s.readEnd img, rfl, by rw [hstart], by rw [hstart, hprof], by rw [hstart]; exact Nat.min_le_right .., ?_⟩
  rw [hprof]
  refine ⟨hd, hgap, hrefresh, hsilence, fun hrole => ?_, fun hrole => ?_, fun hrole => ?_, fun hrole l => ?_⟩
  · have hadjust : s.adjust (s.profileOf img) img =
        { s.setLanes (s.profileOf img) img with pacer.nLocal := 0, planner.nextRun := 0 } := by
      simp [State.adjust, hrole]
    have hp : s.profileOf img = (readRack (readCommon img).1 img).1 := by rw [State.profileOf, hrole]; rfl
    obtain ⟨hpos, hpos'⟩ := clampTo_mem (lo := 1) (hi := 63) (by omega) (imgByte img 12)
    refine ⟨hp ▸ hpos, hp ▸ hpos', hp ▸ (clampTo_mem (by omega) _).2, hp ▸ (clampTo_mem (by omega) _).2,
      by rw [hpacer, hadjust], by rw [hplanner, hadjust], by rw [hcnt, hadjust]; rfl, fun l hl => ?_⟩
    have hl' : (s.readEnd img).lane l = (s.setLanes (s.profileOf img) img).lane l := by rw [hlane, hadjust]; rfl
    obtain ⟨hcfg, hpres, -⟩ := s.setLanes_keeps (s.profileOf img) img l
    rw [hl'] at hl ⊢
    rw [hcfg]
    exact laneCfg_fits (hpres ▸ hl)
  · have hadjust : s.adjust (s.profileOf img) img = { s.retireLanes with pacer.nLocal := 0 } := by
      simp [State.adjust, hrole]
    have hp : s.profileOf img = (readTrain (readCommon img).1 img).1 := by rw [State.profileOf, hrole]; rfl
    obtain ⟨hcaps, hreceipt, hroute, hnodup, hstops⟩ := readTrain_fits (readCommon img).1 img (hrole ▸ hlen)
    rw [hp]
    exact ⟨hcaps, hreceipt, hroute, hnodup, hstops, by rw [hpacer, hadjust], by rw [hcnt, hadjust]; rfl⟩
  · have hadjust : s.adjust (s.profileOf img) img = { s.retireLanes with
        cnt.bookfull := 0, planner.nextRun := 0, pacer.measured := (s.profileOf img).taktNom } := by
      simp [State.adjust, hrole]
    have hp : s.profileOf img = (readPacer (readCommon img).1 img).1 := by rw [State.profileOf, hrole]; rfl
    obtain ⟨hmin, hlo, hhi, hmax, hkeep⟩ := readPacer_fits (readCommon img).1 img
    rw [hp]
    exact ⟨hmin, hlo, hhi, hmax, hkeep, by rw [hpacer, hadjust, hp], by rw [hplanner, hadjust],
      by rw [hcnt, hadjust]; rfl⟩
  · have hretired : (s.adjust (s.profileOf img) img).lanes = (s.mapLanes fun _ r => r.retired).lanes := by
      cases hrole' : s.start.role
      · exact absurd hrole' hrole
      · simp [State.adjust, hrole', State.retireLanes]
      · simp [State.adjust, hrole', State.retireLanes]
      · rw [hrole'] at hr; cases hr
    rw [hlane, State.lane_congr hretired, State.lane_mapLanes]
    exact LaneRec.retired_totals _

/-- Settles O10: the stock of a lane by the cause of the start and by its presence before and after. -/
theorem startSetsLaneStock : Obligations.StartSetsLaneStock := by
  intro img s l hst hlow hrole he hi hcode hlen
  have hr : s.start.role.imageCode = some (imgByte img 3) := by rw [hrole, hcode]; rfl
  obtain ⟨-, hprof, -, -, -, hlanes⟩ :=
    State.readEnd_passes hst hlow he hi hr (by rw [hrole]; simp [imgLenFits, hlen])
  have hlane : (s.readEnd img).lane l = (s.setLanes (s.profileOf img) img).lane l := by
    rw [State.lane_congr hlanes]; simp [State.adjust, hrole, State.lane]
  refine ⟨s.readEnd img, rfl, ?_⟩
  obtain ⟨hcfg, hpres, hdrift, hshortfall, hsurplus, hshort⟩ := s.setLanes_keeps (s.profileOf img) img l
  have hpresent : willBePresent (s.profileOf img) img l =
      decide (imgWord img (laneAt l) ≠ 0 ∧ (s.profileOf img).stopOf (bankOf l) ≠ 0) := by
    simp [willBePresent, bne, Bool.decide_and, beq_eq_decide]
  dsimp only
  rw [hlane, hprof]
  refine ⟨hpres.trans hpresent, hdrift, hshortfall, hsurplus, hshort, fun hp hc => ?_, fun hp hc hold => ?_,
    fun hp hc => ?_⟩
  · rw [hpres] at hp
    rcases hcause : s.start.cause with _ | _
    · rw [State.setLanes_lane_powerOn hcause, LaneRec.stocked, if_pos hp]; exact ⟨rfl, rfl, rfl, rfl⟩
    · have hold : (s.lane l).present = false := by simpa [hcause] using hc
      rw [State.setLanes_lane_pin hcause, hold, LaneRec.adjusted, if_pos hp, if_neg (by simp), LaneRec.stocked, if_pos hp]
      exact ⟨rfl, rfl, rfl, rfl⟩
  · rw [hpres] at hp
    rw [State.setLanes_lane_pin hc, hold, LaneRec.adjusted, if_pos hp, if_pos rfl]
    exact ⟨rfl, rfl, rfl, rfl⟩
  · rw [hpres] at hp
    rcases hcause : s.start.cause with _ | _
    · rw [State.setLanes_lane_powerOn hcause, LaneRec.stocked, if_neg (by simp [hp])]; exact ⟨rfl, rfl, rfl, rfl⟩
    · have hold : (s.lane l).present = true := by simpa [hcause] using hc
      rw [State.setLanes_lane_pin hcause, hold, LaneRec.adjusted, if_neg (by simp [hp]), if_pos rfl, LaneRec.stocked, if_neg (by simp [hp])]
      exact ⟨rfl, rfl, rfl, rfl⟩

end Sys2Proof.Machine
end

section
/-! PROOFS. A frame handed over at once: a station that deals with nothing else takes it as one event (R168, R171, R174,
R175). -/

namespace Sys2Proof.Machine

/-! ## Nothing owed to the book -/

theorem State.bookSettled_iff (s : State) :
    s.bookSettled = true ↔
      s.book.asked = false ∧ s.book.askedRefresh = false ∧
        (s.busy = true ∨ s.book.pendingMark = false ∧ s.book.refreshDue = false) := by
  simp [State.bookSettled, and_assoc]

/-- No operation is to be started: the book is busy, or no mark is set (R78). -/
def State.unmarked (s : State) : Prop := s.busy = true ∨ s.book.pendingMark = false ∧ s.book.refreshDue = false

theorem State.startIfMarked_of_unmarked {s : State} (h : s.unmarked) : s.startIfMarked = s := by
  rcases h with h | ⟨hp, hr⟩ <;> simp [State.startIfMarked, *]

theorem State.unmarked_of_settled {s : State} (h : s.bookSettled = true) : s.unmarked := ((s.bookSettled_iff).mp h).2.2

theorem State.unmarked_congr {s t : State} (h : t.book.work = s.book.work) : t.unmarked ↔ s.unmarked := by
  obtain ⟨hop, hp, hr, -⟩ := Book.of_work h
  simp [State.unmarked, State.busy, hop, hp, hr]

/-- At the end of an event the requests have been taken up, so nothing new is left to start. -/
theorem State.endEvent_unmarked {s : State} (h : s.unmarked) : s.endEvent.unmarked := by
  obtain ⟨hbusy, hasked, hidle⟩ := s.endEvent_op
  rcases hb : s.busy with _ | _
  · rcases ha : s.book.asked with _ | _ <;> rcases hr : s.book.askedRefresh with _ | _
    · have hbook := hidle hb ha hr
      rw [State.unmarked, State.busy, hbook]; exact h
    all_goals
      obtain ⟨op, hop, -⟩ := hasked hb (by simp [ha, hr])
      exact .inl (by rw [State.busy, hop]; rfl)
  · exact .inl (State.endEvent_busy hb)

theorem State.Deed.unmarked {s t : State} (hd : s.Deed t) (h : s.unmarked) : t.endEvent.unmarked := by
  rcases hd.work with hw | ⟨-, cs, rfl⟩
  · exact State.endEvent_unmarked ((State.unmarked_congr hw).mpr h)
  · exact State.endEvent_unmarked (.inl (State.startOp_busy ..))

/-! ## One frame taken -/

/-- The receive side hunts again (R168). -/
def State.hunting (s : State) : State := { s with air.rx := .hunting }

theorem State.drain_nil {s : State} (hq : s.air.rxq = []) (h : s.unmarked) : s.drain [] = s := by
  have heq : ({ s with air.rxq := [] } : State) = s := by rw [← hq]
  rw [State.drain, heq, State.startIfMarked_of_unmarked h]

/-- A frame that does not wait is handed over, as one event, when nothing else waits and nothing is owed to the book. -/
theorem State.drain_one {s : State} {f : RxFrame} (hport : s.portWorks = true) (hq : s.air.rxq = []) (h : s.unmarked)
    (hf : s.carries f) (hwait : s.waitsForBook f = true → s.busy = false) : s.drain [f] = (s.handOver f).endEvent := by
  have hd := State.handOver_deed hport hf hwait
  have hrest : ((s.handOver f).endEvent).drain [] = (s.handOver f).endEvent :=
    State.drain_nil (hd.holdsQueue.rxq.trans hq) (hd.unmarked h)
  rw [State.drain]
  split
  next hw =>
    rw [if_neg (by simp [hwait hw])]
    exact hrest
  · rw [State.startIfMarked_of_unmarked h]
    exact hrest

theorem State.acceptFrame_of_joins {s : State} {code src : Byte} {p : List Byte} {k : FrameKind}
    (h : s.fate code src p = .joins k) : s.acceptFrame code src p = s.drain (s.air.rxq ++ [⟨k, src, p⟩]) := by
  simp only [State.acceptFrame, h]

/-- A whole frame of a kind taken by a station that deals with nothing else. -/
theorem State.arrives_joins {s : State} {k : FrameKind} {src : Byte} {p : List Byte} (hr : s.receiving = true)
    (hq : s.air.rxq = []) (hb : s.unmarked) (hf : s.fate k.code src p = .joins k)
    (hwait : s.waitsForBook ⟨k, src, p⟩ = true → s.busy = false) :
    s.arrives k src p = (s.hunting.handOver ⟨k, src, p⟩).endEvent := by
  have hsrc : src ≠ s.ownByte := ((s.fate_joins_iff ..).mp hf).1
  have haccept : s.hunting.acceptFrame k.code src p = s.hunting.drain [⟨k, src, p⟩] := by
    rw [State.acceptFrame_of_joins (s := s.hunting) hf, show s.hunting.air.rxq = [] from hq, List.nil_append]
  rw [State.arrives, if_pos hr]
  exact haccept.trans
    (State.drain_one (s := s.hunting) (State.portWorks_of_receiving hr) hq hb (.inr hsrc) hwait)

theorem FrameKind.kindOfCode_code (k : FrameKind) : kindOfCode k.code = some k := by cases k <;> rfl

/-- What the guard of a frame's statement says. -/
theorem State.hears_iff (s : State) (src : Byte) :
    s.hears src = true ↔ s.working = true ∧ s.key = false ∧ s.air.rxq = [] ∧ s.bookSettled = true ∧
      src ≠ s.ownByte ∧ 1 ≤ src.toNat ∧ src.toNat ≤ 126 := by
  simp [State.hears, and_assoc]

/-- A station that hears a frame of the right shape hands it to its owner, as one event. -/
theorem State.arrives_of_hears {s : State} {k : FrameKind} {src : Byte} {p : List Byte} (h : s.hears src = true)
    (hshape : shapeFits k p = true) (hwait : s.waitsForBook ⟨k, src, p⟩ = true → s.busy = false) :
    s.arrives k src p = (s.hunting.handOver ⟨k, src, p⟩).endEvent := by
  obtain ⟨hw, hkey, hq, hb, hsrc, hlo, hhi⟩ := (s.hears_iff src).mp h
  have hport := State.portWorks_of_working hw
  refine State.arrives_joins (by simp [State.receiving, hport, hkey]) hq (State.unmarked_of_settled hb) ?_ hwait
  refine (s.fate_joins_iff ..).mpr ⟨hsrc, ?_, k.kindOfCode_code, hshape, by simp [hq]⟩
  have hzero : src ≠ 0 := by rintro rfl; simp at hlo
  simp only [hzero, false_or, not_or]
  exact ⟨by omega, by omega⟩

/-- Frames other than a CLAIMSET never wait. -/
theorem State.not_waits_of_kind {s : State} {k : FrameKind} {src : Byte} {p : List Byte} (h : k ≠ .claimset) :
    s.waitsForBook ⟨k, src, p⟩ = true → s.busy = false := fun hw =>
  absurd ((s.waitsForBook_iff _).mp hw).1 h

/-- Outside FAULT the frame goes to the owner of its kind. -/
theorem State.not_fault_of_working {s : State} (h : s.working = true) : s.start.state ≠ .fault := by
  obtain ⟨-, hst | hst⟩ := State.working_iff.mp h <;> simp [hst]

/-- A UNIT heard is one event of the follower side. -/
theorem exec_unit_of_hears {s : State} {src n0 n1 t0 t1 a3 a2 a1 a0 : Byte} (h : s.hears src = true) :
    exec (.unit src [n0, n1, t0, t1, a3, a2, a1, a0]) s =
      .next (s.hunting.takeUnit src [n0, n1, t0, t1, a3, a2, a1, a0]).endEvent := by
  have hf := State.not_fault_of_working ((s.hears_iff src).mp h).1
  have harr := State.arrives_of_hears (k := .unit) (p := [n0, n1, t0, t1, a3, a2, a1, a0]) h rfl
    (State.not_waits_of_kind (by decide))
  have hhand : s.hunting.handOver ⟨.unit, src, [n0, n1, t0, t1, a3, a2, a1, a0]⟩ =
      s.hunting.takeUnit src [n0, n1, t0, t1, a3, a2, a1, a0] := if_neg hf
  rw [hhand] at harr
  exact congrArg _ harr

end Sys2Proof.Machine
end

section
/-! PROOFS. A forecast of every lane, lane by lane with the request it makes, and what the requests of an event make of a
book that nothing is owed to (R43, R50, R51, R78, R79). -/

namespace Sys2Proof.Machine

/-! ## Forecasts lane by lane -/

/-- The record of a lane forecast on the window as it stands (R43, R49, R50). -/
def State.forecasted (s : State) (r : LaneRec) : LaneRec :=
  { r with forecast := some (s.forecastOf r), cond := s.condOf r (s.forecastOf r) }

/-- The forecast of this lane makes a lane need change request (R51). -/
def State.needsAt (s : State) (l : LaneIx) : Bool :=
  (s.lane l).present && s.synced && needsChange (s.lane l).call (s.forecasted (s.lane l)).cond

theorem State.forecastOf_congr {s t : State} (hl : t.line = s.line) (hp : t.prof = s.prof) (r : LaneRec) :
    t.forecastOf r = s.forecastOf r := by
  unfold State.forecastOf State.nextUnit
  rw [hl, hp]

theorem State.forecasted_congr {s t : State} (hl : t.line = s.line) (hp : t.prof = s.prof) (r : LaneRec) :
    t.forecasted r = s.forecasted r := by
  unfold State.forecasted State.condOf
  rw [State.forecastOf_congr hl hp, hl]

theorem State.forecasted_forecasted (s : State) (r : LaneRec) : s.forecasted (s.forecasted r) = s.forecasted r := rfl

theorem State.forecastLane_same_or (s : State) (l m : LaneIx) :
    (s.forecastLane l).lane m =
      if m = l ∧ (s.lane l).present = true ∧ s.synced = true then s.forecasted (s.lane l) else s.lane m :=
  s.forecastLane_lane l m

theorem State.synced_congr {s t : State} (h : t.line = s.line) : t.synced = s.synced := by simp [State.synced, h]

theorem State.needsAt_congr {s t : State} {l : LaneIx} (hline : t.line = s.line) (hp : t.prof = s.prof)
    (hl : t.lane l = s.lane l) : t.needsAt l = s.needsAt l := by
  simp [State.needsAt, hl, State.synced_congr hline, State.forecasted_congr hline hp]

theorem State.forecastLane_needsAt (s : State) (l m : LaneIx) : (s.forecastLane l).needsAt m = s.needsAt m := by
  have hline : (s.forecastLane l).line = s.line := by simp
  have hprof : (s.forecastLane l).prof = s.prof := by simp
  rw [State.needsAt, State.forecastLane_same_or, State.synced_congr hline]
  split
  next h =>
    obtain ⟨rfl, -, -⟩ := h
    rw [State.forecasted_congr hline hprof, State.forecasted_forecasted]; rfl
  · rw [State.forecasted_congr hline hprof]; rfl

theorem State.forecastLane_asked (s : State) (l : LaneIx) :
    (s.forecastLane l).book = { s.book with asked := s.book.asked || s.needsAt l } := by
  unfold State.forecastLane
  dsimp only
  by_cases hp : (s.lane l).present && s.synced
  · rw [if_pos hp]
    have hcond : s.condOf (s.lane l) (s.forecastOf (s.lane l)) = (s.forecasted (s.lane l)).cond := rfl
    rw [hcond]
    split
    next h => simp [State.needsAt, hp, h]
    next h => simp [State.needsAt, hp, h]
  · simp [State.needsAt, hp]

theorem State.forecasts_lane (ls : List LaneIx) (s : State) (m : LaneIx) :
    (ls.foldl State.forecastLane s).lane m =
      if m ∈ ls ∧ (s.lane m).present = true ∧ s.synced = true then s.forecasted (s.lane m) else s.lane m := by
  induction ls generalizing s with
  | nil => simp
  | cons l ls ih =>
    have hline : (s.forecastLane l).line = s.line := by simp
    have hprof : (s.forecastLane l).prof = s.prof := by simp
    rw [List.foldl_cons, ih, State.synced_congr hline, State.forecasted_congr hline hprof, State.forecastLane_same_or]
    by_cases hm : m = l
    · subst hm
      by_cases h : (s.lane m).present = true ∧ s.synced = true
      · simp [h, State.forecasted_forecasted]
      · simp [h]
    · simp [hm]

theorem State.forecasts_book (ls : List LaneIx) (s : State) :
    (ls.foldl State.forecastLane s).book = { s.book with asked := s.book.asked || ls.any s.needsAt } := by
  induction ls generalizing s with
  | nil => simp
  | cons l ls ih =>
    have hneeds : (s.forecastLane l).needsAt = s.needsAt := funext (s.forecastLane_needsAt l)
    rw [List.foldl_cons, ih, State.forecastLane_asked, hneeds, List.any_cons, Bool.or_assoc]

/-- Every lane after a forecast of every present lane. -/
theorem State.forecastAll_lane (s : State) (m : LaneIx) :
    s.forecastAll.lane m =
      if (s.lane m).present = true ∧ s.synced = true then s.forecasted (s.lane m) else s.lane m := by
  have hmem : m ∈ allLanes := List.mem_finRange m
  rw [State.forecastAll, State.forecasts_lane]
  simp [hmem]

/-- The request of a forecast of every present lane. -/
theorem State.forecastAll_book (s : State) :
    s.forecastAll.book = { s.book with asked := s.book.asked || decide (∃ l, s.needsAt l = true) } := by
  have hany : allLanes.any s.needsAt = decide (∃ l, s.needsAt l = true) := by
    rw [Bool.eq_iff_iff]; simp [allLanes]
  rw [State.forecastAll, State.forecasts_book, hany]

theorem needsChange_iff (r : LaneRec) : needsChange r.call r.cond = true ↔ r.needs := by
  cases hc : r.call <;> simp [needsChange, LaneRec.needs, hc]

/-! ## Requests taken up at the end of an event (R78, R79) -/

/-- The book of an event that has made at most a request of its own. -/
def State.requests (s t : State) (need : Prop) : Prop :=
  (t.book.asked = true ↔ need) ∧ { t.book with asked := false } = s.book

theorem State.requests.none {s t : State} (hb : s.bookSettled = true) (h : t.book = s.book) {need : Prop}
    (hn : ¬need) : s.requests t need := by
  obtain ⟨hasked, -, -⟩ := (s.bookSettled_iff).mp hb
  refine ⟨by simp [h, hasked, hn], ?_⟩
  rw [h, ← hasked]

theorem State.takeRequests_of_none {s : State} (ha : s.book.asked = false) (hr : s.book.askedRefresh = false) :
    s.takeRequests = s := by
  simpa [State.takeRequests, ha, hr] using s.unasked ha hr

/-- A settled book takes up the request of an event: an idle one starts an operation that reads the state after it, a busy
one sets its mark, and without one the book stands. -/
theorem State.bookTakes_endEvent {s t : State} {need : Prop} (hb : s.bookSettled = true) (h : s.requests t need) :
    s.bookTakes t.endEvent need := by
  obtain ⟨hasked, hbook⟩ := h
  obtain ⟨hna, hnr, hmarks⟩ := (s.bookSettled_iff).mp hb
  obtain ⟨a, hbook'⟩ : ∃ a, t.book = { s.book with asked := a } := ⟨t.book.asked, by rw [← hbook]⟩
  have ha : a = true ↔ need := by rw [← hasked, hbook']
  have hbusy : t.busy = s.busy := State.busy_of_op (by rw [hbook'])
  have hend : t.endEvent.book = t.takeRequests.book := by simp [State.endEvent, State.refreshRisk]
  have hlanes : ∀ l, (t.endEvent.lane l).call = (t.lane l).call ∧ (t.endEvent.lane l).cond = (t.lane l).cond := fun l =>
    ⟨(t.endEvent_lane l).2.2.2.2.1, (t.endEvent_lane l).2.2.2.2.2.2.2.2.1⟩
  refine ⟨fun hn hidle => ?_, fun hn hidle => ?_, fun hn => ?_⟩
  · obtain rfl := ha.mpr hn
    have hm : s.book.refreshDue = false := (hmarks.resolve_left (by simp [hidle])).2
    have hstart : t.takeRequests =
        State.startOp { t with book.asked := false, book.askedRefresh := false,
                               book.refreshDue := t.book.refreshDue || t.book.askedRefresh } none := by
      simp [State.takeRequests, hbook', hbusy, hidle]
    rw [hend, hstart]
    refine ⟨_, rfl, rfl, ?_, by simp, rfl, fun l => ?_⟩
    · simp [hbook', hm, hnr]
    · rw [(hlanes l).1, (hlanes l).2]
      simp [LaneRec.read, State.lane]
  · obtain rfl := ha.mpr hn
    rw [hend, State.takeRequests]
    simp [hbusy, hidle, hbook', hna, hnr]
  · have hfalse : a = false := by simpa using mt ha.mp hn
    rw [hend, State.takeRequests_of_none (by rw [hbook', hfalse]) (by rw [hbook']; exact hnr), hbook', hfalse, ← hna]

end Sys2Proof.Machine
end

section
/-! PROOFS. The pacer side: takt edges, the keepalive and silence timers, and the end of the listen period (R3 to R7, R14,
R196). -/

namespace Sys2Proof.Machine

/-! ## UNIT notices queued (R4, R176, R177) -/

theorem TxFrame.key_of_unit {f : TxFrame} (h : f.kind = .unit) : f.key = (.unit, []) := by
  simp [TxFrame.key, h]

/-- The transmit queue has a place for a UNIT: room, or one waiting already. -/
def State.unitRoom (s : State) : Prop := s.txRoom = true ∨ ∃ f ∈ s.air.txq, f.kind = .unit

theorem State.room_of_unitRoom {s : State} (h : s.unitRoom) {f : TxFrame} (hf : f.kind = .unit) :
    s.air.txq.length < 8 ∨ ∃ g ∈ s.air.txq, g.key = f.key := by
  rcases h with h | ⟨g, hg, hk⟩
  · exact .inl (by simpa [State.txRoom] using h)
  · exact .inr ⟨g, hg, by rw [TxFrame.key_of_unit hk, TxFrame.key_of_unit hf]⟩

theorem State.offer_cnt_of_room {s : State} {f : TxFrame}
    (h : s.air.txq.length < 8 ∨ ∃ g ∈ s.air.txq, g.key = f.key) : (s.offer f).cnt = s.cnt := by
  unfold State.offer
  split
  · unfold State.place
    split
    · rfl
    next hk =>
      have hl : s.air.txq.length < 8 := h.resolve_right (by simpa using hk)
      rw [if_pos hl]
      dsimp only
      split
      · unfold State.drawHead; split <;> rfl
      · rfl
  · rfl

theorem State.offer_of_not_accepts {s : State} {f : TxFrame} (h : s.accepts f.kind = false) : s.offer f = s := by
  simp [State.offer, h]

/-- The UNIT notice that a pacer queues now. -/
def State.unitFrame (s : State) : TxFrame := ⟨.unit, writeUnit s.pacer.notice⟩

/-- The keepalive timer started now. -/
def State.keptAlive (s : State) : State := { s with pacer.keepalive := some (s.deadline s.prof.tKeep) }

theorem State.queueUnit_eq (s : State) : s.queueUnit = s.keptAlive.offer s.unitFrame := rfl

theorem State.queueUnit_pacer (s : State) :
    s.queueUnit.pacer = { s.pacer with keepalive := some (s.start.clock + s.prof.tKeep) } := by
  rw [State.queueUnit_eq]; simp [State.keptAlive, State.deadline]

theorem State.queueUnit_mem {s : State} (ha : s.isActive = true) (hp : s.pacer.state = .active) (h : s.unitRoom) :
    s.unitFrame ∈ s.queueUnit.air.txq := by
  rw [State.queueUnit_eq]
  exact State.mem_offer_self (s := s.keptAlive) (by simp [State.accepts, State.unitFrame, State.keptAlive, hp]; exact ha)
    (State.room_of_unitRoom (s := s.keptAlive) h rfl)

theorem State.queueUnit_cnt_of_room {s : State} (h : s.unitRoom) : s.queueUnit.cnt = s.cnt := by
  rw [State.queueUnit_eq, State.offer_cnt_of_room (State.room_of_unitRoom (s := s.keptAlive) h rfl)]
  rfl

theorem State.queueUnit_of_not_active {s : State} (ha : s.isActive = false) : s.queueUnit = s.keptAlive := by
  have hk : s.keptAlive.isActive = false := ha
  rw [State.queueUnit_eq]
  exact State.offer_of_not_accepts (by simp [State.accepts, State.unitFrame, hk])

/-! ## Takt edges and the keepalive timer (R3, R4, R6) -/

/-- The accepted level of TAKT is high. -/
def State.taktHigh (s : State) : State := { s with pacer.taktIn := .accept true }

theorem State.edgeVariant_of_low {s : State} (h : s.pacer.validIn.acc = some false) : s.edgeVariant.1 = 63 := by
  simp [State.edgeVariant, h]

theorem State.edgeVariant_of_high {s : State} {w : Variant} (h : s.pacer.validIn.acc = some true)
    (hw : s.pacer.variantIn.acc = some w) : s.edgeVariant.1 = w := by
  simp [State.edgeVariant, h, hw]

/-- An edge counted with its variant, before a UNIT is queued. -/
def State.counted (s : State) : State := s.edgeVariant.2.countEdge s.edgeVariant.1

theorem State.counted_pacer (s : State) :
    s.counted.pacer = { s.pacer with
      nLocal := s.pacer.nLocal + 1
      record := ⟨s.pacer.record.v2, s.pacer.record.v1, s.pacer.record.v0, s.edgeVariant.1⟩
      measured := s.measure, prevEdge := some s.start.clock } := by
  have hm : s.edgeVariant.2.measure = s.measure := by simp [State.measure]
  rw [State.counted, State.countEdge, hm]
  simp [VariantRecord.push]

theorem State.edge_of_active {s : State} (h : s.pacer.state = .active) : s.edge = s.counted.followOwn.queueUnit := by
  simp only [State.edge, h, if_true, State.counted]

theorem State.edge_of_not_active {s : State} (h : s.pacer.state ≠ .active) : s.edge = s.counted := by
  simp only [State.edge, h, if_false, State.counted]

theorem exec_taktEdge {s : State} (h : s.worksAs .pacer = true) :
    exec .taktEdge s = .next s.taktHigh.edge.endEvent := by
  simp only [exec, execTaktEdge, h, if_true, State.event, State.taktHigh]

theorem exec_keepalive {s : State} (h : s.worksAs .pacer = true) (hp : s.pacer.state = .active)
    (hd : s.due s.pacer.keepalive = true) : exec .keepaliveTimerExpiry s = .next s.queueUnit.endEvent := by
  simp only [exec, execKeepaliveTimerExpiry, h, if_true, State.event, State.keepaliveExpiry, hp, hd, and_self]

/-- What an edge does to the pacer side, in every pacer state. -/
theorem State.edge_pacer (s : State) :
    s.edge.pacer = { s.counted.pacer with
      keepalive := if s.pacer.state = .active then some (s.start.clock + s.prof.tKeep) else s.pacer.keepalive } := by
  by_cases h : s.pacer.state = .active
  · rw [State.edge_of_active h, State.queueUnit_pacer, if_pos h]
    simp [State.counted]
  · rw [State.edge_of_not_active h, if_neg h]
    rw [State.counted_pacer]

/-- Settles O13: the edge is counted, and in ACTIVE it sets the follower side and queues the notice. -/
theorem pacerCountsAndAnnounces : Obligations.PacerCountsAndAnnounces := by
  intro s hw takes
  refine ⟨⟨_, s.taktHigh.edgeVariant.1, exec_taktEdge hw, ?_⟩, fun hp hd => ⟨_, exec_keepalive hw hp hd, ?_⟩, rfl⟩
  · have hpacer := s.taktHigh.edge_pacer
    rw [State.counted_pacer] at hpacer
    simp only [State.endEvent_frame, hpacer]
    refine ⟨rfl, rfl, fun h => State.edgeVariant_of_low (s := s.taktHigh) h,
      fun w h hw => State.edgeVariant_of_high (s := s.taktHigh) h hw, rfl, rfl, rfl, fun hact => ?_, fun hact => ?_,
      by simp [State.taktHigh], by simp [State.taktHigh], by simp [State.taktHigh], by simp [State.taktHigh],
      by simp [State.taktHigh]⟩
    · have hc := s.taktHigh.counted_pacer
      rw [State.edge_of_active (s := s.taktHigh) hact]
      refine ⟨?_, if_pos hact, fun ⟨ha, hroom⟩ => ?_⟩
      · rw [(State.queueUnit_frame _).2.2.1, State.followOwn_line, hc]
        simp [State.counted, State.taktHigh]
      · have hair : s.taktHigh.counted.air = s.air := by simp [State.counted, State.taktHigh]
        have hstart : s.taktHigh.counted.start = s.start := by simp [State.counted, State.taktHigh]
        have hpac : s.taktHigh.counted.followOwn.pacer = s.taktHigh.counted.pacer := by simp
        have hmem := State.queueUnit_mem (s := s.taktHigh.counted.followOwn)
          (by simpa [State.isActive, hstart] using ha) (by rw [hpac, hc]; exact hact)
          (by simpa [State.unitRoom, State.txRoom, hair] using hroom)
        rw [State.unitFrame, hpac, hc] at hmem
        exact hmem
    · rw [State.edge_of_not_active (s := s.taktHigh) hact]
      exact ⟨by simp [State.counted, State.taktHigh], by simp [State.counted, State.taktHigh], if_neg hact⟩
  · simp only [State.endEvent_frame, State.queueUnit_frame, State.queueUnit_pacer, and_self, and_true, true_and]
    refine ⟨fun ⟨ha, hroom⟩ => ⟨State.queueUnit_mem ha hp hroom, State.queueUnit_cnt_of_room hroom⟩, fun ha => ?_⟩
    rw [State.queueUnit_of_not_active ha]
    exact ⟨rfl, rfl⟩

/-! ## Entry to pacer state ACTIVE (R6), and the silence timer (R7, R14) -/

/-- The state in which an entry to pacer state ACTIVE queues its UNIT. -/
def State.leading (s : State) : State :=
  ({ s with pacer.state := .active, line.followed := some s.ownByte, line.state := .tracking,
            line.silence := none } : State).followOwn

theorem State.enterActive_eq (s : State) : s.enterActive = s.leading.queueUnit := rfl

theorem State.enterActive_pacer (s : State) :
    s.enterActive.pacer = { s.pacer with state := .active, keepalive := some (s.start.clock + s.prof.tKeep) } := by
  rw [State.enterActive_eq, State.queueUnit_pacer]; rfl

theorem State.enterActive_mem {s : State} (ha : s.isActive = true) (h : s.unitRoom) :
    s.unitFrame ∈ s.enterActive.air.txq := State.queueUnit_mem (s := s.leading) ha rfl h

theorem exec_silenceTimerExpiry {s : State} (h : s.working = true) :
    exec .silenceTimerExpiry s = .next s.silenceExpiry.endEvent := by
  simp only [exec, execSilenceTimerExpiry, h, if_true, State.event]

theorem State.endEvent_kept (s : State) (l : LaneIx) :
    (s.endEvent.lane l).stock = (s.lane l).stock ∧ (s.endEvent.lane l).delivery = (s.lane l).delivery := by
  obtain ⟨hstock, hdelivery, -⟩ := s.endEvent_lane l
  exact ⟨hstock, hdelivery⟩

/-- Settles O18. -/
theorem silenceExpiryStaleOrTakeover : Obligations.SilenceExpiryStaleOrTakeover := by
  intro s hw hd
  have hlane : ∀ l, s.silenceExpiry.lane l = s.lane l := State.lane_congr (by simp)
  refine ⟨_, exec_silenceTimerExpiry hw, fun hc => ?_, fun hr hp => ?_, fun l => ?_, ?_⟩
  · have heq : s.silenceExpiry = { s with line.state := .stale, line.silence := none } := by
      rw [State.silenceExpiry, if_pos hd, if_neg hc]
    simp [heq]
  · have heq : s.silenceExpiry = s.enterActive := by rw [State.silenceExpiry, if_pos hd, if_pos ⟨hr, hp⟩]
    simp only [State.endEvent_frame, heq]
    exact ⟨s.enterActive_line, s.enterActive_pacer, fun ha hroom => State.enterActive_mem ha hroom⟩
  · obtain ⟨hstock, hdelivery⟩ := s.silenceExpiry.endEvent_kept l
    rw [hstock, hdelivery, hlane l]
    exact ⟨rfl, rfl⟩
  · simp

end Sys2Proof.Machine
end

section
/-! PROOFS. Following a pacer: adoption, advance, keepalive, resync and conflict (R9 to R13, R17, R18, R31, R43, R106). -/

namespace Sys2Proof.Machine

/-! ## Counters under frames offered -/

/-- The counters but for TXDROP, the only one that offering a frame can raise. -/
def Counters.sansDrop (c : Counters) : Counters := { c with txdrop := 0 }

theorem State.offer_sansDrop (s : State) (f : TxFrame) : (s.offer f).cnt.sansDrop = s.cnt.sansDrop := by
  have hdraw : ∀ t : State, t.drawHead.cnt = t.cnt := fun t => by unfold State.drawHead; split <;> rfl
  have hplace : (s.place f).cnt.sansDrop = s.cnt.sansDrop := by
    unfold State.place
    split
    · rfl
    · split
      · dsimp only
        split
        · rw [hdraw]
        · rfl
      · rfl
  unfold State.offer
  split
  · exact hplace
  · rfl

theorem State.announce_sansDrop (s : State) (r : Run) (closed : Bool) :
    (s.announce r closed).cnt.sansDrop = s.cnt.sansDrop := by
  unfold State.announce
  split
  · exact s.offer_sansDrop _
  · rfl

theorem State.announceSlot_sansDrop (s : State) (slot : Option Run) :
    (s.announceSlot slot).cnt.sansDrop = s.cnt.sansDrop := by
  cases slot with
  | none => rfl
  | some r => exact s.announce_sansDrop r false

theorem State.announceAll_sansDrop (s : State) : s.announceAll.cnt.sansDrop = s.cnt.sansDrop :=
  (State.announceSlot_sansDrop _ _).trans (s.announceSlot_sansDrop _)

/-! ## RUN notices of the runs held (R121, R122) -/

theorem State.runFrame_head (s : State) (r : Run) :
    (s.runFrame r false).kind = .run ∧ (s.runFrame r false).payload.take 3 = bytes2 r.id ++ [byte r.state.code] :=
  ⟨rfl, rfl⟩

theorem State.announce_mem {s : State} (ha : s.announces = true) (hroom : s.air.txq.length < 8) (r : Run) :
    s.runFrame r false ∈ (s.announce r false).air.txq := by
  rw [State.announce, if_pos ha]
  refine State.mem_offer_self ?_ (.inl hroom)
  simp only [State.announces, Bool.and_eq_true] at ha
  exact ha.1

theorem State.announceSlot_announces (s : State) (slot : Option Run) :
    (s.announceSlot slot).announces = s.announces := by
  simp [State.announces, State.isActive, State.synced]

/-- With room for a frame for each run held the run of the planning slot is announced. -/
theorem State.announceAll_mem_planning {s : State} {r : Run} (ha : s.announces = true)
    (hr : s.planner.planning = some r) (hroom : s.air.txq.length + s.planner.current.toList.length < 8) :
    ∃ f ∈ s.announceAll.air.txq, f.kind = .run ∧ f.payload.take 3 = bytes2 r.id ++ [byte r.state.code] := by
  have hlen : (s.announceSlot s.planner.current).air.txq.length < 8 := by
    cases hc : s.planner.current with
    | none => rw [hc] at hroom; simpa [State.announceSlot] using hroom
    | some c =>
      rw [hc] at hroom
      have := (s.announceSlot_offers (some c)).length_le
      simp only [Option.toList_some, List.length_singleton] at hroom
      omega
  have hmem := State.announce_mem (s := s.announceSlot s.planner.current)
    (by rw [State.announceSlot_announces]; exact ha) hlen r
  refine ⟨_, ?_, State.runFrame_head (s.announceSlot s.planner.current) r⟩
  rw [State.announceAll, hr]
  exact hmem

/-! ## Opening a run (R106) -/

theorem State.mayOpen_iff (s : State) :
    s.mayOpen = true ↔ s.start.role = .train ∧ s.isActive = true ∧ s.synced = true ∧ s.planner.planning = none ∧
      ∀ r, s.planner.current = some r → r.state ≠ .loading := by
  simp only [State.mayOpen, Bool.and_eq_true, beq_iff_eq, Option.isNone_iff_eq_none, Bool.not_eq_true', and_assoc]
  cases s.planner.current <;> simp

theorem State.openAndAnnounce_of_not {s : State} (h : s.mayOpen = false) : s.openAndAnnounce = s := by
  simp [State.openAndAnnounce, h]

/-- The state with the run opened, before its notices. -/
def State.opened (s : State) : State :=
  { s with planner.planning := some s.openedRun, planner.nextRun := s.planner.nextRun + 1, book.asked := true }

theorem State.openRun_of_may {s : State} (h : s.mayOpen = true) : s.openRun = s.opened := by
  rw [State.openRun, if_pos h]; rfl

theorem State.openAndAnnounce_of_may {s : State} (h : s.mayOpen = true) : s.openAndAnnounce = s.opened.announceAll := by
  rw [State.openAndAnnounce, if_pos h, State.openRun_of_may h]

theorem State.announces_of_may {s : State} (h : s.mayOpen = true) : s.opened.announces = true := by
  obtain ⟨-, ha, hs, -⟩ := s.mayOpen_iff.mp h
  rw [State.announces, Bool.and_eq_true]
  exact ⟨ha, hs⟩

/-! ## A frame processed (R9 to R13) -/

/-- What every processed frame does to the follower side: F, the takt, TRACKING and the silence timer (R9, R10, R14). -/
def State.heardFrom (s : State) (src : Byte) (u : UnitNotice) : State :=
  { s with line := { s.line with
      followed := some src, takt := clampTakt u.takt, state := .tracking, silence := some (s.deadline s.prof.tSilence) } }

theorem State.processUnit_of_unsynced {s : State} (h : s.line.state = .unsynced) (src : Byte) (u : UnitNotice) :
    s.processUnit src u = (({ s.heardFrom src u with line.n := u.n } : State).buildWindow u).openAndAnnounce := by
  simp only [State.processUnit, h, if_true, State.adopt]
  rfl

/-- The frames heard since the last, by the line count heard (R12). -/
def State.ahead (s : State) (u : UnitNotice) : Nat := (u.n - s.line.n).toNat

theorem State.processUnit_of_synced {s : State} (h : s.line.state ≠ .unsynced) (src : Byte) (u : UnitNotice) :
    s.processUnit src u =
      if s.ahead u = 0 then s.heardFrom src u
      else if s.ahead u ≤ 255 then
        ({ s.heardFrom src u with
          line.n := u.n, cnt.gap := sat16 (s.cnt.gap + (s.ahead u - 4)) } : State).advanceWindow u (s.ahead u)
      else ({ s.heardFrom src u with line.n := u.n, cnt.resync := bump16 s.cnt.resync } : State).buildWindow u := by
  simp only [State.processUnit, h, if_false]
  rfl

theorem State.n_of_ahead_zero {s : State} {u : UnitNotice} (h : s.ahead u = 0) : u.n = s.line.n := by
  have hz : u.n - s.line.n = 0 := BitVec.eq_of_toNat_eq h
  exact sub_eq_zero.mp hz

/-- The follower side after a frame processed, but for the window. -/
theorem State.processUnit_line (s : State) (src : Byte) (u : UnitNotice) :
    { (s.processUnit src u).line with window := [] } =
      { s.line with followed := some src, n := u.n, takt := clampTakt u.takt, state := .tracking,
                    silence := some (s.start.clock + s.prof.tSilence), window := [] } := by
  have hbuild : ∀ t : State, { (t.buildWindow u).line with window := [] } = { t.line with window := [] } := fun t => by
    rw [State.buildWindow_line]; split <;> rfl
  have hadvance : ∀ (t : State) d, { (t.advanceWindow u d).line with window := [] } = { t.line with window := [] } :=
    fun t d => by rw [State.advanceWindow_line]; split <;> rfl
  by_cases hs : s.line.state = .unsynced
  · rw [State.processUnit_of_unsynced hs, (State.openAndAnnounce_frame _).2.2.1, hbuild]; rfl
  · rw [State.processUnit_of_synced hs]
    split
    next h => rw [State.n_of_ahead_zero h]; rfl
    · split
      · rw [hadvance]; rfl
      · rw [hbuild]; rfl

/-! ## Conflict and stand-down (R6, R9) -/

theorem State.removeUnit_no_unit (s : State) : ∀ f ∈ s.removeUnit.air.txq, f.kind ≠ .unit := by
  have hdraw : ∀ t : State, t.drawHead.air.txq = t.air.txq := fun t => by unfold State.drawHead; split <;> rfl
  have hfilter : ∀ (fs : List TxFrame), ∀ f ∈ fs.filter (fun g => g.kind != .unit), f.kind ≠ .unit := fun fs f hf => by
    simpa using (List.mem_filter.mp hf).2
  unfold State.removeUnit
  split
  next hq => simp [hq]
  next g rest hq =>
    dsimp only
    split
    · rw [hdraw]; exact hfilter rest
    next hg =>
      intro f hf
      rcases List.mem_cons.mp hf with rfl | hf
      · exact hg
      · exact hfilter rest f hf

/-- The station that a UNIT from below an ACTIVE pacer has stood down. -/
def State.stoodDown (s : State) (u : UnitNotice) : State := s.standDown.standBy u

theorem State.takeUnit_of_lower {s : State} {src : Byte} {p : List Byte} {u : UnitNotice} (hp : readUnit p = some u)
    (hr : s.start.role = .pacer) (ha : s.pacer.state = .active) (hlt : src.toNat < s.own) :
    s.takeUnit src p = (s.stoodDown u).processUnit src u := by
  simp only [State.takeUnit, hp, hr, ha, and_self, if_true, hlt, State.stoodDown]

theorem State.takeUnit_conflict {s : State} {src : Byte} {p : List Byte} {u : UnitNotice} (hp : readUnit p = some u)
    (h : ¬(s.start.role = .pacer ∧ s.pacer.state = .active) ∧ s.takesFrom src = false ∨
      (s.start.role = .pacer ∧ s.pacer.state = .active) ∧ s.own < src.toNat) : s.takeUnit src p = s.conflict := by
  rcases h with ⟨ha, ht⟩ | ⟨ha, hlt⟩
  · simp [State.takeUnit, hp, ha, ht]
  · simp [State.takeUnit, hp, ha, Nat.not_lt.mpr hlt.le]

theorem State.takeUnit_taken {s : State} {src : Byte} {p : List Byte} {u : UnitNotice} (hp : readUnit p = some u)
    (ha : ¬(s.start.role = .pacer ∧ s.pacer.state = .active)) (ht : s.takesFrom src = true) :
    s.takeUnit src p = (s.standBy u).processUnit src u := by
  simp only [State.takeUnit, hp, ha, if_false, ht, if_true]

/-- In PACER role no run is opened, so a frame processed leaves the air port. -/
theorem State.processUnit_air_of_pacer {s : State} (hr : s.start.role = .pacer) (src : Byte) (u : UnitNotice) :
    (s.processUnit src u).air = s.air := by
  unfold State.processUnit
  dsimp only
  split
  · rw [State.adopt, State.openAndAnnounce_of_not]
    · simp
    · simp [State.mayOpen, hr]
  · simp

/-- Settles O17. -/
theorem conflictingUnitDiscarded : Obligations.ConflictingUnitDiscarded := by
  intro s src n0 n1 t0 t1 a3 a2 a1 a0 hears active
  have hact : active = true ↔ s.start.role = .pacer ∧ s.pacer.state = .active := by simp [active]
  refine ⟨fun h => ⟨_, exec_unit_of_hears hears, ?_⟩, fun ⟨ha, hlt⟩ => ⟨_, exec_unit_of_hears hears, ?_⟩⟩
  · have hconf : s.hunting.takeUnit src [n0, n1, t0, t1, a3, a2, a1, a0] = s.hunting.conflict := by
      refine State.takeUnit_conflict rfl (h.imp (fun ⟨ha, htrack, f, hf, hlt⟩ => ⟨?_, ?_⟩) fun ⟨ha, hlt⟩ => ⟨hact.mp ha, hlt⟩)
      · exact fun hc => by simp [hact.mpr hc] at ha
      · simp [State.takesFrom, State.hunting, hf, htrack, hlt]
    rw [hconf]
    refine ⟨by simp [State.conflict, State.hunting, bump16, sat16], by simp [State.hunting], by simp [State.hunting],
      by simp [State.hunting], fun l => (s.hunting.conflict.endEvent_kept l).1, by simp [State.hunting],
      by simp [State.hunting]⟩
  · obtain ⟨hr, hp⟩ := hact.mp ha
    rw [State.takeUnit_of_lower (s := s.hunting) rfl hr hp hlt]
    have hrole : (s.hunting.stoodDown ⟨word n0 n1, word t0 t1, a3, a2, a1, a0⟩).start.role = .pacer := by
      simp [State.stoodDown, State.hunting, hr]
    have hline := State.processUnit_line (s.hunting.stoodDown ⟨word n0 n1, word t0 t1, a3, a2, a1, a0⟩) src
      ⟨word n0 n1, word t0 t1, a3, a2, a1, a0⟩
    simp only [LineClock.mk.injEq] at hline
    obtain ⟨hf, hst, hn, -, hsil, -⟩ := hline
    simp only [State.endEvent_frame, hf, hst, hn, hsil, State.processUnit_frame, State.processUnit_air_of_pacer hrole]
    refine ⟨?_, trivial, trivial, trivial, ?_, ?_⟩
    · simp [State.stoodDown, State.standBy, State.standDown, State.hunting, hr]
    · simp [State.stoodDown, State.hunting]
    · have hair : (s.hunting.stoodDown ⟨word n0 n1, word t0 t1, a3, a2, a1, a0⟩).air = s.hunting.standDown.air := by
        simp [State.stoodDown]
      rw [hair]
      exact State.removeUnit_no_unit _

end Sys2Proof.Machine
end

section
/-! PROOFS. What a UNIT taken does: the first one (R11, R17, R106), an advance (R12, R18, R31), a keepalive and a resync
(R12, R13); and the end of the listen period (R196). -/

namespace Sys2Proof.Machine

/-! ## Forecasts that follow a frame -/

/-- The lanes and the book of a state that has just been forecast: every present lane holds the forecast, and a request has
been made exactly where one of them needs it. -/
structure State.forecastFrom (s x t : State) : Prop where
  lane : ∀ l, (t.lane l) = if (x.lane l).present = true then x.forecasted (x.lane l) else x.lane l
  line : t.line = x.line
  prof : t.prof = x.prof
  book : t.book = { s.book with asked := s.book.asked || decide (∃ l, x.needsAt l = true) }

theorem State.forecastAll_from {s x : State} (hsync : x.synced = true) (hb : x.book = s.book) :
    s.forecastFrom x x.forecastAll where
  lane l := by rw [State.forecastAll_lane]; simp [hsync]
  line := by simp
  prof := by simp
  book := by rw [State.forecastAll_book, hb]

variable {s x t : State}

theorem State.forecastFrom.keeps (h : s.forecastFrom x t) (l : LaneIx) :
    (t.lane l).sansForecast = (x.lane l).sansForecast := by
  rw [h.lane]; split <;> rfl

theorem State.forecastFrom.isForecast (h : s.forecastFrom x t) {l : LaneIx} (hp : (x.lane l).present = true) :
    t.isForecast l := by
  have hl := h.lane l
  rw [if_pos hp] at hl
  have hcast : t.forecastOf (t.lane l) = x.forecastOf (x.lane l) := by
    rw [State.forecastOf_congr h.line h.prof, hl]; rfl
  rw [State.isForecast, hcast, hl, h.line]
  exact ⟨rfl, rfl⟩

/-- A lane that needs a request is one that the forecast made needs it of. -/
theorem State.forecastFrom.needs (h : s.forecastFrom x t) (hsync : x.synced = true) (l : LaneIx) :
    x.needsAt l = true ↔ (x.lane l).present = true ∧ (t.lane l).needs := by
  by_cases hp : (x.lane l).present = true
  · have hl := h.lane l
    rw [if_pos hp] at hl
    rw [hl, ← needsChange_iff]
    simp only [State.needsAt, hp, hsync, Bool.true_and, true_and]
    rfl
  · simp [State.needsAt, hp]

theorem State.forecastFrom.requests (h : s.forecastFrom x t) (hsync : x.synced = true) (hb : s.bookSettled = true) :
    s.requests t (∃ l, (x.lane l).present = true ∧ (t.lane l).needs) := by
  obtain ⟨ha, -, -⟩ := (s.bookSettled_iff).mp hb
  refine ⟨?_, ?_⟩
  · rw [h.book, ha, Bool.false_or, decide_eq_true_iff]
    exact exists_congr fun l => h.needs hsync l
  · rw [h.book, ← ha]

/-- What the lanes show of the event is what they show after its end. -/
theorem State.isForecast_endEvent {t : State} {l : LaneIx} (h : t.isForecast l) : t.endEvent.isForecast l := by
  obtain ⟨hstock, -, -, hcfg, -, -, -, hforecast, hcond, -⟩ := t.endEvent_lane l
  have hs : (t.endEvent.lane l).s = (t.lane l).s := congrArg StockView.s hstock
  have hcast : t.endEvent.forecastOf (t.endEvent.lane l) = t.forecastOf (t.lane l) := by
    rw [State.forecastOf_congr (s := t) (by simp) (by simp), State.forecastOf, State.forecastOf, hs, hcfg]
  obtain ⟨hf, hc⟩ := h
  refine ⟨by rw [hforecast, hcast, hf], ?_⟩
  rw [hcond, hcast, hcfg, hc]
  simp

theorem LaneRec.needs_congr {r r' : LaneRec} (hcall : r'.call = r.call) (hcond : r'.cond = r.cond) :
    r'.needs ↔ r.needs := by
  simp [LaneRec.needs, hcall, hcond]

theorem State.needs_endEvent (t : State) (l : LaneIx) : (t.endEvent.lane l).needs ↔ (t.lane l).needs := by
  obtain ⟨-, -, -, -, hcall, -, -, -, hcond, -⟩ := t.endEvent_lane l
  exact LaneRec.needs_congr hcall hcond

/-! ## Units consumed (R31) -/

/-- What consumption leaves of a lane: all but the stock figures. -/
theorem LaneRec.consumed_keeps (units : List (Option Variant)) (r : LaneRec) :
    let r' := units.foldl (fun r e => r.consume e) r
    r'.present = r.present ∧ r'.delivery = r.delivery ∧ r'.surplus = r.surplus ∧ r'.call = r.call ∧
      (r.present = false → r' = r) := by
  induction units generalizing r with
  | nil => exact ⟨rfl, rfl, rfl, rfl, fun _ => rfl⟩
  | cons e es ih =>
    have hone : (r.consume e).present = r.present ∧ (r.consume e).delivery = r.delivery ∧
        (r.consume e).surplus = r.surplus ∧ (r.consume e).call = r.call ∧ (r.present = false → r.consume e = r) := by
      unfold LaneRec.consume
      dsimp only
      split
      · exact ⟨rfl, rfl, rfl, rfl, fun _ => rfl⟩
      next hp => split <;> exact ⟨rfl, rfl, rfl, rfl, fun hc => absurd hc (by simpa using hp)⟩
    obtain ⟨hp, hd, hs, hc, hsame⟩ := hone
    obtain ⟨ihp, ihd, ihs, ihc, ihsame⟩ := ih (r.consume e)
    exact ⟨ihp.trans hp, ihd.trans hd, ihs.trans hs, ihc.trans hc,
      fun h => (ihsame (hp.trans h)).trans (hsame h)⟩

theorem LaneRec.consume_cases (r : LaneRec) (e : Option Variant) :
    (r.present = false → r.consume e = r) ∧
    (r.present = true → r.s < r.cfg.usageOf e →
      r.consume e = { r with shortfall := min (r.shortfall + (r.cfg.usageOf e - r.s)) 65535, s := 0, starved := true }) ∧
    (r.present = true → r.cfg.usageOf e ≤ r.s → r.consume e = { r with s := r.s - r.cfg.usageOf e }) := by
  refine ⟨fun hp => ?_, fun hp hs => ?_, fun hp hs => ?_⟩
  · simp [LaneRec.consume, hp]
  · simp [LaneRec.consume, hp, hs, sat16]
  · simp [LaneRec.consume, hp, Nat.not_lt.mpr hs]

/-! ## The pacer side of a frame taken (R5, R7) -/

theorem State.standBy_pacer (s : State) (u : UnitNotice) :
    (s.standBy u).pacer =
      if s.start.role = .pacer then { s.pacer with state := .standby, nLocal := u.n } else s.pacer := by
  unfold State.standBy; split <;> rfl

/-- Outside TRAIN role no run is opened. -/
theorem State.not_mayOpen_of_role {s : State} (h : s.start.role ≠ .train) : s.mayOpen = false := by
  simp [State.mayOpen, h]

/-! ## The event of a frame taken -/

/-- The event leaves the lanes but for the marks, and the book. -/
theorem State.endEvent_of_same {s t : State} (hb : s.bookSettled = true) (hbook : t.book = s.book)
    (hlanes : t.lanes = s.lanes) :
    t.endEvent.book = s.book ∧ ∀ l, (t.endEvent.lane l).steady = (s.lane l).steady := by
  obtain ⟨-, -, hnone⟩ := State.bookTakes_endEvent hb (State.requests.none hb hbook not_false)
  exact ⟨hnone not_false, fun l => by rw [State.endEvent_steady, State.lane_congr hlanes]⟩

/-- The event has forecast the lanes and takes up the request that the forecasts make. -/
theorem State.forecastFrom.endEvent (h : s.forecastFrom x t) (hsync : x.synced = true) (hb : s.bookSettled = true)
    (hpres : ∀ l, (x.lane l).present = (s.lane l).present) :
    (∀ l, (s.lane l).present = true → t.endEvent.isForecast l) ∧
      s.bookTakes t.endEvent (∃ l, (s.lane l).present = true ∧ (t.endEvent.lane l).needs) := by
  refine ⟨fun l hl => State.isForecast_endEvent (h.isForecast (by rw [hpres, hl])), ?_⟩
  have hneeds : (∃ l, (x.lane l).present = true ∧ (t.lane l).needs) =
      ∃ l, (s.lane l).present = true ∧ (t.endEvent.lane l).needs :=
    propext (exists_congr fun l => and_congr (by rw [hpres]) (t.needs_endEvent l).symm)
  exact State.bookTakes_endEvent hb (hneeds ▸ h.requests hsync hb)

/-- Lanes forecast, and not otherwise changed, keep stock, delivery, totals and call state. -/
theorem State.forecastFrom.endEvent_lane (h : s.forecastFrom x t) (l : LaneIx) :
    (t.endEvent.lane l).stock = (x.lane l).stock ∧ (t.endEvent.lane l).delivery = (x.lane l).delivery ∧
    (t.endEvent.lane l).surplus = (x.lane l).surplus ∧ (t.endEvent.lane l).call = (x.lane l).call ∧
    (t.endEvent.lane l).cfg = (x.lane l).cfg ∧
    ((x.lane l).present = false → (t.endEvent.lane l).steady = (x.lane l).steady) := by
  obtain ⟨hstock, hdelivery, -, hcfg, hcall, hsurplus, -⟩ := t.endEvent_lane l
  obtain ⟨hstock', hdelivery', -, hcfg', hcall', hsurplus', -⟩ := LaneRec.of_sansForecast (h.keeps l)
  refine ⟨hstock.trans hstock', hdelivery.trans hdelivery', hsurplus.trans hsurplus', hcall.trans hcall',
    hcfg.trans hcfg', fun hp => ?_⟩
  rw [State.endEvent_steady, h.lane, if_neg (by simp [hp])]

/-- The station that takes the frame: its receive side hunts, and a pacer is in STANDBY with the heard N. -/
def State.taker (s : State) (u : UnitNotice) : State := s.hunting.standBy u

theorem State.taker_frame (s : State) (u : UnitNotice) :
    (s.taker u).start = s.start ∧ (s.taker u).prof = s.prof ∧ (s.taker u).cnt = s.cnt ∧
    (s.taker u).air = { s.air with rx := .hunting } ∧ (s.taker u).line = s.line ∧ (s.taker u).lanes = s.lanes ∧
    (s.taker u).runs = s.runs ∧ (s.taker u).book = s.book ∧ (s.taker u).planner = s.planner ∧
    (s.taker u).panel = s.panel := by
  simp [State.taker, State.hunting]

theorem State.taker_pacer (s : State) (u : UnitNotice) :
    (s.taker u).pacer =
      if s.start.role = .pacer then { s.pacer with state := .standby, nLocal := u.n } else s.pacer := by
  rw [State.taker, State.standBy_pacer]; rfl

/-- A UNIT taken is one event of the follower side. -/
theorem exec_unit_taken {s : State} {src n0 n1 t0 t1 a3 a2 a1 a0 : Byte} (h : s.hears src = true)
    (ht : s.takesFrom src = true) (ha : ¬(s.start.role = .pacer ∧ s.pacer.state = .active)) :
    exec (.unit src [n0, n1, t0, t1, a3, a2, a1, a0]) s =
      .next ((s.taker ⟨word n0 n1, word t0 t1, a3, a2, a1, a0⟩).processUnit src
        ⟨word n0 n1, word t0 t1, a3, a2, a1, a0⟩).endEvent := by
  rw [exec_unit_of_hears h, State.taker, State.takeUnit_taken (s := s.hunting) rfl ha ht]

/-- A frame ahead by 1 to 255, before the window moves: the follower side as heard, and the gap counted. -/
def State.advanced (s : State) (src : Byte) (u : UnitNotice) : State :=
  { s.heardFrom src u with line.n := u.n, cnt.gap := sat16 (s.cnt.gap + (s.ahead u - 4)) }

/-- A frame too far ahead, before the window is rebuilt: the follower side as heard, and the resync counted. -/
def State.resynced (s : State) (src : Byte) (u : UnitNotice) : State :=
  { s.heardFrom src u with line.n := u.n, cnt.resync := bump16 s.cnt.resync }

/-- The window has moved by d and the leaving units are consumed, before the forecasts. -/
def State.windowMoved (s : State) (u : UnitNotice) (d : Nat) : State :=
  ({ s with line.window := (s.line.window ++ u.newest d).drop d } : State).consumeUnits
    ((s.line.window ++ u.newest d).take d)

theorem State.advanceWindow_of_rack {s : State} (h : s.start.role = .rack) (u : UnitNotice) (d : Nat) :
    s.advanceWindow u d = (s.windowMoved u d).forecastAll := by
  simp only [State.advanceWindow, h, if_true, State.windowMoved]

theorem State.advanceWindow_of_not_rack {s : State} (h : s.start.role ≠ .rack) (u : UnitNotice) (d : Nat) :
    s.advanceWindow u d = s := by
  simp only [State.advanceWindow, h, if_false]

/-- The window is set up from a frame, before the forecasts. -/
def State.windowBuilt (s : State) (u : UnitNotice) : State := { s with line.window := u.newest s.prof.p }

theorem State.buildWindow_of_rack {s : State} (h : s.start.role = .rack) (u : UnitNotice) :
    s.buildWindow u = (s.windowBuilt u).forecastAll := by
  simp only [State.buildWindow, h, if_true, State.windowBuilt]

theorem State.buildWindow_of_not_rack {s : State} (h : s.start.role ≠ .rack) (u : UnitNotice) : s.buildWindow u = s := by
  simp only [State.buildWindow, h, if_false]

/-- The follower side after a frame processed, field by field. -/
theorem State.processUnit_heard (s : State) (src : Byte) (u : UnitNotice) :
    (s.processUnit src u).line.followed = some src ∧ (s.processUnit src u).line.state = .tracking ∧
    (s.processUnit src u).line.n = u.n ∧ (s.processUnit src u).line.takt = clampTakt u.takt ∧
    (s.processUnit src u).line.silence = some (s.start.clock + s.prof.tSilence) := by
  have h := s.processUnit_line src u
  simp only [LineClock.mk.injEq] at h
  obtain ⟨hf, hst, hn, htakt, hsil, -⟩ := h
  exact ⟨hf, hst, hn, htakt, hsil⟩

/-- The state after the event of a UNIT taken. -/
def State.afterUnit (s : State) (src : Byte) (u : UnitNotice) : State := ((s.taker u).processUnit src u).endEvent

theorem State.afterUnit_line (s : State) (src : Byte) (u : UnitNotice) :
    (s.afterUnit src u).line.followed = some src ∧ (s.afterUnit src u).line.state = .tracking ∧
    (s.afterUnit src u).line.n = u.n ∧ (s.afterUnit src u).line.takt = max 10 (min 1200 u.takt.toNat) ∧
    (s.afterUnit src u).line.silence = some (s.start.clock + s.prof.tSilence) := by
  obtain ⟨hstart, hprof, -⟩ := s.taker_frame u
  have h := (s.taker u).processUnit_heard src u
  rw [hstart, hprof] at h
  simpa [State.afterUnit, clampTakt] using h

theorem State.afterUnit_frame (s : State) (src : Byte) (u : UnitNotice) :
    (s.afterUnit src u).start = s.start ∧ (s.afterUnit src u).prof = s.prof ∧ (s.afterUnit src u).runs = s.runs ∧
    (s.afterUnit src u).panel = s.panel := by
  obtain ⟨hstart, hprof, -, -, -, -, hruns, -, -, hpanel⟩ := s.taker_frame u
  simp [State.afterUnit, hstart, hprof, hruns, hpanel]

theorem State.afterUnit_pacer (s : State) (src : Byte) (u : UnitNotice) :
    (s.start.role = .pacer → (s.afterUnit src u).pacer = { s.pacer with state := .standby, nLocal := u.n }) ∧
    (s.start.role ≠ .pacer → (s.afterUnit src u).pacer = s.pacer) := by
  have h : (s.afterUnit src u).pacer = (s.taker u).pacer := by simp [State.afterUnit]
  rw [h, State.taker_pacer]
  exact ⟨fun hr => if_pos hr, fun hr => if_neg hr⟩

/-- Settles O15: the window moves, the leaving units are consumed, and the lanes are forecast on what that leaves. -/
theorem unitAdvanceConsumes : Obligations.UnitAdvanceConsumes := by
  refine ⟨fun r e => r.consume_cases e, ?_⟩
  intro s src n0 n1 t0 t1 a3 a2 a1 a0 hears hsync htakes hact u d w hd hd'
  obtain ⟨-, -, -, hb, -⟩ := (s.hears_iff src).mp hears
  obtain ⟨hstart, hprof, hcnt, hair, hline, hlanes, hruns, hbook, hplanner, hpanel⟩ := s.taker_frame u
  have hahead : (s.taker u).ahead u = d := by rw [State.ahead, hline]
  have hproc : (s.taker u).processUnit src u = ((s.taker u).advanced src u).advanceWindow u d := by
    rw [State.processUnit_of_synced (by rw [hline]; simpa [State.synced] using hsync), hahead, if_neg (by omega),
      if_pos hd', State.advanced, hahead]
  obtain ⟨hf, hst, hn, htakt, hsil⟩ := s.afterUnit_line src u
  obtain ⟨hstart', hprof', hruns', hpanel'⟩ := s.afterUnit_frame src u
  obtain ⟨hpacer, hpacer'⟩ := s.afterUnit_pacer src u
  have hafter : s.afterUnit src u = (((s.taker u).advanced src u).advanceWindow u d).endEvent := by
    rw [State.afterUnit, hproc]
  have hcnt' : (s.afterUnit src u).cnt = { s.cnt with gap := min (s.cnt.gap + (d - 4)) 65535 } := by
    rw [hafter]; simp [State.advanced, hcnt, hahead, State.heardFrom, sat16]
  have hair' : (s.afterUnit src u).air = { s.air with rx := .hunting } := by
    rw [hafter]; simp [State.advanced, hair, State.heardFrom]
  have hplanner' : (s.afterUnit src u).planner = s.planner := by
    rw [hafter]; simp [State.advanced, hplanner, State.heardFrom]
  have hrole : ((s.taker u).advanced src u).start.role = s.start.role := by rw [← hstart]; rfl
  have hbook' : ((s.taker u).advanced src u).book = s.book := hbook
  have hlanes' : ((s.taker u).advanced src u).lanes = s.lanes := hlanes
  by_cases hr : s.start.role = .rack
  · have hwin : ((s.taker u).advanced src u).line.window = s.line.window :=
      (congrArg LineClock.window hline :)
    rw [State.advanceWindow_of_rack (hrole.trans hr)] at hafter
    have hx : ∀ l, (((s.taker u).advanced src u).windowMoved u d).lane l =
        (w.take d).foldl (fun r e => r.consume e) (s.lane l) := fun l => by
      rw [State.windowMoved, State.consumeUnits_lane, hwin]
      exact congrArg (fun r => (w.take d).foldl (fun r e => r.consume e) r) (State.lane_congr hlanes' l)
    have hfrom : s.forecastFrom (((s.taker u).advanced src u).windowMoved u d) _ :=
      State.forecastAll_from (by simp [State.synced, State.windowMoved, State.advanced, State.heardFrom])
        (by simpa [State.windowMoved] using hbook')
    obtain ⟨hcast, htake⟩ := hfrom.endEvent (by simp [State.synced, State.windowMoved, State.advanced, State.heardFrom]) hb
      fun l => by rw [hx]; exact (LaneRec.consumed_keeps _ _).1
    rw [← hafter] at hcast htake
    have hlane := fun l => hfrom.endEvent_lane l
    simp only [← hafter, hx] at hlane
    have hconsumed := fun l => LaneRec.consumed_keeps (w.take d) (s.lane l)
    have hwindow : (s.afterUnit src u).line.window = w.drop d := by
      rw [hafter]; simp [State.windowMoved, hwin]; rfl
    refine ⟨s.afterUnit src u, exec_unit_taken hears htakes hact, hn, hf, hst, htakt, hsil, hcnt',
      fun _ => ⟨hwindow, fun l => (hlane l).1, hcast, htake⟩, fun hc => absurd hr hc, fun l hp => ?_, fun l => ?_, hpacer,
      hpacer', hstart', hprof', hruns', hplanner', hpanel', hair'⟩
    · obtain ⟨hp', -, -, -, hsame⟩ := hconsumed l
      obtain ⟨-, -, -, -, -, hsteady⟩ := hlane l
      rw [hsteady (hp'.trans hp), hsame hp]
    · obtain ⟨-, hd, hs, -, -⟩ := hconsumed l
      obtain ⟨-, hd', hs', -⟩ := hlane l
      exact ⟨hd'.trans hd, hs'.trans hs⟩
  · rw [State.advanceWindow_of_not_rack (by rw [hrole]; exact hr)] at hafter
    obtain ⟨hsame, hsteady⟩ := State.endEvent_of_same hb hbook' hlanes'
    rw [← hafter] at hsame hsteady
    have hwindow : (s.afterUnit src u).line.window = s.line.window := by
      rw [hafter, (State.endEvent_frame _).2.2.2.2.1]; exact (congrArg LineClock.window hline :)
    refine ⟨s.afterUnit src u, exec_unit_taken hears htakes hact, hn, hf, hst, htakt, hsil, hcnt',
      fun hc => absurd hc hr, fun _ => ⟨hwindow, hsame, hsteady⟩, fun l _ => hsteady l, fun l => ?_, hpacer,
      hpacer', hstart', hprof', hruns', hplanner', hpanel', hair'⟩
    obtain ⟨-, hd, -, -, -, hs, -⟩ := LaneRec.of_steady (hsteady l)
    exact ⟨hd, hs⟩

end Sys2Proof.Machine
end

section
/-! PROOFS. A keepalive and a resync (R12, R13), adoption (R11, R17, R106), and the end of the listen period (R196). -/

namespace Sys2Proof.Machine

theorem State.heardFrom_line {s t : State} (hl : t.line = s.line) (hs : t.start = s.start) (hp : t.prof = s.prof)
    (src : Byte) (u : UnitNotice) :
    (t.heardFrom src u).line = { s.line with
      followed := some src, state := .tracking, takt := max 10 (min 1200 u.takt.toNat)
      silence := some (s.start.clock + s.prof.tSilence) } := by
  simp [State.heardFrom, hl, State.deadline, hs, hp, clampTakt]

/-- The window set up in RACK role, from the side of the lanes: they stand, and are forecast on the new window. -/
theorem State.windowBuilt_from {s y : State} (hb : s.bookSettled = true) (hbook : y.book = s.book)
    (hlanes : y.lanes = s.lanes) (hsync : y.synced = true) (u : UnitNotice) :
    let t := (y.windowBuilt u).forecastAll.endEvent
    (∀ l, (s.lane l).present = true → t.isForecast l) ∧
      s.bookTakes t (∃ l, (s.lane l).present = true ∧ (t.lane l).needs) ∧
      ∀ l, (t.lane l).stock = (s.lane l).stock ∧ (t.lane l).delivery = (s.lane l).delivery ∧
        (t.lane l).call = (s.lane l).call ∧ (t.lane l).cfg = (s.lane l).cfg ∧
        ((s.lane l).present = false → (t.lane l).steady = (s.lane l).steady) := by
  have hx : ∀ l, (y.windowBuilt u).lane l = s.lane l := fun l => State.lane_congr hlanes l
  have hsync' : (y.windowBuilt u).synced = true := hsync
  have hfrom : s.forecastFrom (y.windowBuilt u) _ := State.forecastAll_from hsync' hbook
  obtain ⟨hcast, htake⟩ := hfrom.endEvent hsync' hb fun l => by rw [hx]
  refine ⟨hcast, htake, fun l => ?_⟩
  obtain ⟨hstock, hdelivery, -, hcall, hcfg, hsteady⟩ := hfrom.endEvent_lane l
  rw [hx] at hstock hdelivery hcall hcfg hsteady
  exact ⟨hstock, hdelivery, hcall, hcfg, hsteady⟩

theorem State.steady_kept {s t : State} (h : ∀ l, (t.lane l).steady = (s.lane l).steady) (l : LaneIx) :
    (t.lane l).stock = (s.lane l).stock ∧ (t.lane l).delivery = (s.lane l).delivery := by
  obtain ⟨hs, hd, -⟩ := LaneRec.of_steady (h l)
  exact ⟨hs, hd⟩

/-- Settles O16. -/
theorem keepaliveOrResyncConsumesNothing : Obligations.KeepaliveOrResyncConsumesNothing := by
  intro s src n0 n1 t0 t1 a3 a2 a1 a0 hears hsync htakes hact u d heard hd
  obtain ⟨-, -, -, hb, -⟩ := (s.hears_iff src).mp hears
  obtain ⟨hstart, hprof, hcnt, hair, hline, hlanes, hruns, hbook, hplanner, hpanel⟩ := s.taker_frame u
  have hahead : (s.taker u).ahead u = d := by rw [State.ahead, hline]
  have hproc := State.processUnit_of_synced (s := s.taker u) (by rw [hline]; simpa [State.synced] using hsync) src u
  have hheard : ((s.taker u).heardFrom src u).line = heard := State.heardFrom_line hline hstart hprof src u
  obtain ⟨hstart', hprof', hruns', hpanel'⟩ := s.afterUnit_frame src u
  obtain ⟨hpacer, hpacer'⟩ := s.afterUnit_pacer src u
  rw [hahead] at hproc
  have hafter0 : s.afterUnit src u = ((s.taker u).processUnit src u).endEvent := rfl
  rcases hd with hd | hd
  · have hafter : s.afterUnit src u = ((s.taker u).heardFrom src u).endEvent := by rw [hafter0, hproc, if_pos hd]
    obtain ⟨hsame, hsteady⟩ := State.endEvent_of_same (t := (s.taker u).heardFrom src u) hb hbook hlanes
    rw [← hafter] at hsame hsteady
    refine ⟨s.afterUnit src u, exec_unit_taken hears htakes hact, fun _ => ⟨?_, ?_, hsame, hsteady⟩, fun hc => by omega,
      State.steady_kept hsteady, hpacer, hpacer', hstart', hprof', hruns', ?_, hpanel', ?_⟩ <;> rw [hafter] <;>
      simp only [State.endEvent_frame]
    exacts [hheard, hcnt, hplanner, hair]
  · have hafter : s.afterUnit src u = (((s.taker u).resynced src u).buildWindow u).endEvent := by
      rw [hafter0, hproc, if_neg (by omega), if_neg (by omega)]; rfl
    have hcnt' : (s.afterUnit src u).cnt = { s.cnt with resync := min (s.cnt.resync + 1) 65535 } := by
      rw [hafter]; simp [State.resynced, hcnt, State.heardFrom, bump16, sat16]
    have hair' : (s.afterUnit src u).air = { s.air with rx := .hunting } := by
      rw [hafter]; simp [State.resynced, hair, State.heardFrom]
    have hplanner' : (s.afterUnit src u).planner = s.planner := by
      rw [hafter]; simp [State.resynced, hplanner, State.heardFrom]
    have hrole : ((s.taker u).resynced src u).start.role = s.start.role := by rw [← hstart]; rfl
    have hline' : ((s.taker u).resynced src u).line = { heard with n := u.n } := by rw [← hheard]; rfl
    by_cases hr : s.start.role = .rack
    · rw [State.buildWindow_of_rack (hrole.trans hr)] at hafter
      obtain ⟨hcast, htake, hlane⟩ :=
        State.windowBuilt_from (y := (s.taker u).resynced src u) hb hbook hlanes rfl u
      rw [← hafter] at hcast htake
      simp only [← hafter] at hlane
      have hwindow : (s.afterUnit src u).line = { heard with
          n := u.n, window := List.replicate (s.prof.p - 4) none ++ u.heard.drop (4 - s.prof.p) } := by
        have hp : ((s.taker u).resynced src u).prof = s.prof := hprof
        rw [hafter]
        simp only [State.endEvent_frame, State.forecastAll_frame, State.windowBuilt, hline', hp]
        rfl
      refine ⟨s.afterUnit src u, exec_unit_taken hears htakes hact, fun hc => by omega,
        fun _ => ⟨hcnt', fun _ => ⟨hwindow, hcast, fun l hl => ?_, htake⟩, fun hc => absurd hr hc⟩, fun l => ?_, hpacer,
        hpacer', hstart', hprof', hruns', hplanner', hpanel', hair'⟩
      · obtain ⟨-, -, -, -, hsteady⟩ := hlane l
        exact hsteady hl
      · obtain ⟨hstock, hdelivery, -⟩ := hlane l
        exact ⟨hstock, hdelivery⟩
    · rw [State.buildWindow_of_not_rack (by rw [hrole]; exact hr)] at hafter
      obtain ⟨hsame, hsteady⟩ := State.endEvent_of_same (t := (s.taker u).resynced src u) hb hbook hlanes
      rw [← hafter] at hsame hsteady
      have hn : (s.afterUnit src u).line = { heard with n := u.n } := by
        rw [hafter, (State.endEvent_frame _).2.2.2.2.1, hline']
      exact ⟨s.afterUnit src u, exec_unit_taken hears htakes hact, fun hc => by omega,
        fun _ => ⟨hcnt', fun hc => absurd hc hr, fun _ => ⟨hn, hsame, hsteady⟩⟩, State.steady_kept hsteady, hpacer,
        hpacer', hstart', hprof', hruns', hplanner', hpanel', hair'⟩

end Sys2Proof.Machine
end

section
/-! PROOFS. Adoption (R11, R17, R106) and the end of the listen period (R196). -/

namespace Sys2Proof.Machine

/-! ## A run opened with its notices (R106) -/

theorem State.openAndAnnounce_sansDrop (s : State) : s.openAndAnnounce.cnt.sansDrop = s.cnt.sansDrop := by
  rcases h : s.mayOpen with _ | _
  · rw [State.openAndAnnounce_of_not h]
  · rw [State.openAndAnnounce_of_may h, State.announceAll_sansDrop]; rfl

theorem Counters.of_sansDrop {c c' : Counters} (h : c.sansDrop = c'.sansDrop) :
    c.resync = c'.resync ∧ c.gap = c'.gap ∧ c.conflict = c'.conflict ∧ c.crc = c'.crc ∧ c.broken = c'.broken ∧
    c.length = c'.length ∧ c.source = c'.source ∧ c.kind = c'.kind ∧ c.overrun = c'.overrun ∧ c.clash = c'.clash ∧
    c.bookfull = c'.bookfull ∧ c.rundrop = c'.rundrop ∧ c.double = c'.double ∧ c.phantom = c'.phantom := by
  cases c; cases c'; simp only [Counters.sansDrop, Counters.mk.injEq] at h; simp [h]

/-- The run opened, with its notice where the queue has room for one of each run held. -/
theorem State.openAndAnnounce_planner {s : State} (h : s.mayOpen = true) :
    s.openAndAnnounce.planner = { s.planner with
      planning := some s.openedRun, nextRun := s.planner.nextRun + 1 } ∧
    s.openAndAnnounce.book = { s.book with asked := true } ∧
    (s.air.txq.length + s.planner.current.toList.length < 8 →
      ∃ f ∈ s.openAndAnnounce.air.txq, f.kind = .run ∧
        f.payload.take 3 = bytes2 (s.ownByte ++ s.planner.nextRun) ++ [0]) := by
  rw [State.openAndAnnounce_of_may h]
  refine ⟨by simp [State.opened], by simp [State.opened], fun hroom => ?_⟩
  exact State.announceAll_mem_planning (s := s.opened) (State.announces_of_may h) rfl hroom

theorem Option.toList_length_le {α : Type} (o : Option α) : o.toList.length ≤ 1 := by cases o <;> simp

/-! ## Adoption (R11) -/

/-- The follower side of a frame adopted. -/
def State.adopted (s : State) (src : Byte) (u : UnitNotice) : State := { s.heardFrom src u with line.n := u.n }

theorem State.afterUnit_of_unsynced {s : State} (hs : s.line.state = .unsynced) (src : Byte) (u : UnitNotice) :
    s.afterUnit src u = ((((s.taker u).adopted src u).buildWindow u).openAndAnnounce).endEvent := by
  rw [State.afterUnit, State.processUnit_of_unsynced (by rw [(s.taker_frame u).2.2.2.2.1]; exact hs)]
  rfl

theorem State.isForecast_values {t : State} {l : LaneIx} (h : t.isForecast l) :
    ∃ f, (t.lane l).forecast = some f ∧ f.rref = f.r + BitVec.ofNat 16 t.prof.p ∧
      (t.lane l).cond = decide (offset t.line.n f.rref ≤ (t.lane l).cfg.horizon) := by
  obtain ⟨hf, hc⟩ := h
  exact ⟨_, hf, rfl, hc⟩

/-- Settles O14, by role: a rack sets up its window and forecasts, a train may open a run, a pacer stands by. -/
theorem unitAdoptionSetsClock : Obligations.UnitAdoptionSetsClock := by
  intro s src n0 n1 t0 t1 a3 a2 a1 a0 hears hsync htakes hact u
  obtain ⟨-, -, -, hb, -⟩ := (s.hears_iff src).mp hears
  obtain ⟨hasked, -, -⟩ := (s.bookSettled_iff).mp hb
  obtain ⟨hstart, hprof, hcnt, hair, hline, hlanes, hruns, hbook, hplanner, hpanel⟩ := s.taker_frame u
  obtain ⟨hf, hst, hn, htakt, hsil⟩ := s.afterUnit_line src u
  obtain ⟨hstart', hprof', hruns', hpanel'⟩ := s.afterUnit_frame src u
  obtain ⟨hpacer, -⟩ := s.afterUnit_pacer src u
  have hafter := State.afterUnit_of_unsynced (s := s) (by simpa [State.synced] using hsync) src u
  have hstart'' : ((s.taker u).adopted src u).start = s.start := hstart
  have hrole : ((s.taker u).adopted src u).start.role = s.start.role := by rw [hstart'']
  have hcnt' : (s.afterUnit src u).cnt.sansDrop = s.cnt.sansDrop := by
    rw [hafter, (State.endEvent_frame _).2.2.1, State.openAndAnnounce_sansDrop, (State.buildWindow_frame _ u).2.2.1,
      ← hcnt]
    rfl
  obtain ⟨hresync, hgap, hconf, -⟩ := Counters.of_sansDrop hcnt'
  have hpacer' : s.start.role = .pacer → (s.afterUnit src u).pacer.state = .standby ∧
      (s.afterUnit src u).pacer.nLocal = u.n := fun hr => by rw [hpacer hr]; exact ⟨rfl, rfl⟩
  have hfix : s.start.role ≠ .train → ((((s.taker u).adopted src u).buildWindow u).openAndAnnounce) =
      ((s.taker u).adopted src u).buildWindow u := fun hr =>
    State.openAndAnnounce_of_not (State.not_mayOpen_of_role
      (by rw [(State.buildWindow_frame _ u).1, hrole]; exact hr))
  have hothers : s.start.role ≠ .train → (s.afterUnit src u).planner = s.planner ∧
      (s.afterUnit src u).air = { s.air with rx := .hunting } := fun hr => by
    rw [hafter, hfix hr]
    simp only [State.endEvent_frame, State.buildWindow_frame]
    exact ⟨hplanner, hair⟩
  by_cases hrack : s.start.role = .rack
  · have hnt : s.start.role ≠ .train := by simp [hrack]
    rw [hfix hnt, State.buildWindow_of_rack (hrole.trans hrack)] at hafter
    obtain ⟨hcast, ⟨hidle, hbusy, hstands⟩, hlane⟩ :=
      State.windowBuilt_from (y := (s.taker u).adopted src u) hb hbook hlanes rfl u
    rw [← hafter] at hcast hidle hbusy hstands
    simp only [← hafter] at hlane
    have hwindow : (s.afterUnit src u).line.window =
        List.replicate (s.prof.p - 4) none ++ u.heard.drop (4 - s.prof.p) := by
      have hp : ((s.taker u).adopted src u).prof = s.prof := hprof
      rw [hafter]
      simp only [State.endEvent_frame, State.forecastAll_frame, State.windowBuilt, hp]
      rfl
    have hneed : (∃ l, (s.lane l).present = true ∧ ((s.afterUnit src u).lane l).needs) ↔
        ∃ l, (s.lane l).present = true ∧
          (((s.lane l).call = .quiet ∧ ((s.afterUnit src u).lane l).cond = true) ∨
            (((s.lane l).call = .calling ∨ (s.lane l).call = .waiting ∨ (s.lane l).call = .admitted) ∧
              ((s.afterUnit src u).lane l).cond = false)) :=
      exists_congr fun l => and_congr_right fun _ => by rw [LaneRec.needs, (hlane l).2.2.1]
    refine ⟨s.afterUnit src u, exec_unit_taken hears htakes hact, hn, hf, hst, htakt, hsil, hresync, hgap, hconf,
      fun l => ?_, fun _ => ⟨hwindow, fun l hl => ?_, fun h hi => ?_, fun h hi => ?_, fun h => ?_⟩,
      fun hc => absurd hc hnt, hothers, fun hc => absurd hrack hc, hpacer', hstart', hprof', hruns', hpanel'⟩
    · obtain ⟨hstock, hdelivery, -⟩ := hlane l
      exact ⟨hstock, hdelivery⟩
    · obtain ⟨f, hfc, hrref, hcond⟩ := State.isForecast_values (hcast l hl)
      rw [hprof'] at hrref
      rw [hn, (hlane l).2.2.2.1] at hcond
      exact ⟨f, hfc, hrref, hcond⟩
    · obtain ⟨op, hop, -, -, -, -, hlanes'⟩ := hidle (hneed.mpr h) hi
      exact ⟨op, hop, fun l => (hlanes' l).2⟩
    · exact hbusy (hneed.mpr h) hi
    · exact hstands fun hc => h (hneed.mp hc)
  · rw [State.buildWindow_of_not_rack (by rw [hrole]; exact hrack)] at hafter
    have hlanes' : ∀ l, ((s.afterUnit src u).lane l).stock = (s.lane l).stock ∧
        ((s.afterUnit src u).lane l).delivery = (s.lane l).delivery := fun l => by
      have hl : (((s.taker u).adopted src u).openAndAnnounce).lane l = s.lane l :=
        State.lane_congr (by rw [(State.openAndAnnounce_frame _).2.2.2.2.1]; exact hlanes) l
      obtain ⟨hstock, hdelivery⟩ := (((s.taker u).adopted src u).openAndAnnounce).endEvent_kept l
      rw [hafter, hstock, hdelivery, hl]
      exact ⟨rfl, rfl⟩
    have hmay : s.start.role = .train → (((s.taker u).adopted src u).mayOpen = true ↔
        s.isActive = true ∧ s.planner.planning = none ∧ ∀ r, s.planner.current = some r → r.state ≠ .loading) :=
      fun hr => by
        have hp : ((s.taker u).adopted src u).planner = s.planner := hplanner
        have ha : ((s.taker u).adopted src u).isActive = s.isActive := by rw [State.isActive, hstart'']; rfl
        rw [State.mayOpen_iff, hrole, hp, ha]
        simp [hr, State.synced, State.adopted, State.heardFrom]
    refine ⟨s.afterUnit src u, exec_unit_taken hears htakes hact, hn, hf, hst, htakt, hsil, hresync, hgap, hconf,
      hlanes', fun hc => absurd hc hrack, fun hr => ⟨fun ho => ?_, fun ho => ?_, ?_⟩, hothers, fun _ hr => ?_, hpacer',
      hstart', hprof', hruns', hpanel'⟩
    · obtain ⟨hpl, -, hmem⟩ := State.openAndAnnounce_planner ((hmay hr).mpr ho)
      have howned : ((s.taker u).adopted src u).ownByte = s.ownByte := by rw [State.ownByte, hstart'']; rfl
      have hplan : ((s.taker u).adopted src u).planner = s.planner := hplanner
      have hrun : ((s.taker u).adopted src u).prof = s.prof := hprof
      have htxq : ((s.taker u).adopted src u).air.txq = s.air.txq := (congrArg Air.txq hair :)
      rw [hafter]
      simp only [State.endEvent_frame]
      rw [hplan] at hpl
      refine ⟨_, hpl, ?_, rfl, ?_, rfl, ?_, fun hroom => ?_⟩
      · rw [State.openedRun, howned, hplan]
      · rw [State.openedRun, hrun]
      · rw [State.openedRun, hstart'']
      · rw [State.openedRun]
        refine hmem ?_
        have := Option.toList_length_le ((s.taker u).adopted src u).planner.current
        rw [htxq]
        omega
    · have hno : ((s.taker u).adopted src u).mayOpen = false := by
        simpa using mt (hmay hr).mp ho
      rw [hafter, State.openAndAnnounce_of_not hno]
      simp only [State.endEvent_frame]
      exact ⟨hplanner, hair⟩
    · rw [hafter]
      refine State.bookTakes_endEvent hb ?_
      by_cases ho : ((s.taker u).adopted src u).mayOpen = true
      · obtain ⟨-, hbk, -⟩ := State.openAndAnnounce_planner ho
        have hbk' : ((s.taker u).adopted src u).book = s.book := hbook
        rw [hbk'] at hbk
        exact ⟨iff_of_true (by rw [hbk]) ((hmay hr).mp ho), by rw [hbk, ← hasked]⟩
      · rw [State.openAndAnnounce_of_not (by simpa using ho)]
        exact .none hb hbook (mt (hmay hr).mpr ho)
    · rw [hafter, State.openAndAnnounce_of_not (State.not_mayOpen_of_role (by rw [hrole]; exact hr))]
      exact (State.endEvent_of_same (t := (s.taker u).adopted src u) hb hbook hlanes).1

/-! ## The end of the listen period (R196) -/

/-- The start state as it becomes ACTIVE, before the role's timers start. -/
def State.activated (s : State) : State := { s with start.state := .active, start.listenEnd := none }

theorem exec_listenPeriodEnd {s : State} (hst : s.start.state = .listen) (hlow : s.start.resetLow = false)
    (hdue : s.due s.start.listenEnd = true) :
    exec .listenPeriodEnd s = .next s.activated.enterRole.endEvent := by
  have hw : s.working = true := State.working_iff.mpr ⟨hlow, .inl hst⟩
  have heq : s.listenEnds = s.activated.enterRole := by
    rw [State.listenEnds, if_pos ⟨hst, by simp [hlow], hdue⟩]; rfl
  simp only [exec, execListenPeriodEnd, hw, if_true, State.event, heq]

/-- A rack as it starts its refresh timer and requests a refresh. -/
def State.rackEntered (s : State) : State :=
  { s.activated with book.refresh := some (s.deadline s.prof.tRefresh), book.askedRefresh := true }

/-- A train as it starts its refresh timer. -/
def State.trainEntered (s : State) : State :=
  { s.activated with planner.refresh := some (s.deadline s.prof.tRefresh) }

theorem State.enterRole_rack {s : State} (h : s.start.role = .rack) : s.activated.enterRole = s.rackEntered := by
  have hr : s.activated.start.role = .rack := h
  simp only [State.enterRole, hr]; rfl

theorem State.enterRole_train {s : State} (h : s.start.role = .train) :
    s.activated.enterRole = s.trainEntered.openAndAnnounce := by
  have hr : s.activated.start.role = .train := h
  simp only [State.enterRole, hr]; rfl

theorem State.enterRole_pacer {s : State} (h : s.start.role = .pacer) :
    s.activated.enterRole = if s.pacer.state = .listen then s.activated.enterActive else s.activated := by
  have hr : s.activated.start.role = .pacer := h
  simp only [State.enterRole, hr]; rfl

/-- The refresh requested starts an operation on an idle book, and is owed on a busy one. -/
theorem State.rackEntered_book (s : State) :
    (s.busy = false → ∃ op, s.rackEntered.endEvent.book.op = some op ∧ op.refresh = true) ∧
    (s.busy = true → s.rackEntered.endEvent.book.op = s.book.op ∧ s.rackEntered.endEvent.book.refreshDue = true) := by
  obtain ⟨hbusy, hidle, -⟩ := s.rackEntered.endEvent_op
  refine ⟨fun h => ?_, fun h => ?_⟩
  · obtain ⟨op, hop, hr, -⟩ := hidle h (.inr rfl)
    exact ⟨op, hop, by rw [hr]; exact Bool.or_true _⟩
  · obtain ⟨hop, hr, -⟩ := hbusy h
    exact ⟨hop, by rw [hr]; exact Bool.or_true _⟩

theorem State.trainEntered_may {s : State} (hr : s.start.role = .train) (hs : s.synced = true)
    (hc : s.planner.current = none) (hp : s.planner.planning = none) : s.trainEntered.mayOpen = true := by
  refine (State.mayOpen_iff _).mpr ⟨hr, rfl, hs, hp, fun r h => ?_⟩
  rw [show s.trainEntered.planner.current = none from hc] at h
  cases h

/-- Settles O11, by role. -/
theorem listenEndEntersActive : Obligations.ListenEndEntersActive := by
  intro s hst hlow hdue
  refine ⟨_, exec_listenPeriodEnd hst hlow hdue, by simp [State.activated], by simp [State.activated],
    by simp [State.activated], by simp [State.activated], fun hr => ?_, fun hr => ?_, fun hr => ?_⟩
  · rw [State.enterRole_rack hr]
    obtain ⟨hidle, hbusy⟩ := s.rackEntered_book
    exact ⟨by rw [s.rackEntered.endEvent_book.2.1]; rfl, hidle, hbusy, by simp [State.rackEntered, State.activated]⟩
  · rw [State.enterRole_train hr]
    simp only [State.endEvent_frame]
    rcases hmay : s.trainEntered.mayOpen with _ | _
    · rw [State.openAndAnnounce_of_not hmay]
      refine ⟨rfl, fun hs hc hp => ?_, fun _ => ⟨rfl, rfl⟩⟩
      rw [State.trainEntered_may hr hs hc hp] at hmay
      cases hmay
    · obtain ⟨hpl, -, hmem⟩ := State.openAndAnnounce_planner hmay
      rw [hpl]
      refine ⟨rfl, fun _ hc _ => ⟨_, rfl, rfl, rfl, rfl, fun hroom => hmem ?_⟩, fun hs => ?_⟩
      · have hcur : s.trainEntered.planner.current = none := hc
        rw [hcur]
        simpa [State.txRoom, State.trainEntered, State.activated] using hroom
      · obtain ⟨-, -, hsync, -⟩ := (State.mayOpen_iff _).mp hmay
        rw [show s.trainEntered.synced = s.synced from rfl, hs] at hsync
        cases hsync
  · rw [State.enterRole_pacer hr]
    simp only [State.endEvent_frame]
    refine ⟨fun hl => ?_, fun hl => ?_⟩
    · rw [if_pos hl, State.enterActive_line, State.enterActive_pacer]
      exact ⟨rfl, rfl, rfl, rfl, rfl, rfl, fun hroom => State.enterActive_mem (s := s.activated) rfl hroom⟩
    · rw [if_neg hl]
      exact ⟨rfl, rfl, rfl⟩

end Sys2Proof.Machine
end

section
/-! PROOFS. A FEED: the stock it leaves, the overfill mark, the delivery it is counted against, the forecast and the
request of its lane, and what it leaves of the other lanes (R26, R27, R43, R51, R132, R133, R150). -/

namespace Sys2Proof.Machine

/-! ## Views of a lane whose face is worked -/

/-- Records equal but for what the face shows stay so under every restaging of another lane. -/
theorem LaneRec.commit_unlit (r : LaneRec) : r.commit.unlit = r.unlit := by
  simp only [LaneRec.commit]; split <;> rfl

theorem State.trigger_unlit (s : State) (k : Bank) (m : LaneIx) : ((s.trigger k).lane m).unlit = (s.lane m).unlit := by
  rw [State.trigger_lane]; split
  · exact LaneRec.commit_unlit _
  · rfl

theorem State.restage_unlit_ne (s : State) {l m : LaneIx} (h : m ≠ l) :
    ((s.restage l).lane m).unlit = (s.lane m).unlit := by
  unfold State.restage
  dsimp only
  split
  · rfl
  split
  · rw [State.lane_setLane_ne s h]
  split
  · rw [State.trigger_unlit, State.lane_setLane_ne s h]
  · rw [State.lane_setLane_ne s h]

/-- A staged value that stands as it ought to is not written. -/
theorem State.restage_of_staged {s : State} {l : LaneIx} (h : (s.lane l).stagedFor = (s.lane l).staged) :
    s.restage l = s := by
  simp [State.restage, h]

/-- A staged value written while the face is OPEN is shown at once (R151). -/
theorem State.restage_lane_open {s : State} {l : LaneIx} (hp : (s.lane l).present = true)
    (hopen : (s.bank (bankOf l)).faceOpen = true) (hne : (s.lane l).stagedFor ≠ (s.lane l).staged) :
    (s.restage l).lane l =
      { s.lane l with staged := (s.lane l).stagedFor, shown := (s.lane l).stagedFor, fresh := false } := by
  simp [State.restage, hp, hopen, hne]

theorem State.moveLane_unlit_ne (s : State) {l m : LaneIx} (h : m ≠ l) (f : LaneRec → LaneRec) :
    ((s.moveLane l f).lane m).unlit = (s.lane m).unlit := by
  rw [(s.moveLane_cells l f m .a).1, State.restage_unlit_ne _ h, State.lane_modLane, if_neg h]

theorem State.moveLane_lane_of_staged {s : State} {l : LaneIx} {f : LaneRec → LaneRec}
    (h : (f (s.lane l)).stagedFor = (f (s.lane l)).staged) :
    (s.moveLane l f).lane l = { f (s.lane l) with moved := true } := by
  rw [(s.moveLane_cells l f l .a).1, State.restage_of_staged]
  · rw [State.lane_modLane_same]
  · rw [State.lane_modLane_same]; exact h

/-! ## The overfill mark (R150) -/

theorem State.markOverfill_sansFace (s : State) (l : LaneIx) :
    ((s.markOverfill l).lane l).sansFace =
      ({ s.lane l with overfill := (s.lane l).overfill || (s.bank (bankOf l)).faceOpen } : LaneRec).sansFace := by
  unfold State.markOverfill
  split
  next h => rw [State.restage_sansFace, State.lane_modLane_same, h, Bool.or_true]
  next h => simp [h]

theorem State.markOverfill_unlit_ne (s : State) {l m : LaneIx} (h : m ≠ l) :
    ((s.markOverfill l).lane m).unlit = (s.lane m).unlit := by
  unfold State.markOverfill
  split
  · rw [State.restage_unlit_ne _ h, State.lane_modLane, if_neg h]
  · rfl

/-- An overfill mark set under an OPEN face shows FAST, unless FAST is staged already. -/
theorem State.markOverfill_fast {s : State} {l : LaneIx} (hp : (s.lane l).present = true)
    (hopen : (s.bank (bankOf l)).faceOpen = true) (hne : (s.lane l).staged ≠ .fast) :
    let r := (s.markOverfill l).lane l
    r.overfill = true ∧ r.staged = .fast ∧ r.shown = .fast := by
  have hlane : (s.modLane l fun r => { r with overfill := true }).lane l = { s.lane l with overfill := true } :=
    State.lane_modLane_same ..
  have hbank : (s.modLane l fun r => { r with overfill := true }).bank (bankOf l) = s.bank (bankOf l) :=
    State.bank_congr rfl rfl _
  rw [State.markOverfill, if_pos hopen,
    State.restage_lane_open (by simpa [hlane] using hp) (by rw [hbank]; exact hopen)
      (by simpa [hlane, LaneRec.stagedFor] using Ne.symm hne), hlane]
  simp [LaneRec.stagedFor]

@[simp] theorem State.markOverfill_book (s : State) (l : LaneIx) : (s.markOverfill l).book = s.book := by
  unfold State.markOverfill; split <;> simp

/-! ## Counting against a delivery (R132, R133) -/

/-- One bin more is delivered. -/
def LaneRec.countedOne (r : LaneRec) : LaneRec := { r with delivered := r.delivered + 1 }

/-- The lane's item joins the list of its bank before its delivery is complete (R133). -/
def State.reported (s : State) (l : LaneIx) : State :=
  let t := if (s.bank (bankOf l)).recordRun.isNone then
      s.modBank (bankOf l) fun b => { b with recordRun := (s.lane l).onRun } else s
  if (t.bank (bankOf l)).recordRun = (s.lane l).onRun then t.joinItems l else t

@[simp] theorem State.reported_frame (s : State) (l : LaneIx) :
    (s.reported l).lanes = s.lanes ∧ (s.reported l).book = s.book ∧ (s.reported l).line = s.line ∧
      (s.reported l).prof = s.prof := by
  unfold State.reported
  refine ⟨?_, ?_, ?_, ?_⟩ <;> simp [apply_ite State.lanes, apply_ite State.book, apply_ite State.line,
    apply_ite State.prof]

theorem State.complete_eq (s : State) (l : LaneIx) :
    s.complete l = ((s.reported l).moveLane l LaneRec.completed).forecastLane l := rfl

/-- The lane counted, with its item, before any completion. -/
def State.feedCounted (s : State) (l : LaneIx) : State := (s.modLane l LaneRec.countedOne).followItem l

theorem State.feedCounted_lane (s : State) (l m : LaneIx) :
    (s.feedCounted l).lane m = if m = l then (s.lane l).countedOne else s.lane m := by
  rw [State.feedCounted, State.lane_congr (s := s.modLane l LaneRec.countedOne) (by simp), State.lane_modLane]

@[simp] theorem State.feedCounted_frame (s : State) (l : LaneIx) :
    (s.feedCounted l).book = s.book ∧ (s.feedCounted l).line = s.line ∧ (s.feedCounted l).prof = s.prof := by
  simp [State.feedCounted]

theorem State.countFeed_of_not_promised {s : State} {l : LaneIx} (h : (s.lane l).call.promised = false) :
    s.countFeed l = s := by
  simp [State.countFeed, h]

theorem State.countFeed_of_promised {s : State} {l : LaneIx} (h : (s.lane l).call.promised = true) :
    s.countFeed l =
      if (s.lane l).delivered + 1 = (s.lane l).requested then (s.feedCounted l).complete l else s.feedCounted l := by
  have hlane : (s.feedCounted l).lane l = (s.lane l).countedOne := by rw [State.feedCounted_lane, if_pos rfl]
  have hcount : s.countFeed l = (s.feedCounted l).completeIfDone l := by rw [State.countFeed, if_pos h]; rfl
  rw [hcount, State.completeIfDone, hlane]
  simp [LaneRec.countedOne, h]

/-- The FEED completes the delivery it is counted against (R133). -/
def LaneRec.lastBin (r : LaneRec) : Bool := r.call.promised && r.delivered + 1 == r.requested

theorem State.complete_unlit_ne (s : State) {l m : LaneIx} (h : m ≠ l) :
    ((s.complete l).lane m).unlit = (s.lane m).unlit := by
  rw [State.complete_eq, State.forecastLane_same_or, if_neg (fun hc => h hc.1), State.moveLane_unlit_ne _ h,
    State.lane_congr (s.reported_frame l).1]

theorem State.countFeed_unlit_ne (s : State) {l m : LaneIx} (h : m ≠ l) :
    ((s.countFeed l).lane m).unlit = (s.lane m).unlit := by
  rcases hc : (s.lane l).call.promised
  · rw [State.countFeed_of_not_promised hc]
  · rw [State.countFeed_of_promised hc]
    split
    · rw [State.complete_unlit_ne _ h, State.feedCounted_lane, if_neg h]
    · rw [State.feedCounted_lane, if_neg h]

/-- The lane moved to QUIET at a completion, before it is forecast. -/
def State.quieted (s : State) (l : LaneIx) : State := ((s.feedCounted l).reported l).moveLane l LaneRec.completed

theorem State.countFeed_of_lastBin {s : State} {l : LaneIx} (h : (s.lane l).lastBin = true) :
    s.countFeed l = (s.quieted l).forecastLane l := by
  simp only [LaneRec.lastBin, Bool.and_eq_true, beq_iff_eq] at h
  rw [State.countFeed_of_promised h.1, if_pos h.2, State.complete_eq]; rfl

theorem State.quieted_sansFace (s : State) (l : LaneIx) :
    ((s.quieted l).lane l).sansFace = ({ (s.lane l).countedOne.completed with moved := true } : LaneRec).sansFace := by
  have hlane : ((s.feedCounted l).reported l).lane l = (s.lane l).countedOne := by
    rw [State.lane_congr (State.reported_frame _ l).1, State.feedCounted_lane, if_pos rfl]
  rw [State.quieted, State.moveLane_sansFace, if_pos rfl, hlane]

@[simp] theorem State.quieted_frame (s : State) (l : LaneIx) :
    (s.quieted l).line = s.line ∧ (s.quieted l).prof = s.prof ∧
      (s.quieted l).book = { s.book with asked := s.book.asked || s.busy } := by
  have hbusy : ((s.feedCounted l).reported l).busy = s.busy := State.busy_of_op (by simp)
  simp [State.quieted, hbusy]

/-- A lane whose overfill mark has FAST staged keeps its face while a FEED is counted. -/
theorem State.countFeed_fast {s : State} {l : LaneIx} (ho : (s.lane l).overfill = true)
    (hs : (s.lane l).staged = .fast) :
    let r := (s.countFeed l).lane l
    r.overfill = true ∧ r.staged = .fast ∧ r.shown = (s.lane l).shown := by
  dsimp only
  rcases hc : (s.lane l).call.promised
  · rw [State.countFeed_of_not_promised hc]; exact ⟨ho, hs, rfl⟩
  rw [State.countFeed_of_promised hc]
  split
  · have hlane : ((s.feedCounted l).reported l).lane l = (s.lane l).countedOne := by
      rw [State.lane_congr (State.reported_frame _ l).1, State.feedCounted_lane, if_pos rfl]
    have hmoved : (((s.feedCounted l).reported l).moveLane l LaneRec.completed).lane l =
        { (s.lane l).countedOne.completed with moved := true } := by
      rw [State.moveLane_lane_of_staged, hlane]
      rw [hlane]; simp [LaneRec.completed, LaneRec.countedOne, LaneRec.stagedFor, ho, hs]
    rw [State.complete_eq, State.forecastLane_same_or, hmoved]
    split <;> exact ⟨ho, hs, rfl⟩
  · rw [State.feedCounted_lane, if_pos rfl]; exact ⟨ho, hs, rfl⟩

/-! ## The FEED event -/

/-- The stock side of a FEED: the bin added and forecast, or the overfill (R26, R27). -/
def State.stockFed (s : State) (l : LaneIx) : State :=
  if (s.lane l).cfg.binsMax ≤ (s.lane l).b then (s.modLane l LaneRec.fed).markOverfill l
  else (s.modLane l LaneRec.fed).forecastLane l

theorem State.takeFeed_eq (s : State) (l : LaneIx) : s.takeFeed l = (s.stockFed l).countFeed l := rfl

theorem exec_feedEvent_of_present {s : State} {l : LaneIx} (hw : s.worksAs .rack = true)
    (hp : (s.lane l).present = true) :
    exec (.feedEvent l) s = .next ((s.sensed l .feed true).takeFeed l).endEvent := by
  simp [exec, execFeedEvent, hw, State.event, State.takeChange_acceptSensor, hp, State.takeRising]

theorem LaneRec.fed_delivery (r : LaneRec) : r.fed.delivery = r.delivery := by
  unfold LaneRec.fed; split <;> rfl

/-! ## The lane of a FEED -/

theorem State.forecastLane_isForecast {s : State} {l : LaneIx} (hp : (s.lane l).present = true)
    (hsync : s.synced = true) : (s.forecastLane l).isForecast l := by
  have hlane : (s.forecastLane l).lane l = s.forecasted (s.lane l) := by
    rw [State.forecastLane_same_or, if_pos ⟨rfl, hp, hsync⟩]
  have hline : (s.forecastLane l).line = s.line := by simp
  rw [State.isForecast, State.forecastOf_congr hline (by simp), hlane, hline]
  exact ⟨rfl, rfl⟩

/-- The forecast of a lane depends on its stock, window and settings alone. -/
theorem State.isForecast_of_goods {s t : State} {l : LaneIx} (h : s.isForecast l) (hline : t.line = s.line)
    (hprof : t.prof = s.prof) (hg : (t.lane l).goods = (s.lane l).goods)
    (hf : (t.lane l).forecast = (s.lane l).forecast) (hc : (t.lane l).cond = (s.lane l).cond) : t.isForecast l := by
  obtain ⟨hcfg, -, hstock⟩ := LaneRec.of_goods hg
  have hs : (t.lane l).s = (s.lane l).s := congrArg StockView.s hstock
  have hcast : t.forecastOf (t.lane l) = s.forecastOf (s.lane l) := by
    rw [State.forecastOf_congr hline hprof, State.forecastOf, State.forecastOf, hs, hcfg]
  rw [State.isForecast, hcast, hf, hc, hcfg, hline]
  exact h

theorem State.needsAt_iff (s : State) (l : LaneIx) :
    s.needsAt l = true ↔ (s.lane l).present = true ∧ s.synced = true ∧ ((s.forecastLane l).lane l).needs := by
  by_cases h : (s.lane l).present = true ∧ s.synced = true
  · rw [State.forecastLane_same_or, if_pos ⟨rfl, h⟩, ← needsChange_iff]
    simp only [State.needsAt, h, Bool.true_and, true_and]
    rfl
  · simp only [State.needsAt, Bool.and_eq_true]
    exact ⟨fun hn => absurd hn.1 h, fun hn => absurd ⟨hn.1, hn.2.1⟩ h⟩

theorem LaneRec.not_needs_of_promised {r : LaneRec} (h : r.call.promised = true) : ¬r.needs := by
  rw [← needsChange_iff]
  cases hc : r.call <;> simp [hc, CallState.promised] at h <;> simp [needsChange]

/-- What the stock side of a FEED leaves of its lane but for the stock: the delivery and the settings. -/
theorem State.stockFed_lane (s : State) (l : LaneIx) :
    let r := s.lane l
    let r' := (s.stockFed l).lane l
    r'.stock = r.fed.stock ∧ r'.delivery = r.delivery ∧ r'.surplus = r.fed.surplus ∧ r'.present = r.present ∧
      r'.cfg = r.cfg := by
  have hfed : (s.lane l).fed.present = (s.lane l).present ∧ (s.lane l).fed.cfg = (s.lane l).cfg := by
    unfold LaneRec.fed; split <;> exact ⟨rfl, rfl⟩
  dsimp only
  unfold State.stockFed
  split
  · obtain ⟨hstock, hdelivery, hpresent, hcfg, -, hsurplus, -⟩ :=
      LaneRec.of_sansFace ((s.modLane l LaneRec.fed).markOverfill_sansFace l)
    rw [hstock, hdelivery, hsurplus, hpresent, hcfg, State.lane_modLane_same, ← LaneRec.fed_delivery (s.lane l)]
    exact ⟨rfl, rfl, rfl, hfed.1, hfed.2⟩
  · rw [State.forecastLane_same_or, State.lane_modLane_same, ← LaneRec.fed_delivery (s.lane l)]
    split <;> exact ⟨rfl, rfl, rfl, hfed.1, hfed.2⟩

theorem State.countFeed_lane (s : State) (l : LaneIx) :
    let r' := (s.countFeed l).lane l
    r'.surplus = (s.lane l).surplus ∧ r'.overfill = (s.lane l).overfill ∧
      ((s.lane l).lastBin = false → r'.forecast = (s.lane l).forecast ∧ r'.cond = (s.lane l).cond ∧
        r'.call = (s.lane l).call) := by
  dsimp only
  rcases hlast : (s.lane l).lastBin
  · rcases hc : (s.lane l).call.promised
    · rw [State.countFeed_of_not_promised hc]; exact ⟨rfl, rfl, fun _ => ⟨rfl, rfl, rfl⟩⟩
    · have hne : ¬(s.lane l).delivered + 1 = (s.lane l).requested := by simpa [LaneRec.lastBin, hc] using hlast
      rw [State.countFeed_of_promised hc, if_neg hne, State.feedCounted_lane, if_pos rfl]
      exact ⟨rfl, rfl, fun _ => ⟨rfl, rfl, rfl⟩⟩
  · obtain ⟨-, -, -, -, -, hsurplus, -, -, -, hoverfill, -⟩ := LaneRec.of_sansFace (s.quieted_sansFace l)
    rw [State.countFeed_of_lastBin hlast, State.forecastLane_same_or]
    split <;> exact ⟨hsurplus, hoverfill, nofun⟩

/-- The request of a FEED: a forecast that needs one, or the completion that finds an operation in progress. -/
theorem State.stockFed_book (s : State) (l : LaneIx) :
    (s.stockFed l).book =
      { s.book with
          asked := s.book.asked ||
            decide ((s.lane l).b < (s.lane l).cfg.binsMax) && (s.modLane l LaneRec.fed).needsAt l } := by
  unfold State.stockFed
  split
  next h => simp [Nat.not_lt.mpr h]
  next h => rw [State.forecastLane_asked]; simp [Nat.lt_of_not_le h]

theorem State.countFeed_book (s : State) (l : LaneIx) :
    (s.countFeed l).book =
      { s.book with asked := s.book.asked || (s.lane l).lastBin && (s.busy || (s.quieted l).needsAt l) } := by
  rcases hlast : (s.lane l).lastBin
  · have hbook : (s.countFeed l).book = s.book := by
      rcases hc : (s.lane l).call.promised
      · rw [State.countFeed_of_not_promised hc]
      · have hne : ¬(s.lane l).delivered + 1 = (s.lane l).requested := by simpa [LaneRec.lastBin, hc] using hlast
        rw [State.countFeed_of_promised hc, if_neg hne]; simp
    simp [hbook]
  · rw [State.countFeed_of_lastBin hlast, State.forecastLane_asked]
    simp [Bool.or_assoc]

theorem State.takeFeed_unlit_ne (s : State) {l m : LaneIx} (h : m ≠ l) :
    ((s.takeFeed l).lane m).unlit = (s.lane m).unlit := by
  rw [State.takeFeed_eq, State.countFeed_unlit_ne _ h]
  unfold State.stockFed
  split
  · rw [State.markOverfill_unlit_ne _ h, State.lane_modLane, if_neg h]
  · rw [State.forecastLane_same_or, if_neg (fun hc => h hc.1), State.lane_modLane, if_neg h]

end Sys2Proof.Machine
end

section
/-! PROOFS. The whole event of a FEED (R26, R34, R43, R51, R132, R133, R150). -/

namespace Sys2Proof.Machine

/-! ## The lane after a FEED is taken -/

theorem State.modLane_bank (s : State) (l : LaneIx) (f : LaneRec → LaneRec) (k : Bank) :
    (s.modLane l f).bank k = s.bank k := State.bank_congr rfl rfl k

theorem LaneRec.lastBin_iff (r : LaneRec) : r.lastBin = true ↔ r.call.promised = true ∧ r.delivered + 1 = r.requested := by
  simp [LaneRec.lastBin]

/-- Lanes of one delivery complete it together. -/
theorem LaneRec.lastBin_congr {r r' : LaneRec} (h : r'.delivery = r.delivery) :
    r'.lastBin = r.lastBin ∧ r'.call = r.call ∧ r'.delivered = r.delivered ∧ r'.requested = r.requested := by
  have hcall : r'.call = r.call := congrArg DeliveryView.call h
  have hdone : r'.delivered = r.delivered := congrArg DeliveryView.delivered h
  have hreq : r'.requested = r.requested := congrArg DeliveryView.requested h
  exact ⟨by simp [LaneRec.lastBin, hcall, hdone, hreq], hcall, hdone, hreq⟩

/-- The stock of a FEED is the one that its lane holds after it, whatever it is counted against. -/
theorem State.takeFeed_stock (s : State) (l : LaneIx) :
    ((s.takeFeed l).lane l).stock = (s.lane l).fed.stock ∧ ((s.takeFeed l).lane l).surplus = (s.lane l).fed.surplus := by
  obtain ⟨hstock, -, hsurplus, -⟩ := s.stockFed_lane l
  obtain ⟨-, -, hcount⟩ := LaneRec.of_goods (((s.stockFed l).countFeed_goods l).lane l)
  obtain ⟨hsur, -⟩ := (s.stockFed l).countFeed_lane l
  exact ⟨hcount.trans hstock, hsur.trans hsurplus⟩

theorem State.takeFeed_delivery_of_not_promised {s : State} {l : LaneIx} (h : (s.lane l).call.promised = false) :
    ((s.takeFeed l).lane l).delivery = (s.lane l).delivery := by
  obtain ⟨-, hdelivery, -⟩ := s.stockFed_lane l
  obtain ⟨-, hcall, -⟩ := LaneRec.lastBin_congr hdelivery
  rw [State.takeFeed_eq, State.countFeed_of_not_promised (by rw [hcall, h]), hdelivery]

theorem State.takeFeed_delivery_of_counted {s : State} {l : LaneIx} (h : (s.lane l).call.promised = true)
    (hne : (s.lane l).delivered + 1 ≠ (s.lane l).requested) :
    ((s.takeFeed l).lane l).delivery = { (s.lane l).delivery with delivered := (s.lane l).delivered + 1 } := by
  obtain ⟨-, hdelivery, -⟩ := s.stockFed_lane l
  obtain ⟨-, hcall, hdone, hreq⟩ := LaneRec.lastBin_congr hdelivery
  rw [State.takeFeed_eq, State.countFeed_of_promised (by rw [hcall, h]), if_neg (by rwa [hdone, hreq]),
    State.feedCounted_lane, if_pos rfl, ← hdelivery, ← hdone]
  rfl

theorem State.takeFeed_of_lastBin {s : State} {l : LaneIx} (h : (s.lane l).lastBin = true) :
    s.takeFeed l = ((s.stockFed l).quieted l).forecastLane l := by
  obtain ⟨-, hdelivery, -⟩ := s.stockFed_lane l
  rw [State.takeFeed_eq, State.countFeed_of_lastBin (by rw [(LaneRec.lastBin_congr hdelivery).1, h])]

theorem State.quieted_delivery (s : State) (l : LaneIx) :
    ((s.quieted l).lane l).delivery = (s.lane l).countedOne.completed.delivery :=
  (LaneRec.of_sansFace (s.quieted_sansFace l)).2.1

theorem State.forecastLane_sansForecast (s : State) (l m : LaneIx) :
    ((s.forecastLane l).lane m).sansForecast = (s.lane m).sansForecast :=
  State.forecastLane_foldl_sansForecast [l] s m

/-- A FEED that completes the delivery leaves the lane QUIET, its delivery fields cleared (R133). -/
theorem State.takeFeed_delivery_of_lastBin {s : State} {l : LaneIx} (h : (s.lane l).lastBin = true) :
    ((s.takeFeed l).lane l).delivery = (s.lane l).completed.delivery := by
  obtain ⟨-, hdelivery, -⟩ := LaneRec.of_sansForecast (((s.stockFed l).quieted l).forecastLane_sansForecast l l)
  rw [State.takeFeed_of_lastBin h, hdelivery, State.quieted_delivery]
  rfl

/-- An overfill under an OPEN face shows FAST, whatever the FEED is counted against (R150). -/
theorem State.takeFeed_fast {s : State} {l : LaneIx} (hp : (s.lane l).present = true)
    (hfull : (s.lane l).cfg.binsMax ≤ (s.lane l).b) (hopen : (s.bank (bankOf l)).faceOpen = true)
    (hne : (s.lane l).staged ≠ .fast) :
    let r := (s.takeFeed l).lane l
    r.overfill = true ∧ r.staged = .fast ∧ r.shown = .fast := by
  have hlane : (s.modLane l LaneRec.fed).lane l = (s.lane l).fed := State.lane_modLane_same ..
  have hfed : (s.lane l).fed = { s.lane l with surplus := sat16 ((s.lane l).surplus + 1),
                                               starved := (s.lane l).starved && (s.lane l).s == 0 } := by
    rw [LaneRec.fed, if_neg (Nat.not_lt.mpr hfull)]
  obtain ⟨ho, hs, hshown⟩ := State.markOverfill_fast (s := s.modLane l LaneRec.fed) (l := l)
    (by rw [hlane, hfed]; exact hp) (by rw [State.modLane_bank]; exact hopen)
    (by rw [hlane, hfed]; exact hne)
  have hstock : s.stockFed l = (s.modLane l LaneRec.fed).markOverfill l := by rw [State.stockFed, if_pos hfull]
  rw [← hstock] at ho hs hshown
  obtain ⟨ho', hs', hshown'⟩ := State.countFeed_fast ho hs
  exact ⟨ho', hs', hshown'.trans hshown⟩

theorem State.takeFeed_overfill {s : State} {l : LaneIx} (hopen : (s.bank (bankOf l)).faceOpen = false) :
    ((s.takeFeed l).lane l).overfill = (s.lane l).overfill := by
  obtain ⟨-, hcount, -⟩ := (s.stockFed l).countFeed_lane l
  have hfed : (s.lane l).fed.overfill = (s.lane l).overfill := by unfold LaneRec.fed; split <;> rfl
  rw [State.takeFeed_eq, hcount, State.stockFed]
  split
  · obtain ⟨-, -, -, -, -, -, -, -, -, ho, -⟩ :=
      LaneRec.of_sansFace ((s.modLane l LaneRec.fed).markOverfill_sansFace l)
    rw [ho]
    simp [State.modLane_bank, hopen, hfed]
  · obtain ⟨-, -, -, -, -, -, -, ho, -⟩ :=
      LaneRec.of_sansForecast ((s.modLane l LaneRec.fed).forecastLane_sansForecast l l)
    rw [ho, State.lane_modLane_same, hfed]

/-! ## Its forecast and its request (R43, R51, R78) -/

/-- The FEED passes its lane to the forecast unit: it adds a bin, or completes the delivery (R34, R43). -/
def State.feedForecasts (s : State) (l : LaneIx) : Prop :=
  s.synced = true ∧ ((s.lane l).b < (s.lane l).cfg.binsMax ∨ (s.lane l).lastBin = true)

variable {s : State} {l : LaneIx}

theorem State.stockFed_line (s : State) (l : LaneIx) :
    (s.stockFed l).line = s.line ∧ (s.stockFed l).prof = s.prof ∧ (s.stockFed l).synced = s.synced := by
  have hline : (s.stockFed l).line = s.line := by unfold State.stockFed; split <;> simp
  exact ⟨hline, by unfold State.stockFed; split <;> simp, State.synced_congr hline⟩

theorem State.stockFed_isForecast (hp : (s.lane l).present = true) (hadd : (s.lane l).b < (s.lane l).cfg.binsMax)
    (hsync : s.synced = true) : (s.stockFed l).isForecast l := by
  have hfed : (s.lane l).fed.present = true := by unfold LaneRec.fed; split <;> exact hp
  rw [State.stockFed, if_neg (Nat.not_le.mpr hadd)]
  exact State.forecastLane_isForecast (by rw [State.lane_modLane_same]; exact hfed) hsync

theorem State.stockFed_same (h : ¬(s.synced = true ∧ (s.lane l).b < (s.lane l).cfg.binsMax)) :
    ((s.stockFed l).lane l).forecast = (s.lane l).forecast ∧ ((s.stockFed l).lane l).cond = (s.lane l).cond := by
  have hfed : (s.lane l).fed.forecast = (s.lane l).forecast ∧ (s.lane l).fed.cond = (s.lane l).cond := by
    unfold LaneRec.fed; split <;> exact ⟨rfl, rfl⟩
  unfold State.stockFed
  split
  · obtain ⟨-, -, -, -, -, -, -, hf, hc, -⟩ :=
      LaneRec.of_sansFace ((s.modLane l LaneRec.fed).markOverfill_sansFace l)
    rw [hf, hc, State.lane_modLane_same]
    exact hfed
  next hadd =>
    have hsync : ¬(s.modLane l LaneRec.fed).synced = true := fun hc => h ⟨hc, Nat.lt_of_not_le hadd⟩
    rw [State.forecastLane_same_or, if_neg (fun hc => hsync hc.2.2), State.lane_modLane_same]
    exact hfed

theorem State.quieted_lane (s : State) (l : LaneIx) :
    ((s.quieted l).lane l).forecast = (s.lane l).forecast ∧ ((s.quieted l).lane l).cond = (s.lane l).cond ∧
      ((s.quieted l).lane l).present = (s.lane l).present := by
  obtain ⟨-, -, hp, -, -, -, -, hf, hc, -⟩ := LaneRec.of_sansFace (s.quieted_sansFace l)
  exact ⟨hf, hc, hp⟩

theorem State.quieted_synced (s : State) (l : LaneIx) : ((s.stockFed l).quieted l).synced = s.synced :=
  (State.synced_congr (State.quieted_frame _ l).1).trans (s.stockFed_line l).2.2

theorem State.takeFeed_isForecast (hp : (s.lane l).present = true) (h : s.feedForecasts l) :
    (s.takeFeed l).isForecast l := by
  obtain ⟨hsync, hwhy⟩ := h
  obtain ⟨-, hdelivery, -, hpres, -⟩ := s.stockFed_lane l
  rcases hlast : (s.lane l).lastBin
  · have hadd : (s.lane l).b < (s.lane l).cfg.binsMax := by simpa [hlast] using hwhy
    obtain ⟨-, -, hsame⟩ := (s.stockFed l).countFeed_lane l
    obtain ⟨hf, hc, -⟩ := hsame (by rw [(LaneRec.lastBin_congr hdelivery).1, hlast])
    exact State.isForecast_of_goods (State.stockFed_isForecast hp hadd hsync) (by simp [State.takeFeed_eq])
      (by simp [State.takeFeed_eq]) (((s.stockFed l).countFeed_goods l).lane l) hf hc
  · rw [State.takeFeed_of_lastBin hlast]
    exact State.forecastLane_isForecast (by rw [(State.quieted_lane _ l).2.2, hpres, hp])
      (by rw [State.quieted_synced, hsync])

theorem State.takeFeed_same (h : ¬s.feedForecasts l) :
    ((s.takeFeed l).lane l).forecast = (s.lane l).forecast ∧ ((s.takeFeed l).lane l).cond = (s.lane l).cond := by
  obtain ⟨-, hdelivery, -⟩ := s.stockFed_lane l
  obtain ⟨hf, hc⟩ := State.stockFed_same (fun hs => h ⟨hs.1, .inl hs.2⟩)
  rcases hlast : (s.lane l).lastBin
  · obtain ⟨-, -, hsame⟩ := (s.stockFed l).countFeed_lane l
    obtain ⟨hf', hc', -⟩ := hsame (by rw [(LaneRec.lastBin_congr hdelivery).1, hlast])
    exact ⟨hf'.trans hf, hc'.trans hc⟩
  · have hsync : ¬((s.stockFed l).quieted l).synced = true := by
      rw [State.quieted_synced]; exact fun hs => h ⟨hs, .inr hlast⟩
    obtain ⟨hf', hc', -⟩ := (s.stockFed l).quieted_lane l
    rw [State.takeFeed_of_lastBin hlast, State.forecastLane_same_or, if_neg (fun hc => hsync hc.2.2)]
    exact ⟨hf'.trans hf, hc'.trans hc⟩

/-- The request of the stock side of a FEED stands only for a lane that nothing is promised. -/
theorem State.fed_needsAt (hadd : (s.lane l).b < (s.lane l).cfg.binsMax) :
    (s.modLane l LaneRec.fed).needsAt l = true ↔
      (s.lane l).present = true ∧ s.synced = true ∧ ((s.stockFed l).lane l).needs := by
  have hfed : (s.lane l).fed.present = (s.lane l).present := by unfold LaneRec.fed; split <;> rfl
  have hsync : (s.modLane l LaneRec.fed).synced = s.synced := rfl
  rw [State.needsAt_iff, State.lane_modLane_same, hfed, hsync, State.stockFed, if_neg (Nat.not_le.mpr hadd)]

theorem State.quieted_needsAt (hlast : (s.lane l).lastBin = true) :
    ((s.stockFed l).quieted l).needsAt l = true ↔
      (s.lane l).present = true ∧ s.synced = true ∧ ((s.takeFeed l).lane l).needs := by
  obtain ⟨-, -, -, hpres, -⟩ := s.stockFed_lane l
  rw [State.needsAt_iff, (State.quieted_lane _ l).2.2, hpres, State.quieted_synced, State.takeFeed_of_lastBin hlast]

/-- A FEED makes a request exactly where its forecast needs one, or its completion finds an operation in progress. -/
theorem State.takeFeed_requests (hp : (s.lane l).present = true) (hb : s.bookSettled = true) :
    s.requests (s.takeFeed l)
      ((s.feedForecasts l ∧ ((s.takeFeed l).lane l).needs) ∨ ((s.lane l).lastBin = true ∧ s.busy = true)) := by
  obtain ⟨hasked, -, -⟩ := (s.bookSettled_iff).mp hb
  obtain ⟨-, hdelivery, -, -, -⟩ := s.stockFed_lane l
  obtain ⟨hlastBin, hcall, -, -⟩ := LaneRec.lastBin_congr hdelivery
  have hbusy : (s.stockFed l).busy = s.busy := State.busy_of_op (by rw [State.stockFed_book])
  have hbook := (s.stockFed l).countFeed_book l
  rw [State.stockFed_book, hlastBin, hbusy, hasked, Bool.false_or, ← State.takeFeed_eq] at hbook
  rcases hlast : (s.lane l).lastBin
  · have hsame : ((s.takeFeed l).lane l).needs ↔ ((s.stockFed l).lane l).needs := by
      obtain ⟨-, -, hsame⟩ := (s.stockFed l).countFeed_lane l
      obtain ⟨-, hc, hcall'⟩ := hsame (by rw [hlastBin, hlast])
      exact LaneRec.needs_congr hcall' hc
    refine ⟨?_, by rw [hbook, ← hasked]⟩
    rw [hbook, hlast, hsame]
    by_cases hadd : (s.lane l).b < (s.lane l).cfg.binsMax
    · have hneeds := State.fed_needsAt hadd
      simp [State.feedForecasts, hadd, hneeds, hp]
    · simp [State.feedForecasts, hadd, hlast]
  · have hnone : ¬((s.stockFed l).lane l).needs :=
      LaneRec.not_needs_of_promised (by rw [hcall]; exact ((LaneRec.lastBin_iff _).mp hlast).1)
    have hfed : (s.lane l).b < (s.lane l).cfg.binsMax → (s.modLane l LaneRec.fed).needsAt l = false := fun hadd => by
      rw [Bool.eq_false_iff]; exact fun hn => hnone ((State.fed_needsAt hadd).mp hn).2.2
    have hquiet := State.quieted_needsAt hlast
    refine ⟨?_, by rw [hbook, ← hasked]⟩
    rw [hbook, hlast]
    by_cases hadd : (s.lane l).b < (s.lane l).cfg.binsMax
    · simp [State.feedForecasts, hadd, hfed hadd, hquiet, hp, hlast, or_comm]
    · simp [State.feedForecasts, hadd, hquiet, hp, hlast, or_comm]

/-! ## The statement -/

theorem LaneRec.fed_of_room {r : LaneRec} (h : r.b < r.cfg.binsMax) :
    r.fed.stock = { r.stock with
        b := r.b + 1, s := min (r.s + r.cfg.q) (r.cfg.binsMax * r.cfg.q),
        starved := r.starved && decide (min (r.s + r.cfg.q) (r.cfg.binsMax * r.cfg.q) = 0) } ∧
      r.fed.surplus = r.surplus := by
  rw [LaneRec.fed, if_pos h]; exact ⟨rfl, rfl⟩

theorem LaneRec.fed_of_full {r : LaneRec} (h : r.cfg.binsMax ≤ r.b) :
    r.fed.stock = { r.stock with starved := r.starved && decide (r.s = 0) } ∧
      r.fed.surplus = min (r.surplus + 1) 65535 := by
  rw [LaneRec.fed, if_neg (Nat.not_lt.mpr h)]; exact ⟨rfl, rfl⟩

theorem LaneRec.fed_setSensor (r : LaneRec) (k : Sensor) (x : SensorIn) :
    (r.setSensor k x).fed.stock = r.fed.stock ∧ (r.setSensor k x).fed.surplus = r.fed.surplus := by
  rcases Nat.lt_or_ge r.b r.cfg.binsMax with h | h
  · have h' : (r.setSensor k x).b < (r.setSensor k x).cfg.binsMax := by cases k <;> exact h
    rw [(LaneRec.fed_of_room h').1, (LaneRec.fed_of_room h').2, (LaneRec.fed_of_room h).1, (LaneRec.fed_of_room h).2]
    cases k <;> exact ⟨rfl, rfl⟩
  · have h' : (r.setSensor k x).cfg.binsMax ≤ (r.setSensor k x).b := by cases k <;> exact h
    rw [(LaneRec.fed_of_full h').1, (LaneRec.fed_of_full h').2, (LaneRec.fed_of_full h).1, (LaneRec.fed_of_full h).2]
    cases k <;> exact ⟨rfl, rfl⟩

theorem LaneRec.setSensor_rest (r : LaneRec) (k : Sensor) (x : SensorIn) :
    (r.setSensor k x).cfg = r.cfg ∧ (r.setSensor k x).cond = r.cond ∧ (r.setSensor k x).overfill = r.overfill ∧
    (r.setSensor k x).staged = r.staged ∧ (r.setSensor k x).call = r.call ∧
    (r.setSensor k x).delivered = r.delivered ∧ (r.setSensor k x).requested = r.requested ∧
    (r.setSensor k x).lastBin = r.lastBin := by
  cases k <;> exact ⟨rfl, rfl, rfl, rfl, rfl, rfl, rfl, rfl⟩

theorem LaneRec.quiet_of_delivery {r r' : LaneRec} (h : r'.delivery = r.completed.delivery) :
    r'.call = .quiet ∧ r'.onRun = none ∧ r'.requested = 0 ∧ r'.delivered = 0 ∧ r'.short = none :=
  ⟨congrArg DeliveryView.call h, congrArg DeliveryView.onRun h, congrArg DeliveryView.requested h,
    congrArg DeliveryView.delivered h, congrArg DeliveryView.short h⟩

/-- Settles O19: the accepted change is taken as a FEED of the stock tracker, which the event ends. -/
theorem feedActsOnStock : Obligations.FeedActsOnStock := by
  intro s l hw hp r
  have hlane := s.sensed_lane_same l .feed true
  obtain ⟨hcfg, hcond, hoverfill, hstaged, hcall, hdone, hreq, hlast⟩ := r.setSensor_rest .feed ⟨.accept true, false⟩
  obtain ⟨hpres, hbins, -, hdelivery, -, hforecast⟩ := r.setSensor_frame .feed ⟨.accept true, false⟩
  obtain ⟨hstock, hsurplus⟩ := r.fed_setSensor .feed ⟨.accept true, false⟩
  rw [← hlane] at hcfg hcond hoverfill hstaged hcall hdone hreq hlast hpres hbins hdelivery hforecast hstock hsurplus
  have hbank : (s.sensed l .feed true).bank (bankOf l) = s.bank (bankOf l) := State.modLane_bank ..
  have hbusy : (s.sensed l .feed true).busy = s.busy := rfl
  have hbook : (s.sensed l .feed true).book = s.book := rfl
  have hp' : ((s.sensed l .feed true).lane l).present = true := hpres.trans hp
  have hsync : (s.sensed l .feed true).synced = s.synced := rfl
  have hwhen : (s.sensed l .feed true).feedForecasts l ↔
      s.synced = true ∧ (r.b < r.cfg.binsMax ∨ (r.call.promised = true ∧ r.delivered + 1 = r.requested)) := by
    rw [State.feedForecasts, hsync, hlast, hbins, hcfg, LaneRec.lastBin_iff]
  obtain ⟨htstock, htsurplus⟩ := (s.sensed l .feed true).takeFeed_stock l
  obtain ⟨hestock, hedelivery, -, -, hecall, hesurplus, -, heforecast, hecond, heoverfill, hestaged, -, heshown⟩ :=
    ((s.sensed l .feed true).takeFeed l).endEvent_lane l
  refine ⟨_, exec_feedEvent_of_present hw hp, fun hroom => ?_, fun hfull => ⟨?_, ?_, fun hopen hne => ?_, fun hshut => ?_⟩,
    fun hnot => ?_, fun hpr hne => ?_, fun hpr heq => ?_, ⟨fun hpass => ?_, fun hpass => ?_, fun hb => ?_⟩,
    fun m hm => ?_, ?_⟩
  · rw [hestock, hesurplus, htstock, htsurplus, hstock, hsurplus]
    exact LaneRec.fed_of_room hroom
  · rw [hestock, htstock, hstock]; exact (LaneRec.fed_of_full hfull).1
  · rw [hesurplus, htsurplus, hsurplus]; exact (LaneRec.fed_of_full hfull).2
  · rw [heoverfill, hestaged, heshown]
    exact State.takeFeed_fast hp' (by rwa [hcfg, hbins]) (by rwa [hbank]) (by rwa [hstaged])
  · rw [heoverfill, State.takeFeed_overfill (by rwa [hbank]), hoverfill]
  · rw [hedelivery, State.takeFeed_delivery_of_not_promised (by rwa [hcall]), hdelivery]
  · rw [hedelivery, State.takeFeed_delivery_of_counted (by rwa [hcall]) (by rwa [hdone, hreq]), hdelivery, hdone]
  · exact LaneRec.quiet_of_delivery (hedelivery.trans (State.takeFeed_delivery_of_lastBin
      (hlast.trans ((LaneRec.lastBin_iff r).mpr ⟨hpr, heq⟩))))
  · exact State.isForecast_endEvent (State.takeFeed_isForecast hp' (hwhen.mpr hpass))
  · obtain ⟨hf, hc⟩ := State.takeFeed_same (mt hwhen.mp hpass)
    rw [heforecast, hecond, hf, hc]
    exact ⟨hforecast, hcond⟩
  · have hb' : (s.sensed l .feed true).bookSettled = true := by rw [State.bookSettled, hbook, hbusy]; exact hb
    have hreqs := State.takeFeed_requests hp' hb'
    rw [hwhen, hlast, LaneRec.lastBin_iff, hbusy, ← State.needs_endEvent, State.requests, hbook] at hreqs
    exact State.bookTakes_endEvent hb hreqs
  · calc _ = (((s.sensed l .feed true).takeFeed l).lane m).unlit := by
          rw [LaneRec.unlit, State.endEvent_steady]; rfl
      _ = ((s.sensed l .feed true).lane m).unlit := State.takeFeed_unlit_ne _ hm
      _ = (s.lane m).unlit := by rw [State.sensed_lane_ne s hm]
  · have hentries : ((s.sensed l .feed true).takeFeed l).book.entries = s.book.entries := by
      rw [State.takeFeed_eq, State.countFeed_book, State.stockFed_book]; rfl
    simp [State.sensed] at hentries ⊢
    exact hentries

end Sys2Proof.Machine
end

section
/-! PROOFS. Changes that are not taken (R24, R25), and the walk and the run-out of a forecast (R46 to R48). -/

namespace Sys2Proof.Machine

/-! ## Changes not taken -/

/-- The events of an absent lane are not taken, and its latch stays set. -/
theorem State.takeChange_of_absent {s : State} {l : LaneIx} (k : Sensor) (level rising : Bool)
    (h : (s.lane l).present = false) :
    (s.acceptSensor l k level).takeChange l k rising = s.acceptSensor l k level := by
  have hacc : ((s.acceptSensor l k level).lane l).present = false := by simp [State.acceptSensor, h]
  simp [State.takeChange, hacc]

/-- An input written leaves stock and delivery of every lane. -/
theorem State.setSensor_goods (s : State) (l m : LaneIx) (k : Sensor) (x : SensorIn) :
    let t := s.modLane l fun r => r.setSensor k x
    (t.lane m).stock = (s.lane m).stock ∧ (t.lane m).delivery = (s.lane m).delivery := by
  dsimp only
  rw [State.lane_modLane]
  split
  next h => subst h; simp
  next h => exact ⟨rfl, rfl⟩

theorem LaneRec.sensor_of_steady {r r' : LaneRec} (h : r.steady = r'.steady) (k : Sensor) : r.sensor k = r'.sensor k := by
  have hk : r.steady.sensor k = r'.steady.sensor k := by rw [h]
  cases k <;> exact hk

/-- The end of the event that has only written an input. -/
theorem State.endEvent_setSensor (s : State) (l : LaneIx) (k : Sensor) (x : SensorIn) :
    let t := (s.modLane l fun r => r.setSensor k x).endEvent
    (t.lane l).sensor k = x ∧
      (∀ m, (t.lane m).stock = (s.lane m).stock ∧ (t.lane m).delivery = (s.lane m).delivery) ∧
      t.cnt = s.cnt ∧ t.air = s.air ∧ t.line = s.line ∧ t.start = s.start ∧ t.runs = s.runs ∧
      t.bankA = s.bankA ∧ t.bankB = s.bankB := by
  refine ⟨?_, fun m => ?_, by simp⟩
  · rw [LaneRec.sensor_of_steady (State.endEvent_steady _ l), State.lane_modLane_same, LaneRec.sensor_setSensor]
  · obtain ⟨hstock, hdelivery, -⟩ := (s.modLane l fun r => r.setSensor k x).endEvent_lane m
    rw [hstock, hdelivery]
    exact s.setSensor_goods l m k x

theorem exec_sensorFallingChange_of_absent {s : State} {l : LaneIx} (k : Sensor) (hw : s.worksAs .rack = true)
    (hp : (s.lane l).present = false) :
    exec (.sensorFallingChange l k) s = .next (s.acceptSensor l k false).endEvent := by
  simp [exec, execSensorFallingChange, hw, State.event, State.takeChange_of_absent, hp]

/-- Settles O23: by the presence of the lane, for each of the three inputs. -/
theorem untakenChangesOnlyLatch : Obligations.UntakenChangesOnlyLatch := by
  intro s l k hw
  refine ⟨?_, fun hp => ?_⟩
  · rcases hp : (s.lane l).present
    · exact ⟨_, exec_sensorFallingChange_of_absent k hw hp, s.endEvent_setSensor l k _⟩
    · exact ⟨_, exec_sensorFallingChange_of_present k hw hp, s.endEvent_setSensor l k _⟩
  · have hend := s.endEvent_setSensor l k ⟨.accept true, true⟩
    obtain ⟨hsensor, hgoods, hcnt, hair, hline, hstart, hruns, -⟩ := hend
    refine ⟨(s.acceptSensor l k true).endEvent, ?_, hsensor, hgoods, hcnt, hair, hline, hstart, hruns⟩
    cases k <;> simp [exec, execFeedEvent, execEmptyEvent, execReserveEvent, hw, State.event, State.takeChange_of_absent,
      hp]

/-! ## The walk (R46) -/

theorem walk_eq_some (stock : Nat) (us : List Nat) (k : Nat) :
    walk stock us = some k ↔ k < us.length ∧ (us.take k).sum ≤ stock ∧ stock < (us.take (k + 1)).sum := by
  induction us generalizing stock k with
  | nil => simp [walk]
  | cons u us ih =>
    rw [walk]
    split
    next h =>
      cases k with
      | zero => simp [h]
      | succ k => simp only [Option.some.injEq, List.length_cons, List.take_succ_cons, List.sum_cons]; omega
    next h =>
      cases k with
      | zero => simp [Option.map_eq_some_iff, h]
      | succ k =>
        simp only [Option.map_eq_some_iff, Nat.add_right_cancel_iff, exists_eq_right, ih, List.length_cons,
          List.take_succ_cons, List.sum_cons]
        omega

theorem walk_eq_none (stock : Nat) (us : List Nat) : walk stock us = none ↔ us.sum ≤ stock := by
  induction us generalizing stock with
  | nil => simp [walk]
  | cons u us ih =>
    rw [walk]
    split
    next h => simp only [reduceCtorEq, List.sum_cons, false_iff]; omega
    next h => simp only [Option.map_eq_none_iff, ih, List.sum_cons]; omega

/-! ## The run-out (R47, R48) -/

theorem runOut_of_walk {c : LineCount} {stock du : Nat} {us : List Nat} {k : Nat} (h : walk stock us = some k) :
    runOut c stock du us = (c + BitVec.ofNat 16 k, false) := by
  simp [runOut, h]

theorem runOut_of_no_use {c : LineCount} {stock : Nat} {us : List Nat} (h : walk stock us = none) :
    runOut c stock 0 us = (c + 1023, true) := by
  simp [runOut, h]

/-- Past the end of the window the run-out lies after the cap exactly where it is more than 1023 units from its begin. -/
theorem after_cap (c : LineCount) {len past : Nat} (hlen : 1 ≤ len ∧ len ≤ 64) (hpast : past ≤ 3997) :
    after (c + BitVec.ofNat 16 len - 1 + BitVec.ofNat 16 past) (c + 1023) = true ↔ 1023 < len - 1 + past := by
  obtain ⟨k, rfl⟩ : ∃ k, len = k + 1 := ⟨len - 1, by omega⟩
  have hdiff : c + BitVec.ofNat 16 (k + 1) - 1 + BitVec.ofNat 16 past - (c + 1023) =
      BitVec.ofNat 16 (k + past + 64513) := by
    bv_omega
  simp only [after, before, decide_eq_true_eq, hdiff, BitVec.toNat_ofNat]
  omega

/-- Where the walk finds no unit and the default usage is above 0, the run-out lies past the window by the quotient, held to
the cap (R47, R48). -/
theorem runOut_past {c : LineCount} {stock du : Nat} {us : List Nat} (hwalk : walk stock us = none) (hdu : 0 < du)
    (hstock : stock ≤ 3996) (hlen : 1 ≤ us.length ∧ us.length ≤ 64) :
    let past := (stock - us.sum) / du + 1
    runOut c stock du us =
      if us.length - 1 + past ≤ 1023 then (c + BitVec.ofNat 16 (us.length - 1) + BitVec.ofNat 16 past, false)
      else (c + 1023, true) := by
  intro past
  have hpast : past ≤ 3997 := by
    have := Nat.div_le_self (stock - us.sum) du
    omega
  have hend : c + BitVec.ofNat 16 us.length - 1 = c + BitVec.ofNat 16 (us.length - 1) := by bv_omega
  have hcap := after_cap c hlen hpast
  simp only [runOut, hwalk, if_neg (Nat.ne_of_gt hdu)]
  by_cases h : us.length - 1 + past ≤ 1023
  · rw [if_pos h, if_neg (by rw [hcap]; omega), hend]
  · rw [if_neg h, if_pos (by rw [hcap]; omega)]

theorem runOut_within_cap {c : LineCount} {stock du : Nat} {us : List Nat} (hstock : stock ≤ 3996)
    (hlen : 1 ≤ us.length ∧ us.length ≤ 64) : ((runOut c stock du us).1 - c).toNat ≤ 1023 := by
  have hcap : (c + 1023 - c).toNat ≤ 1023 := by bv_omega
  rcases hwalk : walk stock us with _ | k
  · rcases Nat.eq_zero_or_pos du with rfl | hdu
    · rw [runOut_of_no_use hwalk]; exact hcap
    · rw [runOut_past hwalk hdu hstock hlen]
      split
      next h =>
        dsimp only
        generalize (stock - us.sum) / du + 1 = past at h
        bv_omega
      · exact hcap
  · obtain ⟨hk, -⟩ := (walk_eq_some stock us k).mp hwalk
    rw [runOut_of_walk hwalk]
    dsimp only
    bv_omega

/-- Settles O25: the walk by induction on the usages, the run-out by what the walk finds. -/
theorem walkFindsFirstUncoveredUnit : Obligations.WalkFindsFirstUncoveredUnit := by
  refine ⟨walk_eq_some, walk_eq_none, fun c stock du us hstock hmin hmax => ⟨fun k => runOut_of_walk, ?_, ?_, ?_, ?_⟩⟩
  · rintro hwalk rfl; exact runOut_of_no_use hwalk
  · intro hwalk hdu hle; rw [runOut_past hwalk hdu hstock ⟨hmin, hmax⟩, if_pos hle]
  · intro hwalk hdu hlt; rw [runOut_past hwalk hdu hstock ⟨hmin, hmax⟩, if_neg (Nat.not_le.mpr hlt)]
  · exact runOut_within_cap hstock ⟨hmin, hmax⟩

end Sys2Proof.Machine
end

section
/-! PROOFS. The presence inputs and the loading face (R152 to R154), and the lamp frame (R146 to R148, R151, R155). -/

namespace Sys2Proof.Machine

/-! ## A trigger and a close, lane by lane -/

theorem LaneRec.commit_face (r : LaneRec) :
    r.commit.shown = (if r.fresh then r.staged else r.shown) ∧ r.commit.fresh = false ∧ r.commit.staged = r.staged := by
  unfold LaneRec.commit
  rcases hf : r.fresh <;> simp [hf]

theorem LaneRec.darken_face (r : LaneRec) (faceOpen : Bool) :
    (r.darken faceOpen).shown = .off ∧ (r.darken faceOpen).overfill = false ∧
      ((r.darken faceOpen).staged ≠ .off → (r.darken faceOpen).fresh = true) := by
  refine ⟨rfl, rfl, fun h => ?_⟩
  have hstaged : (LaneRec.stagedFor { r with overfill := false } != Pattern.off) = true :=
    bne_iff_ne.mpr h
  simp [LaneRec.darken, hstaged]

theorem LaneRec.darken_goods_delivery (r : LaneRec) (faceOpen : Bool) :
    (r.darken faceOpen).stock = r.stock ∧ (r.darken faceOpen).delivery = r.delivery := ⟨rfl, rfl⟩

theorem LaneRec.commit_goods_delivery (r : LaneRec) : r.commit.stock = r.stock ∧ r.commit.delivery = r.delivery := by
  unfold LaneRec.commit; split <;> exact ⟨rfl, rfl⟩

theorem State.presenceUp_lane (s : State) (k : Bank) (l : LaneIx) :
    (s.presenceUp k).lane l = if s.prof.isLocal k = true ∧ bankOf l = k then (s.lane l).commit else s.lane l := by
  unfold State.presenceUp
  rcases hlocal : s.prof.isLocal k
  · simp
  · simp [State.trigger_lane]

theorem State.presenceDown_lane (s : State) (k : Bank) (l : LaneIx) :
    (s.presenceDown k).lane l =
      if s.prof.isLocal k = true ∧ bankOf l = k then (s.lane l).darken (s.bank k).faceOpen else s.lane l := by
  unfold State.presenceDown
  rcases hlocal : s.prof.isLocal k
  · simp
  · simp [State.closeFace_lane]

theorem State.presenceUp_faceOpen (s : State) (k : Bank) :
    ((s.presenceUp k).bank k).faceOpen = (s.prof.isLocal k || (s.bank k).faceOpen) := by
  unfold State.presenceUp
  rcases hlocal : s.prof.isLocal k
  · simp
  · simp [State.trigger_bank]

theorem State.presenceDown_faceOpen (s : State) (k : Bank) :
    ((s.presenceDown k).bank k).faceOpen = (!s.prof.isLocal k && (s.bank k).faceOpen) := by
  unfold State.presenceDown
  rcases hlocal : s.prof.isLocal k
  · simp
  · simp [State.closeFace_bank]

/-- The input of the bank holds this level as accepted. -/
def State.presenceAccepted (s : State) (k : Bank) (level : Bool) : State :=
  s.modBank k fun b => { b with presence := .accept level }

theorem State.presenceAccepted_lane (s : State) (k : Bank) (level : Bool) (l : LaneIx) :
    (s.presenceAccepted k level).lane l = s.lane l := State.lane_congr (State.modBank_lanes ..) l

theorem State.presenceAccepted_faceOpen (s : State) (k : Bank) (level : Bool) :
    ((s.presenceAccepted k level).bank k).faceOpen = (s.bank k).faceOpen := by
  rw [State.presenceAccepted, State.bank_modBank, if_pos rfl]

theorem exec_presenceRise_of_rack {s : State} (k : Bank) (hw : s.worksAs .rack = true) :
    exec (.presenceRise k) s = .next ((s.presenceAccepted k true).presenceUp k).endEvent := by
  simp [exec, execPresenceRise, hw, State.event, State.presenceChange, State.presenceAccepted]

theorem exec_presenceFall_of_rack {s : State} (k : Bank) (hw : s.worksAs .rack = true) :
    exec (.presenceFall k) s = .next ((s.presenceAccepted k false).presenceDown k).endEvent := by
  simp [exec, execPresenceFall, hw, State.event, State.presenceChange, State.presenceAccepted]

theorem State.endEvent_bank (s : State) (k : Bank) : s.endEvent.bank k = s.bank k :=
  State.bank_congr (by simp) (by simp) k

/-- Settles O47: a rise triggers a LOCAL bank and a fall closes its face, lane by lane; on a FRAME bank neither acts. -/
theorem presenceWorksLocalFace : Obligations.PresenceWorksLocalFace := by
  intro s k hw
  have hprof : ∀ level, (s.presenceAccepted k level).prof = s.prof := fun level => State.modBank_prof ..
  have hup := fun l => (s.presenceAccepted k true).presenceUp_lane k l
  have hdown := fun l => (s.presenceAccepted k false).presenceDown_lane k l
  simp only [hprof, State.presenceAccepted_lane] at hup hdown
  refine ⟨⟨_, exec_presenceRise_of_rack k hw, fun hlocal => ⟨?_, fun l hl => ?_⟩, fun hframe => ⟨?_, fun l => ?_⟩,
      fun l => ?_, fun l hl => ?_, fun l => ?_, ?_⟩,
    _, exec_presenceFall_of_rack k hw, fun hlocal => ⟨?_, fun l hl => ?_⟩, fun hframe => ⟨?_, fun l => ?_⟩,
      fun l hl => ?_, fun l => ?_, ?_⟩
  · rw [State.endEvent_bank, State.presenceUp_faceOpen, hprof, hlocal, Bool.true_or]
  · obtain ⟨-, -, -, -, -, -, -, -, -, -, -, hfresh, hshown⟩ := ((s.presenceAccepted k true).presenceUp k).endEvent_lane l
    rw [hfresh, hshown, hup, if_pos ⟨hlocal, hl⟩]
    exact ⟨(s.lane l).commit_face.1, (s.lane l).commit_face.2.1⟩
  · rw [State.endEvent_bank, State.presenceUp_faceOpen, hprof, hframe, Bool.false_or, State.presenceAccepted_faceOpen]
  · rw [State.endEvent_steady, hup, if_neg (by simp [hframe])]
  · obtain ⟨-, -, -, -, -, -, -, -, -, -, hstaged, -⟩ := ((s.presenceAccepted k true).presenceUp k).endEvent_lane l
    rw [hstaged, hup]
    split
    · exact (s.lane l).commit_face.2.2
    · rfl
  · rw [State.endEvent_steady, hup, if_neg (fun h => hl h.2)]
  · obtain ⟨hstock, hdelivery, -⟩ := ((s.presenceAccepted k true).presenceUp k).endEvent_lane l
    rw [hstock, hdelivery, hup]
    split
    · exact (s.lane l).commit_goods_delivery
    · exact ⟨rfl, rfl⟩
  · simp [State.presenceAccepted]
  · rw [State.endEvent_bank, State.presenceDown_faceOpen, hprof, hlocal, Bool.not_true, Bool.false_and]
  · obtain ⟨-, -, -, -, -, -, -, -, -, hoverfill, hstaged, hfresh, hshown⟩ :=
      ((s.presenceAccepted k false).presenceDown k).endEvent_lane l
    rw [hoverfill, hstaged, hfresh, hshown, hdown, if_pos ⟨hlocal, hl⟩]
    exact LaneRec.darken_face ..
  · rw [State.endEvent_bank, State.presenceDown_faceOpen, hprof, hframe, Bool.not_false, Bool.true_and,
      State.presenceAccepted_faceOpen]
  · rw [State.endEvent_steady, hdown, if_neg (by simp [hframe])]
  · rw [State.endEvent_steady, hdown, if_neg (fun h => hl h.2)]
  · obtain ⟨hstock, hdelivery, -⟩ := ((s.presenceAccepted k false).presenceDown k).endEvent_lane l
    rw [hstock, hdelivery, hdown]
    split
    · exact LaneRec.darken_goods_delivery ..
    · exact ⟨rfl, rfl⟩
  · simp [State.presenceAccepted]

/-! ## The lamp frame -/

/-- FAST is lit in 6 frames from each of four places of the phase (R147). -/
theorem Pattern.lit_fast (phase : Nat) :
    Pattern.fast.lit phase = [0, 12, 25, 37].any fun q => decide (q ≤ phase ∧ phase < q + 6) := by
  rw [Bool.eq_iff_iff]
  simp only [Pattern.lit, List.any_cons, List.any_nil, Bool.or_eq_true, decide_eq_true_eq, Bool.false_eq_true,
    or_false]
  omega

theorem Pattern.lit_slow (phase : Nat) : Pattern.slow.lit phase = decide (phase ≤ 24) := rfl

theorem State.lampBits_length (s : State) : s.lampBits.length = 33 := by simp [State.lampBits, allLanes]

theorem State.lampBits_line (s : State) (l : LaneIx) :
    s.lampBits[l.val + 1]? = some (s.laneLamps && (s.lane l).lineFace.lit s.panel.phase) := by
  simp only [State.lampBits, List.getElem?_cons_succ]
  rw [List.getElem?_append_left (by simp [allLanes])]
  simp [allLanes]

theorem State.lampBits_loading (s : State) (l : LaneIx) :
    s.lampBits[l.val + 17]? = some (s.laneLamps && (s.lane l).shown.lit s.panel.phase) := by
  have hplace : l.val + 17 = (l.val + 16) + 1 := rfl
  simp only [State.lampBits, hplace, List.getElem?_cons_succ]
  rw [List.getElem?_append_right (by simp [allLanes])]
  simp [allLanes]

/-- The lamps of the lanes are worked in a working RACK (R146). -/
theorem State.laneLamps_eq {s : State} (h : s.start.resetLow = false) : s.laneLamps = s.worksAs .rack := by
  simp [State.laneLamps, State.worksAs, State.working, h, Bool.and_comm]

/-- Settles O49: the frame is the list of lamp bits at the phase, place by place. -/
theorem lampFrameShowsLamps : Obligations.LampFrameShowsLamps := by
  intro s hreset hrole slow fast lit
  have hlit : ∀ p : Pattern, lit p = p.lit s.panel.phase := fun p => by
    cases p
    case fast => exact (Pattern.lit_fast s.panel.phase).symm
    all_goals rfl
  have hfast : fast = Pattern.fast.lit s.panel.phase := (Pattern.lit_fast s.panel.phase).symm
  have hslow : slow = Pattern.slow.lit s.panel.phase := rfl
  have hshift : s.shiftLamps =
      { s with panel := { s.panel with chain := s.lampBits, phase := (s.panel.phase + 1) % 50 } } := by
    simp [State.shiftLamps, hreset, hrole]
  have hexec : exec .lampFrame s = .next
      { s with panel := { s.panel with chain := s.lampBits, phase := (s.panel.phase + 1) % 50 } } := by
    rw [← hshift]; rfl
  refine ⟨_, hexec, rfl, rfl, s.lampBits_length, ?_, fun l => ⟨fun hw => ⟨?_, ?_⟩, fun hw => ⟨?_, ?_⟩⟩⟩
  · rw [hfast, hslow]
    cases hst : s.start.state <;> cases hcl : s.air.clash <;> cases hli : s.line.state <;>
      simp [State.lampBits, State.statusLamp, hst, hcl, hli, Pattern.lit]
  · dsimp only
    rw [State.lampBits_line, State.laneLamps_eq hreset, hw, hfast, hslow, Bool.true_and]
    unfold LaneRec.lineFace
    cases hp : (s.lane l).present <;> cases hs : (s.lane l).starved <;> cases hr : (s.lane l).atRisk <;>
      simp [Pattern.lit]
  · dsimp only
    rw [State.lampBits_loading, State.laneLamps_eq hreset, hw, hlit, Bool.true_and]
  · dsimp only
    rw [State.lampBits_line, State.laneLamps_eq hreset, hw, Bool.false_and]
  · dsimp only
    rw [State.lampBits_loading, State.laneLamps_eq hreset, hw, Bool.false_and]

end Sys2Proof.Machine
end

section
/-! PROOFS. The display frame: 40 printable characters, the status field and the STOP index (R156, R158). -/

namespace Sys2Proof.Machine

/-! ## Printable characters -/

/-- Every character of the text is one that a display shows. -/
def printable (t : List Byte) : Prop := ∀ x ∈ t, 0x20 ≤ x.toNat ∧ x.toNat ≤ 0x7E

@[simp] theorem printable_append_iff (t u : List Byte) : printable (t ++ u) ↔ printable t ∧ printable u := by
  simp only [printable, List.mem_append]
  exact ⟨fun h => ⟨fun x hx => h x (.inl hx), fun x hx => h x (.inr hx)⟩, fun h x hx => hx.elim (h.1 x) (h.2 x)⟩

@[simp] theorem printable_nil : printable [] := nofun

theorem printable_spaces (n : Nat) : printable (List.replicate n 0x20) := fun x hx => by
  rw [List.eq_of_mem_replicate hx]; decide

@[simp] theorem printable_fit {t : List Byte} (width : Nat) (ht : printable t) : printable (fit width t) := fun x hx =>
  (printable_append_iff _ _).mpr ⟨ht, printable_spaces width⟩ x (List.mem_of_mem_take hx)

@[simp] theorem fit_length (width : Nat) (t : List Byte) : (fit width t).length = width := by simp [fit]

@[simp] theorem printable_decimal (n : Nat) : printable (decimal n) := fun x hx => by
  simp only [decimal, List.mem_map] at hx
  obtain ⟨c, hc, rfl⟩ := hx
  have hdigit := Nat.isDigit_of_mem_toDigits (by decide) (by decide) hc
  simp only [Char.isDigit, Bool.and_eq_true, decide_eq_true_eq] at hdigit
  have hlo : 48 ≤ c.toNat := hdigit.1
  have hhi : c.toNat ≤ 57 := hdigit.2
  rw [BitVec.toNat_ofNat]
  omega

theorem mem_intersperse {α : Type} {sep x : α} {xs : List α} (h : x ∈ xs.intersperse sep) : x = sep ∨ x ∈ xs := by
  induction xs with
  | nil => simp at h
  | cons y ys ih =>
    cases ys with
    | nil => exact .inr h
    | cons z zs =>
      rw [List.intersperse_cons_cons, List.mem_cons, List.mem_cons] at h
      rcases h with rfl | rfl | h
      · exact .inr List.mem_cons_self
      · exact .inl rfl
      · exact (ih h).imp_right (List.mem_cons_of_mem y)

/-- Printable fields make a printable line. -/
@[simp] theorem printable_fields {fs : List (List Byte)} (h : ∀ f ∈ fs, printable f) : printable (fields fs) := by
  intro x hx
  simp only [fields, List.mem_flatten] at hx
  obtain ⟨f, hf, hx⟩ := hx
  rcases mem_intersperse hf with rfl | hf
  · exact printable_spaces 1 x hx
  · exact h f hf x hx

@[simp] theorem printable_slash : printable (text "/") := by unfold printable; decide
@[simp] theorem printable_colon : printable (text ":") := by unfold printable; decide
@[simp] theorem printable_late : printable (text "LATE") := by unfold printable; decide
@[simp] theorem printable_empty : printable (text "EMPTY") := by unfold printable; decide
@[simp] theorem printable_noneOutstanding : printable (text "NONE OUTSTANDING") := by unfold printable; decide
@[simp] theorem printable_hold : printable (text "HOLD") := by unfold printable; decide
@[simp] theorem printable_noRun : printable (text "NO RUN") := by unfold printable; decide

@[simp] theorem printable_faultName (c : FaultCause) : printable (text c.name) := by
  unfold printable; cases c <;> decide

@[simp] theorem printable_noticeName (k : NoticeKind) : printable (text k.name) := by
  unfold printable; cases k <;> decide

@[simp] theorem printable_position (i n : Nat) : printable (position i n) := by simp [position]

@[simp] theorem printable_clockText (n : Nat) : printable (clockText n) := by simp [clockText]

/-! ## The two lines (R157, R161) -/

/-- Both lines are printable. -/
def Lines.ok (ls : Lines) : Prop := printable ls.line1 ∧ printable ls.line2

theorem State.noticeLines_ok (s : State) (x : Notice) : (s.noticeLines x).ok := by
  simp [Lines.ok, State.noticeLines]

theorem State.pickLines_ok (s : State) : s.pickLines.ok := by
  unfold State.pickLines
  split
  next e _ => cases e.late <;> simp [Lines.ok]
  · simp [Lines.ok]

theorem State.routeLines_ok (s : State) (r : Run) : (s.routeLines r).ok := by
  unfold State.routeLines
  split <;> simp [Lines.ok]

theorem State.stopLines_ok (s : State) (r : Run) : (s.stopLines r).ok := by
  unfold State.stopLines
  refine ⟨by simp, ?_⟩
  dsimp only
  split <;> simp

theorem State.modeLines_ok (s : State) : s.modeLines.ok := by
  unfold State.modeLines
  split
  · simp [Lines.ok]
  split
  · simp [Lines.ok, State.planLines]
  · exact s.pickLines_ok
  · exact s.routeLines_ok _
  · exact s.stopLines_ok _
  · exact s.stopLines_ok _
  · simp [Lines.ok, State.holdLines]

/-! ## The 40 characters (R156) -/

theorem State.statusField_eq (s : State) :
    s.statusField =
      if s.air.clash then [0x43, 0x4C, 0x53, 0x48]
      else if s.start.state = .listen then [0x4C, 0x53, 0x54, 0x4E]
      else if s.line.state = .unsynced then [0x53, 0x59, 0x4E, 0x43]
      else if s.line.state = .stale then [0x53, 0x54, 0x41, 0x4C]
      else [0x20, 0x20, 0x20, 0x20] := by
  unfold State.statusField
  cases s.line.state <;> rfl

theorem State.statusField_shape (s : State) : s.statusField.length = 4 ∧ printable s.statusField := by
  have hfield := s.statusField_eq
  split at hfield
  · rw [hfield]; exact ⟨rfl, by unfold printable; decide⟩
  split at hfield
  · rw [hfield]; exact ⟨rfl, by unfold printable; decide⟩
  split at hfield
  · rw [hfield]; exact ⟨rfl, by unfold printable; decide⟩
  split at hfield <;> (rw [hfield]; exact ⟨rfl, by unfold printable; decide⟩)

/-- In LISTEN and ACTIVE the frame holds two printable lines around the status field. -/
theorem State.displayText_of_working {s : State} (h : s.start.state = .listen ∨ s.start.state = .active) :
    ∃ ls : Lines, ls.ok ∧ s.displayText = fit 16 ls.line1 ++ s.statusField ++ fit 20 ls.line2 := by
  rcases hx : shownNotice s.panel.notices with _ | x
  · refine ⟨s.modeLines, s.modeLines_ok, ?_⟩
    rcases h with h | h <;> simp [State.displayText, h, hx]
  · refine ⟨s.noticeLines x, s.noticeLines_ok x, ?_⟩
    rcases h with h | h <;> simp [State.displayText, h, hx]

theorem State.displayText_of_loading {s : State} (h : s.start.state = .load ∨ s.start.state = .check) :
    s.displayText = List.replicate 40 0x20 := by
  rcases h with h | h <;> simp [State.displayText, h, fit]

theorem State.displayText_of_fault {s : State} (h : s.start.state = .fault) :
    s.displayText = fit 20 (text "FAULT") ++ fit 20 (text s.start.faultCause.name) := by
  simp [State.displayText, h]

/-- A display frame is always 40 printable characters. -/
theorem State.displayText_shape (s : State) : s.displayText.length = 40 ∧ printable s.displayText := by
  have hload : s.start.state = .load ∨ s.start.state = .check → s.displayText.length = 40 ∧ printable s.displayText :=
    fun h => by rw [State.displayText_of_loading h]; exact ⟨by simp, printable_spaces 40⟩
  have hwork : s.start.state = .listen ∨ s.start.state = .active →
      s.displayText.length = 40 ∧ printable s.displayText := fun h => by
    obtain ⟨ls, ⟨h1, h2⟩, heq⟩ := State.displayText_of_working h
    obtain ⟨hlen, hok⟩ := s.statusField_shape
    rw [heq]
    simp [hlen, hok, h1, h2]
  cases hst : s.start.state
  case load => exact hload (.inl hst)
  case check => exact hload (.inr hst)
  case listen => exact hwork (.inl hst)
  case active => exact hwork (.inr hst)
  case fault =>
    have hfault : printable (text "FAULT") := by unfold printable; decide
    rw [State.displayText_of_fault hst]
    simp [hfault]

/-! ## The STOP index (R158) -/

/-- The STOP index stands past the end of the list of the present stop. -/
def State.stopIxPast (s : State) : Prop :=
  (s.start.state = .listen ∨ s.start.state = .active) ∧ ∃ r, s.planner.current.or s.planner.planning = some r ∧
    (r.state = .atstop ∨ r.state = .detour) ∧
    (s.planner.manifest.filter fun e => some e.stop == r.present && e.status != .done).length < s.panel.stopIx

theorem State.stopCount_any (s : State) :
    (s.stopCount.any fun m => decide (m < s.panel.stopIx)) = true ↔
      ∃ r, s.planner.lead = some r ∧ (r.state = .atstop ∨ r.state = .detour) ∧
        (s.stopList r).length < s.panel.stopIx := by
  unfold State.stopCount
  rcases hl : s.planner.lead with _ | r
  · simp
  · by_cases hst : r.state = .atstop ∨ r.state = .detour
    · simp [hst]
    · simp [hst]

theorem State.trimStopIx_panel {s : State} (hreset : s.start.resetLow = false) :
    (s.stopIxPast → s.trimStopIx = { s with panel.stopIx := 1 }) ∧ (¬s.stopIxPast → s.trimStopIx = s) := by
  have hiff : (s.working && s.stopCount.any fun m => decide (m < s.panel.stopIx)) = true ↔ s.stopIxPast := by
    rw [Bool.and_eq_true, State.stopCount_any, State.working_iff, State.stopIxPast]
    simp only [hreset, true_and]
    rfl
  refine ⟨fun h => ?_, fun h => ?_⟩
  · rw [State.trimStopIx, if_pos (hiff.mpr h)]
  · rw [State.trimStopIx, if_neg (mt hiff.mp h)]

/-- Settles O50: the characters by the start state, and the STOP index by its test. -/
theorem displayFrameHoldsForty : Obligations.DisplayFrameHoldsForty := by
  intro s hreset hrole working past
  have hshift : s.shiftDisplay = { s.trimStopIx with panel.display := s.trimStopIx.displayText } := by
    simp [State.shiftDisplay, hreset, hrole]
  obtain ⟨hpast, hnot⟩ := State.trimStopIx_panel hreset
  obtain ⟨hlen, hok⟩ := s.trimStopIx.displayText_shape
  have hrest : { s with panel := s.trimStopIx.panel } = s.trimStopIx := by
    by_cases h : s.stopIxPast
    · rw [hpast h]
    · rw [hnot h]
  have hpanel : s.trimStopIx.panel = { s.panel with stopIx := s.trimStopIx.panel.stopIx } := by
    by_cases h : s.stopIxPast
    · rw [hpast h]
    · rw [hnot h]
  have hexec : exec .displayFrame s =
      .next { s with panel.display := s.trimStopIx.displayText, panel.stopIx := s.trimStopIx.panel.stopIx } := by
    refine congrArg Host.Outcome.next (hshift.trans ?_)
    rw [← hrest]
    dsimp only
    rw [hrest, hpanel]
  obtain ⟨hstart, -⟩ := s.trimStopIx_frame
  refine ⟨_, hexec, rfl, fun h => ?_, fun h => ?_, ?_, hlen, hok, fun h x hx => ?_, fun h => ?_, fun h => ?_⟩
  · dsimp only; rw [hpast h]
  · dsimp only; rw [hnot h]
  · dsimp only [State.displayBits]
    rw [funext msbFirst_eq]
  · dsimp only at hx
    rw [State.displayText_of_loading (by rwa [hstart])] at hx
    exact List.eq_of_mem_replicate hx
  · dsimp only
    rw [State.displayText_of_fault (by rwa [hstart])]
    rfl
  · dsimp only
    obtain ⟨ls, -, heq⟩ := State.displayText_of_working (s := s.trimStopIx) (by rwa [hstart])
    obtain ⟨hfield, -⟩ := s.trimStopIx.statusField_shape
    have hdrop : (s.trimStopIx.displayText.drop 16).take 4 = s.trimStopIx.statusField := by
      rw [heq, List.append_assoc, List.drop_left' (fit_length 16 _), List.take_left' hfield]
    rw [hdrop, State.statusField_eq]
    simp

end Sys2Proof.Machine
end

section
/-! PROOFS. Every payload written is read back whole (R167, R170). -/

namespace Sys2Proof.Machine

/-! ## Words, bytes and flags -/

@[simp] theorem word_loByte_hiByte (w : BitVec 16) : word (loByte w) (hiByte w) = w := by
  unfold word loByte hiByte
  apply BitVec.eq_of_toNat_eq
  simp only [BitVec.toNat_append, BitVec.toNat_setWidth, BitVec.toNat_ushiftRight, Nat.shiftRight_eq_div_pow]
  have := w.isLt
  rw [Nat.mod_eq_of_lt (by omega : w.toNat / 2 ^ 8 < 2 ^ 8), Nat.shiftLeft_eq, Nat.mul_comm,
    ← Nat.two_pow_add_eq_or_of_lt (by omega)]
  omega

theorem byte_toNat {n : Nat} (h : n < 256) : (byte n).toNat = n := by
  simp only [byte, BitVec.toNat_ofNat]; omega

/-- A number below 128 and a flag written in one byte are read back. -/
theorem flag7_withFlag7 (n : Nat) (x : Bool) : flag7 (withFlag7 n x) = x := by
  have hlt : n % 128 + (if x then 128 else 0) < 256 := by split <;> omega
  rw [flag7, BitVec.msb_eq_decide, withFlag7, byte_toNat hlt]
  cases x
  · simp; omega
  · simp

theorem low7_withFlag7 {n : Nat} (h : n < 128) (x : Bool) : low7 (withFlag7 n x) = n := by
  have hlt : n % 128 + (if x then 128 else 0) < 256 := by split <;> omega
  rw [low7, withFlag7, byte_toNat hlt]
  split <;> omega

theorem noticeState_code (st : NoticeState) : noticeState (byte st.code).toNat = some st := by
  cases st with
  | heldAs st => cases st <;> rfl
  | closed => rfl

/-! ## Lists of items -/

theorem readStops_write {stops : List StopItem} (h : ∀ i ∈ stops, i.stop < 128) :
    readStops (stops.flatMap writeStop) = stops := by
  induction stops with
  | nil => rfl
  | cons i rest ih =>
    rw [List.forall_mem_cons] at h
    simp [writeStop, bytes2, readStops, ih h.2, flag7_withFlag7, low7_withFlag7 h.1]

/-- The fields of a claim item fit their bytes. -/
def ClaimItem.fits (c : ClaimItem) : Prop := c.lane < 256 ∧ c.stop < 256 ∧ c.cls < 128 ∧ c.size < 256 ∧ c.bins < 256

theorem readClaims_write {items : List ClaimItem} (h : ∀ c ∈ items, c.fits) :
    readClaims (items.flatMap writeClaim) = items := by
  induction items with
  | nil => rfl
  | cons c rest ih =>
    rw [List.forall_mem_cons] at h
    obtain ⟨⟨hlane, hstop, hcls, hsize, hbins⟩, hrest⟩ := h
    simp [writeClaim, bytes2, readClaims, ih hrest, flag7_withFlag7, low7_withFlag7 hcls, byte_toNat hlane,
      byte_toNat hstop, byte_toNat hsize, byte_toNat hbins]

/-- The fields of a manifest entry fit their bytes. -/
def PartEntry.fits (e : PartEntry) : Prop := e.station < 256 ∧ e.lane < 256 ∧ e.stop < 256 ∧ e.bins < 256

theorem readPartEntries_write {es : List PartEntry} (h : ∀ e ∈ es, e.fits) :
    readPartEntries (es.flatMap writePartEntry) = es := by
  induction es with
  | nil => rfl
  | cons e rest ih =>
    rw [List.forall_mem_cons] at h
    obtain ⟨⟨hstation, hlane, hstop, hbins⟩, hrest⟩ := h
    simp [writePartEntry, readPartEntries, ih hrest, byte_toNat hstation, byte_toNat hlane, byte_toNat hstop,
      byte_toNat hbins]

/-- The fields of a receipt item fit their bytes. -/
def ReceiptItem.fits (i : ReceiptItem) : Prop := i.lane < 256 ∧ i.delivered < 256 ∧ i.requested < 256

theorem readReceiptItems_write {items : List ReceiptItem} (h : ∀ i ∈ items, i.fits) :
    readReceiptItems (items.flatMap writeReceiptItem) = items := by
  induction items with
  | nil => rfl
  | cons i rest ih =>
    rw [List.forall_mem_cons] at h
    obtain ⟨⟨hlane, hdelivered, hrequested⟩, hrest⟩ := h
    simp [writeReceiptItem, readReceiptItems, ih hrest, byte_toNat hlane, byte_toNat hdelivered, byte_toNat hrequested]

/-- Items of one width make a list of so many times that width. -/
theorem flatMap_length_of_width {α : Type} {f : α → List Byte} {w : Nat} (h : ∀ x, (f x).length = w) (xs : List α) :
    (xs.flatMap f).length = w * xs.length := by
  simp [List.length_flatMap, h, Nat.mul_comm]

/-! ## Payloads -/

theorem readRun_write {r : RunNotice} (h0 : r.caps.c0 < 256) (h1 : r.caps.c1 < 256) (h2 : r.caps.c2 < 256)
    (h3 : r.caps.c3 < 256) (hstops : ∀ i ∈ r.stops, i.stop < 128) : readRun (writeRun r) = some r := by
  simp [writeRun, bytes2, readRun, noticeState_code, readStops_write hstops, byte_toNat h0, byte_toNat h1,
    byte_toNat h2, byte_toNat h3]

theorem writeRun_shape {r : RunNotice} (h : r.stops.length < 256) : shapeFits .run (writeRun r) = true := by
  have hlen := flatMap_length_of_width (f := writeStop) (w := 3) (fun _ => rfl) r.stops
  simp [shapeFits, writeRun, bytes2, byte_toNat h, hlen]
  omega

theorem readClaimset_write {src : Byte} {items : List ClaimItem} (hlen : items.length ≤ 16) (h : ∀ c ∈ items, c.fits) :
    readClaimset src (writeClaimset items) = some ⟨src.toNat, items⟩ := by
  have hwidth := flatMap_length_of_width (f := writeClaim) (w := 9) (fun _ => rfl) items
  simp [readClaimset, writeClaimset, byte_toNat (n := items.length) (by omega), hlen, hwidth, readClaims_write h]

theorem writePart_bytes {p : ManifestPart} (hindex : p.index < 4) (hcount : 1 ≤ p.count ∧ p.count ≤ 4)
    (hlen : p.entries.length ≤ 8) :
    (byte (p.index * 16 + p.count)).toNat / 16 = p.index ∧ (byte (p.index * 16 + p.count)).toNat % 16 = p.count ∧
      (byte p.entries.length).toNat = p.entries.length := by
  rw [byte_toNat (by omega), byte_toNat (by omega)]
  omega

theorem readPart_write {p : ManifestPart} (hindex : p.index < 4) (hcount : 1 ≤ p.count ∧ p.count ≤ 4)
    (hlen : p.entries.length ≤ 8) (h : ∀ e ∈ p.entries, e.fits) : readPart (writePart p) = some p := by
  obtain ⟨hi, hc, -⟩ := writePart_bytes hindex hcount hlen
  simp [readPart, writePart, bytes2, hi, hc, readPartEntries_write h]

theorem writePart_shape {p : ManifestPart} (hindex : p.index < 4) (hcount : 1 ≤ p.count ∧ p.count ≤ 4)
    (hlen : p.entries.length ≤ 8) : shapeFits .manifest (writePart p) = true := by
  obtain ⟨-, hc, he⟩ := writePart_bytes hindex hcount hlen
  have hwidth := flatMap_length_of_width (f := writePartEntry) (w := 4) (fun _ => rfl) p.entries
  simp [shapeFits, writePart, bytes2, hc, he, hwidth, hcount, hlen]
  omega

/-- The two flags of an ARRIVE are bits 0 and 1 of their byte. -/
theorem arriveFlags : ∀ detour revisit : Bool,
    (byte ((if detour then 1 else 0) + if revisit then 2 else 0)).getLsbD 0 = detour ∧
      (byte ((if detour then 1 else 0) + if revisit then 2 else 0)).getLsbD 1 = revisit := by
  decide

theorem readArrive_write {a : Arrival} (h : a.stop < 256) : readArrive (writeArrive a) = some a := by
  obtain ⟨hd, hr⟩ := arriveFlags a.detour a.revisit
  simp only [readArrive, writeArrive, bytes2, List.cons_append, List.nil_append, word_loByte_hiByte, byte_toNat h, hd, hr]

theorem readReceipt_write {r : Receipt} (hstop : r.stop < 256) (hlen : r.items.length ≤ 8) (h : ∀ i ∈ r.items, i.fits) :
    readReceipt (writeReceipt r) = some r := by
  have hwidth := flatMap_length_of_width (f := writeReceiptItem) (w := 3) (fun _ => rfl) r.items
  simp [readReceipt, writeReceipt, bytes2, byte_toNat (n := r.items.length) (by omega), hlen, hwidth,
    readReceiptItems_write h, byte_toNat hstop]

/-- Settles O59: payload by payload, the lists of items by induction. -/
theorem payloadsReadBack : Obligations.PayloadsReadBack := by
  refine ⟨fun u => ?_, fun r h0 h1 h2 h3 hlen hstops => ⟨readRun_write h0 h1 h2 h3 hstops, writeRun_shape hlen⟩,
    fun src items hlen h => readClaimset_write hlen h,
    fun p hindex hmin hmax hlen h => ⟨readPart_write hindex ⟨hmin, hmax⟩ hlen h, writePart_shape hindex ⟨hmin, hmax⟩ hlen⟩,
    fun a h => readArrive_write h, fun d h => ?_, fun r hstop hlen h => readReceipt_write hstop hlen h⟩
  · simp [writeUnit, bytes2, readUnit]
  · simp [writeDepart, bytes2, readDepart, byte_toNat h]

end Sys2Proof.Machine
end

section
/-! PROOFS. Reception of a frame as it is sent and the faults of reception (R165 to R171), and sending (R163, R178, R179,
R181). -/

namespace Sys2Proof.Machine

/-! ## A frame received as sent -/

/-- The bytes of a frame from LEN to the payload. -/
def frameBody (code src : Byte) (p : List Byte) : List Byte := BitVec.ofNat 8 (p.length + 2) :: code :: src :: p

theorem wireBytes_eq (src : Byte) (f : TxFrame) :
    (wireBytes src f).drop 1 = frameBody f.kind.code src f.payload ++
      [loByte (crc (frameBody f.kind.code src f.payload)), hiByte (crc (frameBody f.kind.code src f.payload))] := rfl

/-- Bytes of a whole frame in reception go to the test of their CRC, with the receive side hunting again. -/
theorem State.frameComplete_body {s : State} {code src : Byte} {p : List Byte} (lo hi : Byte) (hr : s.receiving = true)
    (hrx : s.air.rx = .inFrame) (hp : p.length ≤ 248) :
    s.frameComplete (frameBody code src p ++ [lo, hi]) =
      if crc (frameBody code src p) = word lo hi then s.hunting.acceptFrame code src p
      else { s.hunting with cnt.crc := bump16 s.cnt.crc } := by
  have hlen : (BitVec.ofNat 8 (p.length + 2)).toNat = p.length + 2 := by simp; omega
  have hgood : badLen (BitVec.ofNat 8 (p.length + 2)) = false := by simp only [badLen, hlen, decide_eq_false_iff_not]; omega
  have htake : (code :: src :: (p ++ [lo, hi])).take (p.length + 2) = code :: src :: p := by simp
  have hdrop : (code :: src :: (p ++ [lo, hi])).drop (p.length + 2) = [lo, hi] := by simp
  have hsize : (code :: src :: (p ++ [lo, hi])).length = p.length + 2 + 2 := by simp
  simp only [frameBody, State.frameComplete, hr, hrx, List.cons_append, hgood, hlen, hsize, htake, hdrop]
  rfl

theorem word_toNat (lo hi : Byte) : (word lo hi).toNat = 2 ^ 8 * hi.toNat + lo.toNat := by
  rw [word, BitVec.toNat_append, Nat.shiftLeft_eq, Nat.mul_comm, Nat.two_pow_add_eq_or_of_lt lo.isLt]

theorem word_injective {lo hi lo' hi' : Byte} (h : word lo hi = word lo' hi') : lo = lo' ∧ hi = hi' := by
  have hnat := congrArg BitVec.toNat h
  rw [word_toNat, word_toNat] at hnat
  have h1 := lo.isLt
  have h2 := lo'.isLt
  exact ⟨BitVec.eq_of_toNat_eq (by omega), BitVec.eq_of_toNat_eq (by omega)⟩

/-- Settles O51: the CRC of the body is the word that its two bytes make, and no other pair makes it. -/
theorem frameReceivedAsSent : Obligations.FrameReceivedAsSent := by
  intro s src f hr hrx hp
  refine ⟨?_, fun body lo hi heq lo' hi' hne => ?_⟩
  · refine congrArg Host.Outcome.next ?_
    rw [wireBytes_eq, State.frameComplete_body _ _ hr hrx hp, if_pos (word_loByte_hiByte _).symm]
    rfl
  · rw [wireBytes_eq] at heq
    obtain ⟨rfl, hcheck⟩ := List.append_inj' heq rfl
    simp only [List.cons.injEq, and_true] at hcheck
    obtain ⟨rfl, rfl⟩ := hcheck
    refine congrArg Host.Outcome.next ?_
    rw [State.frameComplete_body _ _ hr hrx hp, if_neg]
    · rfl
    · intro hc
      rw [← word_loByte_hiByte (crc (frameBody f.kind.code src f.payload))] at hc
      obtain ⟨h1, h2⟩ := word_injective hc
      exact hne (Prod.ext h1.symm h2.symm)

/-! ## The faults of reception (R168 to R171) -/

theorem State.acceptFrame_clash {s : State} (code : Byte) {src : Byte} (p : List Byte) (h : src = s.ownByte) :
    s.acceptFrame code src p = { s with air.clash := true, cnt.clash := bump16 s.cnt.clash } := by
  simp [State.acceptFrame, State.fate, h]

theorem State.acceptFrame_badSource {s : State} {code src : Byte} (p : List Byte) (h : src ≠ s.ownByte)
    (hsrc : src = 0 ∨ 128 ≤ src.toNat ∨ (src.toNat = 127 ∧ code ≠ FrameKind.query.code)) :
    s.acceptFrame code src p = { s with cnt.source := bump16 s.cnt.source } := by
  simp only [State.acceptFrame, State.fate, if_neg h, if_pos hsrc]

/-- The source of a frame that passes the source test whatever its kind. -/
def goodSource (own src : Byte) : Prop := src ≠ own ∧ 1 ≤ src.toNat ∧ src.toNat ≤ 126

theorem goodSource.passes {own src : Byte} (h : goodSource own src) (code : Byte) :
    ¬(src = 0 ∨ 128 ≤ src.toNat ∨ (src.toNat = 127 ∧ code ≠ FrameKind.query.code)) := by
  obtain ⟨-, hlo, hhi⟩ := h
  rintro (rfl | h128 | ⟨h127, -⟩)
  · simp at hlo
  · omega
  · omega

theorem State.acceptFrame_badKind {s : State} {code src : Byte} (p : List Byte) (h : goodSource s.ownByte src)
    (hcode : kindOfCode code = none) :
    s.acceptFrame code src p = { s with cnt.kind := bump16 s.cnt.kind } := by
  simp only [State.acceptFrame, State.fate, if_neg h.1, if_neg (h.passes code), hcode]

theorem State.acceptFrame_badShape {s : State} {k : FrameKind} {src : Byte} {p : List Byte}
    (h : goodSource s.ownByte src) (hshape : shapeFits k p = false) :
    s.acceptFrame k.code src p = { s with cnt.length := bump16 s.cnt.length } := by
  simp only [State.acceptFrame, State.fate, if_neg h.1, if_neg (h.passes k.code), k.kindOfCode_code, hshape,
    Bool.not_false, if_true]

theorem State.acceptFrame_overrun {s : State} {k : FrameKind} {src : Byte} {p : List Byte}
    (h : goodSource s.ownByte src) (hshape : shapeFits k p = true) (hfull : 8 ≤ s.air.rxq.length) :
    s.acceptFrame k.code src p = { s with cnt.overrun := bump16 s.cnt.overrun } := by
  simp only [State.acceptFrame, State.fate, if_neg h.1, if_neg (h.passes k.code), k.kindOfCode_code, hshape,
    Bool.not_true, Bool.false_eq_true, if_false, if_pos hfull]

theorem State.arrives_of_receiving {s : State} (h : s.receiving = true) (k : FrameKind) (src : Byte) (p : List Byte) :
    s.arrives k src p = s.hunting.acceptFrame k.code src p := by
  rw [State.arrives, if_pos h]; rfl

theorem State.arrives_of_not_receiving {s : State} (h : s.receiving = false) (k : FrameKind) (src : Byte) (p : List Byte) :
    s.arrives k src p = s := by
  simp [State.arrives, h]

theorem State.abandonBroken_inFrame {s : State} (h : s.air.rx = .inFrame) :
    s.abandonBroken = { s with air.rx := .hunting, cnt.broken := bump16 s.cnt.broken } := by
  simp [State.abandonBroken, h]

theorem State.abandonBroken_hunting {s : State} (h : s.air.rx = .hunting) : s.abandonBroken = s := by
  simp [State.abandonBroken, h]

/-- A code that is none of the nine names no kind (R171). -/
theorem kindOfCode_none {code : Byte}
    (h : code ∉ ([0x21, 0x22, 0x23, 0x24, 0x25, 0x26, 0x27, 0x2E, 0x2F] : List Byte)) : kindOfCode code = none := by
  simp only [kindOfCode, List.find?_eq_none, beq_iff_eq]
  intro k _ hk
  exact h (hk ▸ by cases k <;> decide)

/-- The faults between frames, at a station that reads its receiver. -/
theorem receptionFaults_between (s : State) (len : Byte) (hr : s.receiving = true) :
    exec .syncByte s = .next { s with air.rx := .inFrame } ∧
    (s.air.rx = .inFrame → len.toNat < 2 ∨ 250 < len.toNat →
      exec (.lengthAbandon len) s = .next { s with air.rx := .hunting, cnt.length := min (s.cnt.length + 1) 65535 }) ∧
    (s.air.rx = .inFrame →
      exec .byteGapTimeout s = .next { s with air.rx := .hunting, cnt.broken := min (s.cnt.broken + 1) 65535 } ∧
      exec .lowStopBit s = .next { s with air.rx := .hunting, cnt.broken := min (s.cnt.broken + 1) 65535 }) ∧
    (s.air.rx = .hunting → exec (.lengthAbandon len) s = .next s ∧ exec .byteGapTimeout s = .next s ∧
      exec .lowStopBit s = .next s) := by
  refine ⟨?_, fun hrx hbad => ?_, fun hrx => ⟨?_, ?_⟩, fun hrx => ⟨?_, ?_, ?_⟩⟩
  · simp [exec, execSyncByte, hr]
  · have hbad' : badLen len = true := decide_eq_true hbad
    simp [exec, execLengthAbandon, hr, hrx, hbad', State.abandonLength, bump16, sat16]
  · simp [exec, execByteGapTimeout, hr, State.abandonBroken_inFrame hrx, bump16, sat16]
  · simp [exec, execLowStopBit, hr, State.abandonBroken_inFrame hrx, bump16, sat16]
  · simp [exec, execLengthAbandon, hrx]
  · simp [exec, execByteGapTimeout, State.abandonBroken_hunting hrx]
  · simp [exec, execLowStopBit, State.abandonBroken_hunting hrx]

theorem shapeFits_arrive (p : List Byte) : shapeFits .arrive p = decide (p.length = 4) := by
  rw [Bool.eq_iff_iff]
  simp only [shapeFits, beq_iff_eq, decide_eq_true_eq]
  omega

/-- Settles O52: between frames, on a frame whose CRC matched in the order of the tests, and with the receiver off. -/
theorem receptionFaultsCounted : Obligations.ReceptionFaultsCounted := by
  refine ⟨receptionFaults_between, fun s src p hr => ⟨fun hown => ?_, fun hne hsrc => ?_, fun hne hsrc => ?_,
      fun hne hlo hhi hlen => ?_, fun hne hlo hhi hlen hfull => ?_⟩,
    fun s code src p hr hrx hlen hcode hne hlo hhi => ?_, fun s src p hr => ?_⟩
  · exact congrArg Host.Outcome.next ((State.arrives_of_receiving hr ..).trans (State.acceptFrame_clash (s := s.hunting) _ p hown))
  · exact congrArg Host.Outcome.next ((State.arrives_of_receiving hr ..).trans
      (State.acceptFrame_badSource (s := s.hunting) p hne (hsrc.imp_right .inl)))
  · exact congrArg Host.Outcome.next ((State.arrives_of_receiving hr ..).trans
      (State.acceptFrame_badSource (s := s.hunting) p hne (.inr (.inr ⟨by rw [hsrc]; rfl, by decide⟩))))
  · exact congrArg Host.Outcome.next ((State.arrives_of_receiving hr ..).trans
      (State.acceptFrame_badShape (s := s.hunting) ⟨hne, hlo, hhi⟩ (by simp [shapeFits_arrive, hlen])))
  · exact congrArg Host.Outcome.next ((State.arrives_of_receiving hr ..).trans
      (State.acceptFrame_overrun (s := s.hunting) ⟨hne, hlo, hhi⟩ (by simp [shapeFits_arrive, hlen]) hfull))
  · intro body
    have hbody := State.frameComplete_body (code := code) (src := src) (p := p)
      (loByte (crc (frameBody code src p))) (hiByte (crc (frameBody code src p))) hr hrx hlen
    rw [if_pos (word_loByte_hiByte _).symm,
      State.acceptFrame_badKind (s := s.hunting) p ⟨hne, hlo, hhi⟩ (kindOfCode_none hcode)] at hbody
    exact congrArg Host.Outcome.next hbody
  · have harr := fun k => congrArg (Host.Outcome.next : State → Result) (State.arrives_of_not_receiving hr k src p)
    refine ⟨by simp [exec, execSyncByte, hr], by simp [exec, execFrameComplete, State.frameComplete, hr], harr .unit,
      harr .run, harr .manifest, harr .claimset, harr .arrive, harr .depart, harr .receipt, harr .query⟩

/-! ## Sending (R163, R178, R179, R181) -/

theorem State.beginSend_eq {s : State} {f : TxFrame} {rest : List TxFrame} (h : s.air.txq = f :: rest) :
    s.beginSend =
      ({ s.abandonBroken with air.txq := rest, air.quiet := none,
                              air.tx := some ⟨wireBytes s.ownByte f, (wireBytes s.ownByte f).length + 1⟩ } : State).drawHead := by
  simp only [State.beginSend, h]

theorem wireBytes_length (own : Byte) (f : TxFrame) : (wireBytes own f).length = f.payload.length + 6 := by
  simp [wireBytes]

/-- What abandoning a reception leaves, and the count of one in progress. -/
theorem State.abandonBroken_eq (s : State) :
    s.abandonBroken =
      { s with air.rx := .hunting,
               cnt.broken := if s.air.rx = .inFrame then bump16 s.cnt.broken else s.cnt.broken } := by
  rcases h : s.air.rx
  · rw [State.abandonBroken_hunting h, if_neg (by decide), ← h]
  · rw [State.abandonBroken_inFrame h, if_pos rfl]

theorem State.drawHead_nil {s : State} (h : s.air.txq = []) : s.drawHead = { s with air.backoff := 0 } := by
  simp [State.drawHead, h]

theorem State.drawHead_cons {s : State} {g : TxFrame} {more : List TxFrame} (h : s.air.txq = g :: more) :
    s.drawHead = { s with air.random := randomDraw s.air.random,
                          air.backoff := (randomDraw s.air.random).toNat % g.kind.window } := by
  simp [State.drawHead, h]

theorem txdByte_eq (x : Byte) :
    txdByte x = [false, x.getLsbD 0, x.getLsbD 1, x.getLsbD 2, x.getLsbD 3, x.getLsbD 4, x.getLsbD 5, x.getLsbD 6,
      x.getLsbD 7, true] := by
  simp [txdByte, List.range_succ]

theorem Sending.current_of_place {bytes : List Byte} {i : Nat} {x : Byte} (h : bytes[i]? = some x) :
    Sending.current ⟨bytes, bytes.length - i⟩ = some x := by
  obtain ⟨hi, -⟩ := List.getElem?_eq_some_iff.mp h
  have hback : bytes.length - (bytes.length - i) = i := by omega
  rw [Sending.current, if_neg (by dsimp only; omega)]
  dsimp only
  rw [hback, h]

/-- Settles O54: the access to the channel by its tests, and TXD by the place of the frame being sent. -/
theorem sendingFollowsChannelAccess : Obligations.SendingFollowsChannelAccess := by
  intro s
  refine ⟨rfl, fun hport htx => ?_, fun f rest hport htx hq hb hquiet => ?_, fun hno => ?_, fun htx => ?_,
    fun bytes htx => ?_, fun bytes i x hx htx => ?_, fun x htx hleft => ?_⟩
  · simp [exec, execCarrierFall, State.carrierFall, State.key, hport, htx]
  · have hmay : s.maySend = true := by simp [State.maySend, State.key, hport, htx, hq, hb, hquiet]
    have hbegin := State.beginSend_eq hq
    rw [State.abandonBroken_eq, wireBytes_length] at hbegin
    refine ⟨_, by rw [exec, execSendStart, if_pos hmay, hbegin], ?_⟩
    cases rest with
    | nil => rw [State.drawHead_nil rfl]; simp [bump16, sat16]
    | cons g more => rw [State.drawHead_cons rfl]; simp [bump16, sat16]
  · have hmay : s.maySend = false := by
      rcases hno with h | h | h | h <;> simp [State.maySend, State.key, h]
    simp [exec, execSendStart, hmay]
  · simp [State.txdBits, htx]
  · have hnone : s.air.tx.bind Sending.current = none := by
      rcases htx with htx | htx <;> simp [htx, Sending.current]
    simp [State.txdBits, hnone]
  · have hsome : s.air.tx.bind Sending.current = some x := by
      rw [htx]; exact Sending.current_of_place hx
    simp only [State.txdBits, hsome]
    exact txdByte_eq x
  · simp [exec, execSendEnd, htx, hleft, State.finishSend]

end Sys2Proof.Machine
end

section
/-! PROOFS. A QUERY and the REPORT that answers it, and the content of every page (R197 to R202). -/

namespace Sys2Proof.Machine

/-! ## Bytes of a page -/

/-- Seven flags in one byte, the first in bit 0. -/
theorem packFlags_seven : ∀ a b c d e f g : Bool, packFlags [a, b, c, d, e, f, g] =
    [byte (([a, b, c, d, e, f, g].zipIdx.map fun x => if x.1 then 2 ^ x.2 else 0).sum)] := by
  decide

theorem packFlags_three : ∀ a b c : Bool, packFlags [a, b, c] =
    [byte (([a, b, c].zipIdx.map fun x => if x.1 then 2 ^ x.2 else 0).sum)] := by
  decide

theorem signed2_zero : signed2 0 = [0, 0] := by decide

theorem signed2_offset (n x : LineCount) : signed2 (offset n x) = bytes2 (x - n) := by
  rw [signed2, offset, BitVec.ofInt_toInt]

@[simp] theorem bytes2_length (w : BitVec 16) : (bytes2 w).length = 2 := rfl
@[simp] theorem le2_length (n : Nat) : (le2 n).length = 2 := rfl
@[simp] theorem signed2_length (x : Int) : (signed2 x).length = 2 := rfl

/-! ## RACK pages (R200) -/

theorem State.laneHead_length (s : State) (r : LaneRec) : (s.laneHead r).length = 8 := by
  unfold State.laneHead; split <;> simp

theorem State.lanePage_length (s : State) (l : LaneIx) : (s.lanePage l).length = 20 := by
  simp only [State.lanePage, LaneRec.flags, LaneRec.latches, packFlags_seven, packFlags_three, List.length_append,
    State.laneHead_length]
  rfl

/-- Of parts of one width, laid one after another, the part at a place begins at that many widths. -/
theorem flatMap_part {α : Type} {f : α → List Byte} {w : Nat} (h : ∀ x, (f x).length = w) {xs : List α} {i : Nat} {x : α}
    (hx : xs[i]? = some x) : ((xs.flatMap f).drop (w * i)).take w = f x := by
  induction xs generalizing i with
  | nil => simp at hx
  | cons y ys ih =>
    cases i with
    | zero =>
      obtain rfl : y = x := by simpa using hx
      rw [List.flatMap_cons, Nat.mul_zero, List.drop_zero, List.take_left' (h y)]
    | succ i =>
      rw [List.flatMap_cons, Nat.mul_succ, Nat.add_comm, ← List.drop_drop, List.drop_left' (h y)]
      exact ih (by simpa using hx)

theorem pageLanes_get (l : LaneIx) : ((allLanes.drop (4 * (l.val / 4))).take 4)[l.val % 4]? = some l := by
  rw [List.getElem?_take_of_lt (Nat.mod_lt _ (by decide)), List.getElem?_drop, Nat.div_add_mod]
  simp [allLanes]

theorem State.rackPage_lane (s : State) (l : LaneIx) :
    (s.rackPage (l.val / 4 + 1)).length = 80 ∧
      ((s.rackPage (l.val / 4 + 1)).drop (20 * (l.val % 4))).take 20 = s.lanePage l := by
  have hcount : ((allLanes.drop (4 * (l.val / 4))).take 4).length = 4 := by simp [allLanes]; omega
  rw [State.rackPage, Nat.add_sub_cancel]
  refine ⟨?_, flatMap_part s.lanePage_length (pageLanes_get l)⟩
  rw [flatMap_length_of_width s.lanePage_length, hcount]

theorem State.page_rack {s : State} (hw : s.worksAs .rack = true) {p : Nat} (hp : 1 ≤ p ∧ p ≤ 4) :
    s.page p = some (s.rackPage p) := by
  obtain ⟨hwork, hrole⟩ := State.worksAs_iff.mp hw
  have hne : p ≠ 0 := by omega
  simp [State.page, hne, hwork, hrole, hp.2]

/-- The call state, the stock, the offset and the run of a present lane on its page. -/
theorem State.laneHead_eq (s : State) (r : LaneRec) :
    s.laneHead r =
      if r.present then
        byte r.call.code :: le2 r.s ++ [byte r.b] ++ signed2 (s.rrefOffset r) ++ bytes2 r.shownRun
      else List.replicate 8 0 := by
  unfold State.laneHead
  split
  · rfl
  · rfl

/-! ## Which pages there are (R198) -/

theorem State.page_isSome (s : State) (p : Nat) :
    (s.page p).isSome = true ↔ p = 0 ∨ (s.worksAs .rack = true ∧ p ≤ 4) ∨ (s.worksAs .train = true ∧ p ≤ 6) ∨
      (s.worksAs .pacer = true ∧ p ≤ 1) := by
  rcases Nat.eq_zero_or_pos p with rfl | hp
  · simp [State.page]
  have hne : p ≠ 0 := by omega
  rcases hw : s.working
  · simp [State.page, State.worksAs, hne, hw]
  · simp only [State.page, State.worksAs, hne, hw, if_false, if_true, Bool.true_and, false_or]
    cases s.start.role
    · by_cases h : p ≤ 4 <;> simp [h]
    · by_cases h1 : p = 1
      · simp [h1]
      by_cases h5 : p ≤ 5
      · simp [h1, h5]; omega
      by_cases h6 : p = 6
      · simp [h6]
      · simp [h1, h5, h6]; omega
    · by_cases h1 : p = 1
      · simp [h1]
      · simp [h1]; omega
    · simp

/-! ## A QUERY (R197) -/

/-- A QUERY of the right shape from another station is one event of the report unit, in every state that receives. -/
theorem exec_query_of_receiving {s : State} {src dest page : Byte} (hr : s.receiving = true) (hq : s.air.rxq = [])
    (hb : s.bookSettled = true) (hne : src ≠ s.ownByte) (hlo : 1 ≤ src.toNat) (hhi : src.toNat ≤ 127) :
    exec (.query src [dest, page]) s = .next (s.hunting.takeQuery src [dest, page]).endEvent := by
  have hzero : src ≠ 0 := by rintro rfl; simp at hlo
  have hfate : s.fate FrameKind.query.code src [dest, page] = .joins .query := by
    refine (s.fate_joins_iff ..).mpr ⟨hne, ?_, FrameKind.query.kindOfCode_code, rfl, by simp [hq]⟩
    rintro (h | h | ⟨-, h⟩)
    · exact hzero h
    · omega
    · exact h rfl
  have harr := State.arrives_joins hr hq (State.unmarked_of_settled hb) hfate (State.not_waits_of_kind (by decide))
  have hhand : s.hunting.handOver ⟨.query, src, [dest, page]⟩ = s.hunting.takeQuery src [dest, page] := by
    unfold State.handOver
    split <;> rfl
  rw [hhand] at harr
  exact congrArg Host.Outcome.next harr

theorem State.takeQuery_other {s : State} {src dest page : Byte} (h : dest ≠ s.ownByte) :
    s.takeQuery src [dest, page] = s := by
  simp [State.takeQuery, h]

/-- A QUERY for the own address changes what the offer of its REPORT changes, and the place in the list of free values. -/
theorem State.takeQuery_own {s : State} {src dest page : Byte} (h : dest = s.ownByte) :
    (s.takeQuery src [dest, page]).air = (s.offer (s.report src page)).air ∧
      (s.takeQuery src [dest, page]).cnt = (s.offer (s.report src page)).cnt := by
  simp only [State.takeQuery, if_pos h]
  split <;> exact ⟨rfl, rfl⟩

theorem State.report_payload_some {s : State} {src page : Byte} {content : List Byte}
    (h : s.page page.toNat = some content) :
    (s.report src page).payload = src :: page :: s.reportFlags false :: content := by
  simp only [State.report, h]

theorem State.report_payload_none {s : State} {src page : Byte} (h : s.page page.toNat = none) :
    (s.report src page).payload = [src, page, s.reportFlags true] := by
  simp only [State.report, h]

theorem State.endEvent_air (s : State) : s.endEvent.air = s.air := by simp

theorem State.endEvent_cnt (s : State) : s.endEvent.cnt = s.cnt := by simp

theorem query_answered (s : State) (src dest page : Byte) (hr : s.receiving = true) (hq : s.air.rxq = [])
    (hb : s.bookSettled = true) (hne : src ≠ s.ownByte) (hlo : 1 ≤ src.toNat) (hhi : src.toNat ≤ 127)
    (hdest : dest = s.ownByte) (hroom : s.txRoom = true) :
    let t := (s.hunting.takeQuery src [dest, page]).endEvent
    exec (.query src [dest, page]) s = .next t ∧ s.hunting.report src page ∈ t.air.txq ∧ t.cnt = s.cnt ∧
      t.line = s.line ∧ t.start = s.start ∧ t.runs = s.runs ∧ t.planner = s.planner := by
  obtain ⟨hair, hcnt⟩ := State.takeQuery_own (s := s.hunting) (src := src) (page := page) hdest
  have hport : s.hunting.portWorks = true := State.portWorks_of_receiving hr
  have hlen : s.hunting.air.txq.length < 8 := of_decide_eq_true hroom
  refine ⟨exec_query_of_receiving hr hq hb hne hlo hhi, ?_, ?_, by simp [State.hunting], by simp [State.hunting],
    by simp [State.hunting], by simp [State.hunting]⟩
  · rw [State.endEvent_air, hair]
    exact State.mem_offer_self hport (.inl hlen)
  · rw [State.endEvent_cnt, hcnt, State.offer_cnt_of_room (.inl hlen)]
    rfl

/-! ## The statement -/

/-- Page 0 begins with the codes of the listed states and holds the counters in order (R199). -/
theorem State.page0_eq (s : State) :
    s.page0 =
      [byte s.start.role.code, s.ownByte, byte s.start.state.code, byte s.start.cause.code,
        byte s.start.faultCause.code, s.line.followed.getD 0, byte s.line.state.code] ++
        bytes2 s.line.n ++ le2 s.line.takt ++ le2 s.cnt.crc ++ le2 s.cnt.broken ++ le2 s.cnt.length ++
        le2 s.cnt.source ++ le2 s.cnt.kind ++ le2 s.cnt.overrun ++ le2 s.cnt.txdrop ++ le2 s.cnt.resync ++
        le2 s.cnt.gap ++ le2 s.cnt.conflict ++ le2 s.cnt.clash ++ le2 s.cnt.bookfull ++ le2 s.cnt.rundrop ++
        le2 s.cnt.double ++ le2 s.cnt.phantom ++ [byte s.start.clamped] := by
  simp [State.page0, Counters.page]

/-- Settles O53: the QUERY as one event of the report unit, and the pages by role. -/
theorem queryAnsweredByReport : Obligations.QueryAnsweredByReport := by
  refine ⟨fun s src dest page hr hq hb hne hlo hhi => ⟨fun hdest hroom => ?_, fun hdest => ?_⟩, fun s => ?_⟩
  · obtain ⟨hexec, hmem, hcnt, hline, hstart, hruns, hplanner⟩ := query_answered s src dest page hr hq hb hne hlo hhi hdest hroom
    refine ⟨_, _, hexec, hmem, rfl, fun content hc => ?_, fun hc => ?_, hcnt, hline, hstart, hruns, hplanner⟩
    · rw [State.report_payload_some (s := s.hunting) hc]
      simp [State.reportFlags, State.hunting]; rfl
    · rw [State.report_payload_none (s := s.hunting) hc]
      simp [State.reportFlags, State.hunting]; rfl
  · refine ⟨_, exec_query_of_receiving hr hq hb hne hlo hhi, ?_⟩
    rw [State.takeQuery_other (s := s.hunting) hdest]
    simp [State.hunting]
  · refine ⟨s.page_isSome, ?_, fun hw l => ?_, fun hw => ⟨fun c x hc hx => ?_, fun p hlo hhi => ?_, ?_⟩, fun hw => ?_⟩
    · have hzero : s.page 0 = some s.page0 := by simp [State.page]
      rw [hzero, State.page0_eq]
      refine congrArg some ?_
      simp only [List.cons_append, List.nil_append, List.append_assoc, List.cons.injEq, and_true, true_and]
      refine ⟨?_, ?_, ?_, ?_, ?_⟩
      · cases s.start.role <;> rfl
      · cases s.start.state <;> rfl
      · cases s.start.cause <;> rfl
      · cases s.start.faultCause <;> rfl
      · cases s.line.state <;> rfl
    · obtain ⟨hlen, hpart⟩ := s.rackPage_lane l
      intro r bits
      refine ⟨_, State.page_rack hw ⟨by omega, by omega⟩, hlen, ?_⟩
      rw [hpart, State.lanePage, State.laneHead_eq, LaneRec.flags, LaneRec.latches, packFlags_seven, packFlags_three]
      have hoffset : signed2 (s.rrefOffset r) = r.forecast.elim [0, 0] fun f => bytes2 (f.rref - s.line.n) := by
        unfold State.rrefOffset
        cases r.forecast with
        | none => exact signed2_zero
        | some f => exact signed2_offset s.line.n f.rref
      simp only [List.append_assoc]
      refine congrArg (· ++ _) ?_
      split
      · rw [hoffset, LaneRec.shownRun]
        simp only [List.cons_append, List.nil_append, List.cons.injEq]
        refine ⟨?_, congrArg (le2 _ ++ ·) (congrArg (List.cons _) (congrArg₂ (· ++ ·) ?_ (congrArg bytes2 ?_)))⟩
        · cases r.call <;> rfl
        · cases r.forecast <;> rfl
        · cases r.call <;> rfl
      · rfl
    · obtain ⟨hwork, hrole⟩ := State.worksAs_iff.mp hw
      intro slot
      have hpage : s.page 1 = some s.runPage := by simp [State.page, hwork, hrole]
      have hslot : ∀ r : Run, r.page = slot r := fun r => by
        simp only [Run.page, slot, boolByte]
        cases r.state <;> rfl
      simp only [hpage, State.runPage, hc, hx, State.slotPage, hslot]
    · obtain ⟨hwork, hrole⟩ := State.worksAs_iff.mp hw
      have hpage : s.page p = some (s.manifestPage p) := by
        simp [State.page, hwork, hrole, show p ≠ 0 by omega, show p ≠ 1 by omega, hhi]
      rw [hpage, State.manifestPage]
      refine congrArg some (congrArg (List.flatMap · _) (funext fun e => ?_))
      simp only [ManifestEntry.page, boolByte]
      cases e.status <;> rfl
    · obtain ⟨hwork, hrole⟩ := State.worksAs_iff.mp hw
      have hpage : s.page 6 = some s.logPage := by simp [State.page, hwork, hrole]
      rw [hpage, State.logPage]
      refine congrArg some (congrArg (List.flatMap · _) (funext fun e => ?_))
      simp only [LogEntry.page]
      cases e.kind <;> cases e.timer <;> rfl
    · obtain ⟨hwork, hrole⟩ := State.worksAs_iff.mp hw
      have hpage : s.page 1 = some s.pacerPage := by simp [State.page, hwork, hrole]
      rw [hpage, State.pacerPage]
      refine congrArg some ?_
      cases s.pacer.state <;> rfl

end Sys2Proof.Machine
end

section
/-! PROOFS. The claim book within an event: the invariant that every operation of the blocks keeps until the requests of
the event are taken up (R73, R74, R81, R82, R93). -/

namespace Sys2Proof.Machine

/-! ## Lists of entries -/

theorem State.entriesInv_congr {s t : State} (h : t.start = s.start) (es : List Entry) :
    t.EntriesInv es ↔ s.EntriesInv es := by
  simp only [State.EntriesInv, State.own, h]

/-- Entries removed leave a list that a book may hold. -/
theorem State.EntriesInv.filter {s : State} {es : List Entry} (h : s.EntriesInv es) (p : Entry → Bool) :
    s.EntriesInv (es.filter p) := by
  obtain ⟨hlen, hnodup, hown, hrole⟩ := h
  exact ⟨(List.length_filter_le p es).trans hlen, hnodup.sublist (List.filter_sublist.map _),
    fun e he => hown e (List.mem_of_mem_filter he), fun hr e he => hrole hr e (List.mem_of_mem_filter he)⟩

/-- A change of entries that leaves station, lane and own mark leaves a list that a book may hold. -/
theorem State.EntriesInv.map {s : State} {es : List Entry} (h : s.EntriesInv es) {f : Entry → Entry}
    (hf : ∀ e, (f e).station = e.station ∧ (f e).lane = e.lane ∧ (f e).own = e.own) : s.EntriesInv (es.map f) := by
  obtain ⟨hlen, hnodup, hown, hrole⟩ := h
  refine ⟨by rwa [List.length_map], ?_, fun e he => ?_, fun hr e he => ?_⟩
  · rw [List.map_map]
    have hplace : (fun e : Entry => (e.station, e.lane)) ∘ f = fun e => (e.station, e.lane) :=
      funext fun e => by simp [(hf e).1, (hf e).2.1]
    rwa [hplace]
  · obtain ⟨x, hx, rfl⟩ := List.mem_map.mp he
    rw [(hf x).2.2, (hf x).1]; exact hown x hx
  · obtain ⟨x, hx, rfl⟩ := List.mem_map.mp he
    rw [(hf x).2.2]; exact hrole hr x hx

theorem State.entriesInv_nil (s : State) : s.EntriesInv [] :=
  ⟨Nat.zero_le _, List.nodup_nil, nofun, fun _ => nofun⟩

/-- Of one lane a book holds one own entry. -/
theorem State.EntriesInv.own_unique {s : State} {es : List Entry} (h : s.EntriesInv es) {e x : Entry} (he : e ∈ es)
    (hx : x ∈ es) (heo : e.own = true) (hxo : x.own = true) (hl : e.lane = x.lane) : e = x := by
  obtain ⟨-, hnodup, hown, -⟩ := h
  have hplace : (e.station, e.lane) = (x.station, x.lane) := by rw [(hown e he).mp heo, (hown x hx).mp hxo, hl]
  exact List.inj_on_of_nodup_map hnodup he hx hplace

/-! ## The invariant within an event -/

/-- What an operation in progress has read, against the station it works for (R79). -/
structure State.OpRead (s : State) (op : BookOp) : Prop where
  entries : s.EntriesInv op.entries
  sender : ∀ cs, op.claimset = some cs → cs.sender ≠ s.own
  runs : s.start.role ≠ .rack → op.runs = []
  claims : ∀ l : LaneIx, op.lanes[l].call.claims = true ↔ ∃ e ∈ op.entries, e.own = true ∧ e.lane = l
  absent : ∀ l : LaneIx, (s.lane l).present = false → op.lanes[l].call = .quiet ∧ op.lanes[l].cond = false

/-- The lanes since the operation started: one not moved stands as read, one moved has no claim and a request is marked or
made (R81). -/
def State.OpLanes (s : State) (op : BookOp) : Prop :=
  ∀ l : LaneIx,
    ((s.lane l).moved = false → (s.lane l).call = op.lanes[l].call) ∧
      ((s.lane l).moved = true →
        (s.lane l).call.claims = false ∧ (s.book.pendingMark = true ∨ s.book.asked = true))

/-- The claim book within an event of a station past LOAD. -/
structure State.MidInv (s : State) : Prop where
  entries : s.EntriesInv s.book.entries
  own : s.OwnInv
  op : ∀ op, s.book.op = some op → s.OpRead op ∧ s.OpLanes op
  runs : s.start.role ≠ .rack → s.runs = []
  rxq : ∀ f ∈ s.air.rxq, f.src ≠ s.ownByte
  absent : ∀ l, (s.lane l).present = false → (s.lane l).call = .quiet ∧ (s.lane l).cond = false
  started : s.start.state ≠ .load

theorem State.OpInv.read {s : State} {op : BookOp} (h : s.OpInv op) : s.OpRead op := by
  obtain ⟨hentries, hsender, hruns, hlanes⟩ := h
  exact ⟨hentries, hsender, hruns, fun l => (hlanes l).1, fun l => (hlanes l).2.1⟩

theorem State.MidInv.of_bookInv {s : State} (h : s.BookInv) (hst : s.start.state ≠ .load) : s.MidInv := by
  obtain ⟨hentries, hown, hop, hruns, hrxq, habsent, -⟩ := h
  refine ⟨hentries, hown, fun op ho => ⟨(hop op ho).read, fun l => ?_⟩, hruns, hrxq, habsent, hst⟩
  obtain ⟨-, -, -, hlanes⟩ := hop op ho
  obtain ⟨-, -, hstill, hmoved⟩ := hlanes l
  exact ⟨hstill, fun hm => ⟨(hmoved hm).1, .inl (hmoved hm).2⟩⟩

/-- With no request open the invariant of the event is the invariant of the book. -/
theorem State.MidInv.bookInv {s : State} (h : s.MidInv) (ha : s.book.op.isSome = true → s.book.asked = true →
    s.book.pendingMark = true) : s.BookInv := by
  refine ⟨h.entries, h.own, fun op ho => ?_, h.runs, h.rxq, h.absent, fun hl => absurd hl h.started⟩
  obtain ⟨hread, hlanes⟩ := h.op op ho
  refine ⟨hread.entries, hread.sender, hread.runs, fun l => ⟨hread.claims l, hread.absent l, (hlanes l).1, fun hm => ?_⟩⟩
  obtain ⟨hc, hmark⟩ := (hlanes l).2 hm
  exact ⟨hc, hmark.elim id fun hasked => ha (by simp [ho]) hasked⟩

/-- A lane that has a claim or a promise is present. -/
theorem State.MidInv.present {s : State} (h : s.MidInv) {l : LaneIx} (hc : (s.lane l).call ≠ .quiet) :
    (s.lane l).present = true := by
  by_contra hp
  exact hc (h.absent l (by simpa using hp)).1

/-- A lane without a claim has no own entry. -/
theorem State.OwnInv.lane_ne {s : State} (h : s.OwnInv) {l : LaneIx} (hc : (s.lane l).call.claims = false) {e : Entry}
    (he : e ∈ s.book.entries) (ho : e.own = true) : e.lane ≠ l := fun hl => by
  obtain ⟨hcall, -⟩ := h.1 e he ho
  rw [hl] at hcall
  rw [hcall] at hc
  revert hc
  split <;> decide

/-! ## A lane that takes what the claim book needs from another -/

/-- What the claim book reads of a lane stands. -/
structure LaneRec.alike (r r' : LaneRec) : Prop where
  present : r'.present = r.present
  moved : r'.moved = r.moved
  call : r'.call = r.call
  claim : r.call.claims = true → r'.claimRun = r.claimRun ∧ r'.requested = r.requested ∧ r'.late = r.late
  cond : r.present = false → r'.cond = r.cond

theorem LaneRec.alike.refl (r : LaneRec) : r.alike r := ⟨rfl, rfl, rfl, fun _ => ⟨rfl, rfl, rfl⟩, fun _ => rfl⟩

theorem LaneRec.alike.trans {r r' r'' : LaneRec} (h : r.alike r') (h' : r'.alike r'') : r.alike r'' := by
  refine ⟨h'.present.trans h.present, h'.moved.trans h.moved, h'.call.trans h.call, fun hc => ?_, fun hp => ?_⟩
  · obtain ⟨h1, h2, h3⟩ := h.claim hc
    obtain ⟨h1', h2', h3'⟩ := h'.claim (by rw [h.call, hc])
    exact ⟨h1'.trans h1, h2'.trans h2, h3'.trans h3⟩
  · exact (h'.cond (by rw [h.present, hp])).trans (h.cond hp)

theorem LaneRec.alike_of_sansFace {r r' : LaneRec} (h : r'.sansFace = r.sansFace) : r.alike r' := by
  cases r; cases r'
  simp only [LaneRec.sansFace, LaneRec.mk.injEq] at h
  obtain ⟨-, hp, -, -, -, -, -, -, -, -, hcall, hclaim, -, hreq, -, -, hlate, -, -, -, hcond, hmoved, -⟩ := h
  exact ⟨hp, hmoved, hcall, fun _ => ⟨hclaim, hreq, hlate⟩, fun _ => hcond⟩

/-- The book and the lanes' claims stand, but for a request made. -/
structure State.bookStands (s t : State) : Prop where
  lane : ∀ l, (s.lane l).alike (t.lane l)
  entries : t.book.entries = s.book.entries
  op : t.book.op = s.book.op
  pending : t.book.pendingMark = s.book.pendingMark
  asked : s.book.asked = true → t.book.asked = true

theorem State.OwnInv.of_alike {s t : State} (h : s.OwnInv) (hl : ∀ l, (s.lane l).alike (t.lane l))
    (he : t.book.entries = s.book.entries) : t.OwnInv := by
  refine ⟨fun e hmem ho => ?_, fun l hc => ?_⟩
  · rw [he] at hmem
    obtain ⟨hcall, hrest⟩ := h.1 e hmem ho
    have hclaims : (s.lane e.lane).call.claims = true := by rw [hcall]; split <;> rfl
    obtain ⟨h1, h2, h3⟩ := (hl e.lane).claim hclaims
    rw [(hl e.lane).call, h1, h2, h3]
    exact ⟨hcall, hrest⟩
  · rw [(hl l).call] at hc
    rw [he]
    exact h.2 l hc

theorem State.OpRead.congr {s t : State} {op : BookOp} (h : s.OpRead op) (hstart : t.start = s.start)
    (hp : ∀ l, (t.lane l).present = (s.lane l).present) : t.OpRead op := by
  have hown : t.own = s.own := by simp [State.own, hstart]
  exact ⟨(State.entriesInv_congr hstart _).mpr h.entries, by rw [hown]; exact h.sender, by rw [hstart]; exact h.runs,
    h.claims, fun l hl => h.absent l (by rw [← hp l, hl])⟩

/-! ## What an operation of the blocks does to the book -/

/-- The invariant of the event holds after an operation that left which lanes are present, and the lanes without a claim
without one. -/
structure State.bookKept (s t : State) : Prop where
  mid : t.MidInv
  present : ∀ l, (t.lane l).present = (s.lane l).present
  free : ∀ l, (s.lane l).call.claims = false → (t.lane l).call.claims = false

/-- The operation keeps the invariant of the event, which lanes are present, and which have no claim. -/
structure State.keepsBook (s t : State) : Prop where
  kept : s.MidInv → s.bookKept t

theorem State.keepsBook.refl (s : State) : s.keepsBook s := ⟨fun hs => ⟨hs, fun _ => rfl, fun _ => id⟩⟩

theorem State.keepsBook.trans {s t u : State} (h : s.keepsBook t) (h' : t.keepsBook u) : s.keepsBook u := ⟨fun hs => by
  obtain ⟨hmid, hpresent, hfree⟩ := h.kept hs
  obtain ⟨hmid', hpresent', hfree'⟩ := h'.kept hmid
  exact ⟨hmid', fun l => (hpresent' l).trans (hpresent l), fun l hc => hfree' l (hfree l hc)⟩⟩

theorem State.keepsBook.foldl {α : Type} {f : State → α → State} (h : ∀ (s : State) a, s.keepsBook (f s a)) (xs : List α)
    (s : State) : s.keepsBook (xs.foldl f s) := by
  induction xs generalizing s with
  | nil => exact .refl s
  | cons x xs ih => exact (h s x).trans (ih (f s x))

/-- Steps over lanes that are present and free of claims. -/
theorem State.keepsBook.foldl_free {f : State → LaneIx → State}
    (h : ∀ (s : State) l, (s.lane l).present = true → (s.lane l).call.claims = false → s.keepsBook (f s l))
    (ls : List LaneIx) (s : State)
    (hls : ∀ l ∈ ls, (s.lane l).present = true ∧ (s.lane l).call.claims = false) : s.keepsBook (ls.foldl f s) := by
  induction ls generalizing s with
  | nil => exact .refl s
  | cons l ls ih =>
    rw [List.forall_mem_cons] at hls
    refine ⟨fun hs => ?_⟩
    have hone := h s l hls.1.1 hls.1.2
    obtain ⟨-, hpresent, hfree⟩ := hone.kept hs
    exact (hone.trans (ih (f s l) fun m hm => ⟨(hpresent m).trans (hls.2 m hm).1, hfree m (hls.2 m hm).2⟩)).kept hs

/-- An operation that leaves the book and the lanes' claims, of a station that stands. -/
theorem State.keepsBook.of_stands {s t : State} (h : s.bookStands t) (hstart : t.start = s.start)
    (hrxq : t.air.rxq = s.air.rxq) (hruns : s.start.role = .rack ∨ t.runs = s.runs) : s.keepsBook t := by
  have hbyte : t.ownByte = s.ownByte := by simp [State.ownByte, hstart]
  refine ⟨fun hs => ?_⟩
  refine ⟨⟨?_, hs.own.of_alike h.lane h.entries, fun op ho => ⟨?_, fun l => ⟨fun hm => ?_, fun hm => ?_⟩⟩,
    fun hr => ?_, ?_, fun l hp => ?_, by rw [hstart]; exact hs.started⟩, fun l => (h.lane l).present, fun l hc => ?_⟩
  · rw [h.entries]; exact (State.entriesInv_congr hstart _).mpr hs.entries
  · exact (hs.op op (h.op ▸ ho)).1.congr hstart fun l => (h.lane l).present
  · rw [(h.lane l).call]
    exact ((hs.op op (h.op ▸ ho)).2 l).1 ((h.lane l).moved ▸ hm)
  · obtain ⟨hc, hmark⟩ := ((hs.op op (h.op ▸ ho)).2 l).2 ((h.lane l).moved ▸ hm)
    rw [(h.lane l).call, h.pending]
    exact ⟨hc, hmark.imp_right h.asked⟩
  · rw [hstart] at hr
    rw [hruns.resolve_left hr]
    exact hs.runs hr
  · rw [hrxq, hbyte]; exact hs.rxq
  · have hp' : (s.lane l).present = false := by rw [← (h.lane l).present, hp]
    rw [(h.lane l).call, (h.lane l).cond hp']
    exact hs.absent l hp'
  · rw [(h.lane l).call, hc]

end Sys2Proof.Machine
end

section
/-! PROOFS. The operations on lanes keep the claim book: moves with the loss of an own entry, forecasts, faces, settlement,
arrival and consumption (R31, R43, R81, R82, R127 to R138). -/

namespace Sys2Proof.Machine

/-! ## Operations that leave claims and book -/

theorem State.bookStands.of_lanes {s t : State} (hl : t.lanes = s.lanes) (hb : t.book = s.book) : s.bookStands t :=
  ⟨fun l => by rw [State.lane_congr hl]; exact .refl _, by rw [hb], by rw [hb], by rw [hb], by rw [hb]; exact id⟩

theorem State.bookStands.of_alike {s t : State} (hl : ∀ l, (s.lane l).alike (t.lane l)) (hb : t.book = s.book) :
    s.bookStands t := ⟨hl, by rw [hb], by rw [hb], by rw [hb], by rw [hb]; exact id⟩

theorem State.bookStands.trans {s t u : State} (h : s.bookStands t) (h' : t.bookStands u) : s.bookStands u :=
  ⟨fun l => (h.lane l).trans (h'.lane l), h'.entries.trans h.entries, h'.op.trans h.op, h'.pending.trans h.pending,
    h'.asked ∘ h.asked⟩

theorem State.bookStands.refl (s : State) : s.bookStands s := .of_lanes rfl rfl

theorem State.bookStands.ask {s t : State} (h : s.bookStands t) : s.bookStands t.ask :=
  ⟨h.lane, h.entries, h.op, h.pending, fun _ => rfl⟩

/-- An operation that leaves lanes and book keeps the book of a station that stands. -/
theorem State.keepsBook.of_lanes {s t : State} (hl : t.lanes = s.lanes) (hb : t.book = s.book)
    (hstart : t.start = s.start) (hrxq : t.air.rxq = s.air.rxq) (hruns : s.start.role = .rack ∨ t.runs = s.runs) :
    s.keepsBook t := .of_stands (.of_lanes hl hb) hstart hrxq hruns

theorem State.ask_keepsBook (s : State) : s.keepsBook s.ask :=
  .of_stands (State.bookStands.refl s).ask rfl rfl (.inr rfl)

theorem State.modLane_keepsBook {s : State} {l : LaneIx} {f : LaneRec → LaneRec} (hf : (s.lane l).alike (f (s.lane l))) :
    s.keepsBook (s.modLane l f) := by
  refine .of_stands (.of_alike (fun m => ?_) rfl) rfl rfl (.inr rfl)
  rw [State.lane_modLane]
  split
  next h => subst h; exact hf
  · exact .refl _

theorem State.modBank_keepsBook (s : State) (k : Bank) (f : BankRec → BankRec) : s.keepsBook (s.modBank k f) :=
  .of_lanes (by simp) (by simp) (by simp) (by simp) (.inr (by simp))

theorem State.modRun_keepsBook {s : State} (h : s.start.role = .rack) (r : RunId) (f : RunRec → RunRec) :
    s.keepsBook (s.modRun r f) := .of_lanes rfl rfl rfl rfl (.inl h)

theorem State.joinItems_keepsBook (s : State) (l : LaneIx) : s.keepsBook (s.joinItems l) :=
  .of_lanes (by simp) (by simp) (by simp) (by simp) (.inr (by simp))

theorem State.followItem_keepsBook (s : State) (l : LaneIx) : s.keepsBook (s.followItem l) :=
  .of_lanes (by simp) (by simp) (by simp) (by simp) (.inr (by simp))

theorem LaneRec.commit_alike (r : LaneRec) : r.alike r.commit := LaneRec.alike_of_sansFace r.commit_sansFace

theorem LaneRec.darken_alike (r : LaneRec) (faceOpen : Bool) : r.alike (r.darken faceOpen) :=
  ⟨rfl, rfl, rfl, fun _ => ⟨rfl, rfl, rfl⟩, fun _ => rfl⟩

theorem State.trigger_keepsBook (s : State) (k : Bank) : s.keepsBook (s.trigger k) := by
  refine .of_stands (.of_alike (fun l => ?_) (by simp)) (by simp) (by simp) (.inr (by simp))
  rw [State.trigger_lane]
  split
  · exact LaneRec.commit_alike _
  · exact .refl _

theorem State.closeFace_keepsBook (s : State) (k : Bank) : s.keepsBook (s.closeFace k) := by
  refine .of_stands (.of_alike (fun l => ?_) (by simp)) (by simp) (by simp) (.inr (by simp))
  rw [State.closeFace_lane]
  split
  · exact LaneRec.darken_alike ..
  · exact .refl _

theorem State.presenceChange_keepsBook (s : State) (k : Bank) (x : Bool) : s.keepsBook (s.presenceChange k x) := by
  unfold State.presenceChange State.presenceUp State.presenceDown
  split <;> split
  · exact s.trigger_keepsBook k
  · exact .refl s
  · exact s.closeFace_keepsBook k
  · exact .refl s

theorem State.restage_alike (s : State) (l m : LaneIx) : (s.lane m).alike ((s.restage l).lane m) :=
  LaneRec.alike_of_sansFace (s.restage_sansFace l m)

theorem State.restage_keepsBook (s : State) (l : LaneIx) : s.keepsBook (s.restage l) :=
  .of_stands (.of_alike (s.restage_alike l) (by simp)) (by simp) (by simp) (.inr (by simp))

theorem State.markOverfill_keepsBook (s : State) (l : LaneIx) : s.keepsBook (s.markOverfill l) := by
  unfold State.markOverfill
  split
  · exact (State.modLane_keepsBook ⟨rfl, rfl, rfl, fun _ => ⟨rfl, rfl, rfl⟩, fun _ => rfl⟩).trans
      (State.restage_keepsBook _ l)
  · exact .refl s

theorem State.forecastLane_keepsBook (s : State) (l : LaneIx) : s.keepsBook (s.forecastLane l) := by
  have hbook := s.forecastLane_asked l
  refine .of_stands ⟨fun m => ?_, by rw [hbook], by rw [hbook], by rw [hbook], fun ha => by rw [hbook, ha]; rfl⟩ (by simp)
    (by simp) (.inr (by simp))
  rw [State.forecastLane_same_or]
  split
  next h =>
    obtain ⟨rfl, hp, -⟩ := h
    exact ⟨rfl, rfl, rfl, fun _ => ⟨rfl, rfl, rfl⟩, fun hc => by rw [hp] at hc; cases hc⟩
  · exact .refl _

theorem State.forecastAll_keepsBook (s : State) : s.keepsBook s.forecastAll :=
  .foldl State.forecastLane_keepsBook allLanes s

/-! ## Moves (R81, R82) -/

/-- A move of a lane takes the claim and the forecast of no lane from the book: the lane has no claim after it. -/
structure LaneRec.frees (f : LaneRec → LaneRec) : Prop where
  call : ∀ r, (f r).call.claims = false
  present : ∀ r, (f r).present = r.present

/-- A present lane whose own entry is given up, if it has one, and which then is moved. -/
theorem State.releaseMove_keepsBook {s : State} {l : LaneIx} {f : LaneRec → LaneRec} (hf : LaneRec.frees f)
    (hp : (s.lane l).present = true) : s.keepsBook ((s.releaseClaim l).moveLane l f) := by
  have hrel : ∀ m, (s.releaseClaim l).lane m = s.lane m := State.lane_congr (s.releaseClaim_lanes l)
  have hother : ∀ m, m ≠ l → (s.lane m).alike (((s.releaseClaim l).moveLane l f).lane m) := fun m hm => by
    refine LaneRec.alike_of_sansFace ?_
    rw [State.moveLane_sansFace, if_neg hm, hrel]
  have hsame : ({ f (s.lane l) with moved := true } : LaneRec).alike (((s.releaseClaim l).moveLane l f).lane l) := by
    refine LaneRec.alike_of_sansFace ?_
    rw [State.moveLane_sansFace, if_pos rfl, hrel]
  have hcall : (((s.releaseClaim l).moveLane l f).lane l).call.claims = false := by rw [hsame.call]; exact hf.call _
  have hstart : ((s.releaseClaim l).moveLane l f).start = s.start := by simp
  have hbusy : (s.releaseClaim l).busy = s.busy := State.busy_of_op (Book.of_work (s.releaseClaim_work l)).1
  have hbook : ((s.releaseClaim l).moveLane l f).book =
      { (s.releaseClaim l).book with asked := (s.releaseClaim l).book.asked || s.busy } := by simp [hbusy]
  have hwork := Book.of_work (s.releaseClaim_work l)
  have hentries : ∀ e, e ∈ ((s.releaseClaim l).moveLane l f).book.entries → e ∈ s.book.entries := fun e he => by
    rw [hbook] at he
    unfold State.releaseClaim at he
    split at he
    · exact List.mem_of_mem_filter he
    · exact he
  have hpresent : ∀ m, (((s.releaseClaim l).moveLane l f).lane m).present = (s.lane m).present := fun m => by
    by_cases hm : m = l
    · subst hm; rw [hsame.present]; exact hf.present _
    · exact (hother m hm).present
  refine ⟨fun hs => ?_⟩
  refine ⟨⟨?_, ⟨fun e he ho => ?_, fun m hc => ?_⟩, fun op hop => ⟨?_, fun m => ?_⟩, fun hr => ?_, ?_,
    fun m hm => ?_, by rw [hstart]; exact hs.started⟩, hpresent, fun m hc => ?_⟩
  · refine (State.entriesInv_congr hstart _).mpr ?_
    rw [hbook]
    dsimp only
    unfold State.releaseClaim
    split
    · exact hs.entries.filter _
    · exact hs.entries
  · have hne : e.lane ≠ l := by
      rintro rfl
      rw [hbook] at he
      unfold State.releaseClaim at he
      split at he
      · simp [ho] at he
      next hc => exact hs.own.lane_ne (by simpa using hc) (hentries e (by rw [hbook]; simpa [State.releaseClaim, hc] using he)) ho rfl
    obtain ⟨hecall, herest⟩ := hs.own.1 e (hentries e he) ho
    obtain ⟨h1, h2, h3⟩ := (hother e.lane hne).claim (by rw [hecall]; split <;> rfl)
    rw [(hother e.lane hne).call, h1, h2, h3]
    exact ⟨hecall, herest⟩
  · have hm : m ≠ l := by rintro rfl; rw [hcall] at hc; cases hc
    rw [(hother m hm).call] at hc
    obtain ⟨e, he, ho, hl⟩ := hs.own.2 m hc
    refine ⟨e, ?_, ho, hl⟩
    rw [hbook]
    dsimp only
    unfold State.releaseClaim
    split
    · exact List.mem_filter.mpr ⟨he, by simp [hl, hm]⟩
    · exact he
  · rw [hbook] at hop
    dsimp only at hop
    rw [hwork.1] at hop
    exact (hs.op op hop).1.congr hstart hpresent
  · have hop' : s.book.op = some op := by rw [← hwork.1, ← hop, hbook]
    obtain ⟨-, hlanes⟩ := hs.op op hop'
    by_cases hm : m = l
    · subst hm
      refine ⟨fun hmv => (by rw [hsame.moved] at hmv; cases hmv), fun _ => ⟨hcall, .inr ?_⟩⟩
      rw [hbook]
      simp [State.busy, hop']
    · rw [(hother m hm).moved, (hother m hm).call]
      refine ⟨(hlanes m).1, fun hmv => ⟨((hlanes m).2 hmv).1, ?_⟩⟩
      rw [hbook]
      dsimp only
      rw [hwork.2.1]
      refine ((hlanes m).2 hmv).2.imp_right fun ha => ?_
      have hra : (s.releaseClaim l).book.asked = true := by
        unfold State.releaseClaim
        split
        · rfl
        · exact ha
      simp [hra]
  · rw [hstart] at hr
    simpa using hs.runs hr
  · have hbyte : ((s.releaseClaim l).moveLane l f).ownByte = s.ownByte := by simp [State.ownByte]
    have hq : ((s.releaseClaim l).moveLane l f).air.rxq = s.air.rxq := by simp
    rw [hbyte, hq]
    exact hs.rxq
  · have hne : m ≠ l := by rintro rfl; rw [hpresent, hp] at hm; cases hm
    have hpm : (s.lane m).present = false := by rw [← hpresent m, hm]
    rw [(hother m hne).call, (hother m hne).cond hpm]
    exact hs.absent m hpm
  · by_cases hm : m = l
    · subst hm; exact hcall
    · rw [(hother m hm).call, hc]

theorem State.releaseClaim_of_free {s : State} {l : LaneIx} (h : (s.lane l).call.claims = false) :
    s.releaseClaim l = s := by
  simp [State.releaseClaim, h]

/-- A present lane without a claim moved. -/
theorem State.moveLane_keepsBook {s : State} {l : LaneIx} {f : LaneRec → LaneRec} (hf : LaneRec.frees f)
    (hp : (s.lane l).present = true) (hc : (s.lane l).call.claims = false) : s.keepsBook (s.moveLane l f) := by
  have h := State.releaseMove_keepsBook hf hp
  rwa [State.releaseClaim_of_free hc] at h

end Sys2Proof.Machine
end

section
/-! PROOFS. Delivery, stock and run list keep the claim book (R31, R62 to R70, R127 to R138). -/

namespace Sys2Proof.Machine

/-! ## Completion and settlement (R132 to R138) -/

/-- Within an operation the invariant may be used. -/
theorem State.keepsBook.of {s t : State} (h : s.MidInv → s.keepsBook t) : s.keepsBook t := ⟨fun hs => (h hs).kept hs⟩

theorem CallState.free_of_promised {c : CallState} (h : c.promised = true) : c.claims = false ∧ c ≠ .quiet := by
  cases c <;> simp [CallState.promised, CallState.claims] at h ⊢

theorem LaneRec.completed_frees : LaneRec.frees LaneRec.completed := ⟨fun _ => rfl, fun _ => rfl⟩

theorem LaneRec.settledShort_frees (run : RunId) : LaneRec.frees (LaneRec.settledShort run) := ⟨fun _ => rfl, fun _ => rfl⟩

theorem LaneRec.becomeDue_frees (run : RunId) (q d : Nat) (p : Bool) : LaneRec.frees (LaneRec.becomeDue run q d p) :=
  ⟨fun _ => rfl, fun _ => rfl⟩

theorem LaneRec.fallBack_frees : LaneRec.frees LaneRec.fallBack := ⟨fun _ => rfl, fun _ => rfl⟩

theorem LaneRec.unconfirmed_frees : LaneRec.frees LaneRec.unconfirmed := ⟨fun _ => rfl, fun _ => rfl⟩

theorem LaneRec.manifested_frees (run : RunId) (bins : Nat) (visitOpen : Bool) :
    LaneRec.frees (LaneRec.manifested run bins visitOpen) := by
  refine ⟨fun r => ?_, fun _ => rfl⟩
  cases visitOpen <;> rfl

/-- A bank without a record run takes this one (R133, R136). -/
def State.recorded (s : State) (k : Bank) (run : Option RunId) : State :=
  if (s.bank k).recordRun.isNone then s.modBank k fun b => { b with recordRun := run } else s

/-- The lane joins the item list of its bank where this run is the record run (R133, R136). -/
def State.itemised (s : State) (l : LaneIx) (run : Option RunId) : State :=
  if (s.bank (bankOf l)).recordRun = run then s.joinItems l else s

@[simp] theorem State.recorded_frame (s : State) (k : Bank) (run : Option RunId) :
    (s.recorded k run).lanes = s.lanes ∧ (s.recorded k run).book = s.book := by
  unfold State.recorded; split <;> simp

@[simp] theorem State.itemised_frame (s : State) (l : LaneIx) (run : Option RunId) :
    (s.itemised l run).lanes = s.lanes ∧ (s.itemised l run).book = s.book := by
  unfold State.itemised; split <;> simp

theorem State.recorded_keepsBook (s : State) (k : Bank) (run : Option RunId) : s.keepsBook (s.recorded k run) := by
  unfold State.recorded
  split
  · exact s.modBank_keepsBook ..
  · exact .refl s

theorem State.itemised_keepsBook (s : State) (l : LaneIx) (run : Option RunId) : s.keepsBook (s.itemised l run) := by
  unfold State.itemised
  split
  · exact s.joinItems_keepsBook l
  · exact .refl s

theorem State.reported_eq (s : State) (l : LaneIx) :
    s.reported l = (s.recorded (bankOf l) (s.lane l).onRun).itemised l (s.lane l).onRun := rfl

theorem State.settleLane_eq (run : RunId) (s : State) (l : LaneIx) :
    s.settleLane run l =
      (((s.recorded (bankOf l) (some run)).itemised l (some run)).moveLane l (LaneRec.settledShort run)).ask := rfl

theorem State.complete_keepsBook {s : State} {l : LaneIx} (hp : (s.lane l).call.promised = true) :
    s.keepsBook (s.complete l) := .of fun hs => by
  have hlanes : ∀ m, (s.reported l).lane m = s.lane m := State.lane_congr (s.reported_frame l).1
  obtain ⟨hfree, hne⟩ := CallState.free_of_promised hp
  rw [State.complete_eq]
  have hreported : s.keepsBook (s.reported l) := (s.recorded_keepsBook ..).trans (State.itemised_keepsBook ..)
  have hmoved : (s.reported l).keepsBook ((s.reported l).moveLane l LaneRec.completed) :=
    State.moveLane_keepsBook LaneRec.completed_frees (by rw [hlanes]; exact hs.present hne) (by rw [hlanes, hfree])
  exact hreported.trans (hmoved.trans (State.forecastLane_keepsBook _ l))

theorem State.completeIfDone_keepsBook (s : State) (l : LaneIx) : s.keepsBook (s.completeIfDone l) := by
  unfold State.completeIfDone
  dsimp only
  split
  next h => exact State.complete_keepsBook (Bool.and_eq_true_iff.mp h).1
  · exact .refl s

/-- A lane that is promised may take other bins. -/
theorem LaneRec.alike_of_promised {r r' : LaneRec} (h : r.call.promised = true) (hp : r'.present = r.present)
    (hm : r'.moved = r.moved) (hc : r'.call = r.call) (hcond : r'.cond = r.cond) : r.alike r' :=
  ⟨hp, hm, hc, fun hcl => (by rw [(CallState.free_of_promised h).1] at hcl; cases hcl), fun _ => hcond⟩

theorem State.countFeed_keepsBook (s : State) (l : LaneIx) : s.keepsBook (s.countFeed l) := by
  unfold State.countFeed
  split
  next h =>
    exact (State.modLane_keepsBook (LaneRec.alike_of_promised h rfl rfl rfl rfl)).trans
      ((State.followItem_keepsBook _ l).trans (State.completeIfDone_keepsBook _ l))
  · exact .refl s

theorem State.settleLane_keepsBook (run : RunId) {s : State} {l : LaneIx} (hp : (s.lane l).present = true)
    (hc : (s.lane l).call.claims = false) : s.keepsBook (s.settleLane run l) := by
  have hlanes : ∀ m, ((s.recorded (bankOf l) (some run)).itemised l (some run)).lane m = s.lane m :=
    State.lane_congr (by simp)
  rw [State.settleLane_eq]
  have hitem : s.keepsBook ((s.recorded (bankOf l) (some run)).itemised l (some run)) :=
    (s.recorded_keepsBook ..).trans (State.itemised_keepsBook ..)
  exact hitem.trans ((State.moveLane_keepsBook (LaneRec.settledShort_frees run) (by rw [hlanes, hp])
    (by rw [hlanes, hc])).trans (State.ask_keepsBook _))

/-- The item list of a bank is emptied when it is this run's (R138). -/
def State.listClosed (s : State) (k : Bank) (run : RunId) : State :=
  if (s.bank k).recordRun = some run then s.modBank k fun b => { b with items := [], recordRun := none } else s

/-- A visit OPEN for this run closes, with the face (R138). -/
def State.visitClosed (s : State) (k : Bank) (run : RunId) : State :=
  if (s.bank k).visit = some run then (s.modBank k fun b => { b with visit := none, revisit := false }).closeFace k else s

theorem State.closeBusiness_eq (s : State) (k : Bank) (run : RunId) :
    s.closeBusiness k run = (s.listClosed k run).visitClosed k run := rfl

theorem State.closeBusiness_keepsBook (s : State) (k : Bank) (run : RunId) : s.keepsBook (s.closeBusiness k run) := by
  rw [State.closeBusiness_eq]
  refine .trans (t := s.listClosed k run) ?_ ?_
  · unfold State.listClosed
    split
    · exact s.modBank_keepsBook ..
    · exact .refl s
  · unfold State.visitClosed
    split
    · exact (State.modBank_keepsBook ..).trans (State.closeFace_keepsBook ..)
    · exact .refl _

theorem State.owedLanes_free {s : State} {k : Bank} {run : RunId} :
    ∀ l ∈ s.owedLanes k run, (s.lane l).present = true ∧ (s.lane l).call.claims = false := fun l hl => by
  obtain ⟨-, howed⟩ := List.mem_filter.mp hl
  simp only [LaneRec.promisedOn, Bool.and_eq_true] at howed
  exact ⟨howed.1, (CallState.free_of_promised howed.2.1).1⟩

theorem State.settleBank_keepsBook (s : State) (k : Bank) (run : RunId) : s.keepsBook (s.settleBank k run) :=
  (State.keepsBook.foldl_free (fun t l => State.settleLane_keepsBook run (s := t) (l := l)) _ s State.owedLanes_free).trans
    (State.closeBusiness_keepsBook _ k run)

theorem State.settleDeparted_keepsBook (s : State) (k : Bank) (run : RunId) : s.keepsBook (s.settleDeparted k run) :=
  (s.settleBank_keepsBook k run).trans (State.modBank_keepsBook ..)

theorem State.settleRun_keepsBook (s : State) (run : RunId) : s.keepsBook (s.settleRun run) :=
  (s.settleBank_keepsBook .a run).trans (State.settleBank_keepsBook _ .b run)

theorem departBanks_keepsBook (run : RunId) (ks : List Bank) (acc : State × List Item) :
    acc.1.keepsBook (ks.foldl (departBank run) acc).1 := by
  induction ks generalizing acc with
  | nil => exact .refl _
  | cons k ks ih =>
    refine .trans ?_ (ih (departBank run acc k))
    unfold departBank
    split
    · exact State.settleDeparted_keepsBook ..
    · exact .refl _

theorem State.offer_keepsBook (s : State) (f : TxFrame) : s.keepsBook (s.offer f) :=
  .of_lanes (by simp) (by simp) (by simp) (Air.of_sansQueue (by simp)).2.2.2.1 (.inr (by simp))

theorem State.departStop_keepsBook (s : State) (run : RunId) (stop : Nat) : s.keepsBook (s.departStop run stop) := by
  have h := departBanks_keepsBook run (s.banksAt stop) (s, [])
  unfold State.departStop
  dsimp only
  split
  · exact h
  · exact h.trans (State.offer_keepsBook ..)

/-! ## Arrival (R128 to R130) -/

theorem CallState.ne_quiet_of_claims {c : CallState} (h : c.claims = true) : c ≠ .quiet := by
  rintro rfl; cases h

theorem State.arriveLane_keepsBook (run : RunId) (s : State) (l : LaneIx) : s.keepsBook (s.arriveLane run l) := by
  unfold State.arriveLane
  dsimp only
  split
  · exact .refl s
  next hp =>
    have hp' : (s.lane l).present = true := by simpa using hp
    split
    next h =>
      exact (State.moveLane_keepsBook (LaneRec.becomeDue_frees ..) hp' (by rw [h.1]; rfl)).trans
        (State.joinItems_keepsBook ..)
    · split
      · exact (State.releaseMove_keepsBook (LaneRec.becomeDue_frees ..) hp').trans (State.joinItems_keepsBook ..)
      · exact .refl s

theorem State.revisitLane_keepsBook (run : RunId) (s : State) (l : LaneIx) : s.keepsBook (s.revisitLane run l) := by
  unfold State.revisitLane
  dsimp only
  split
  · split
    next h =>
      simp only [Bool.and_eq_true] at h
      exact (State.releaseMove_keepsBook (LaneRec.becomeDue_frees ..) h.1.1).trans (State.joinItems_keepsBook ..)
    · exact .refl s
  · exact .refl s

theorem State.clearedFor_keepsBook (s : State) (k : Bank) (run : RunId) : s.keepsBook (s.clearedFor k run) := by
  unfold State.clearedFor
  split
  · split
    · exact .refl s
    · exact s.settleBank_keepsBook ..
  · exact .refl s

theorem State.lanesArrived_keepsBook (s : State) (k : Bank) (run : RunId) (revisit : Bool) :
    s.keepsBook (s.lanesArrived k run revisit) := by
  have h := State.keepsBook.foldl (State.arriveLane_keepsBook run) (bankLanes k) s
  unfold State.lanesArrived
  dsimp only
  split
  · exact h.trans (.foldl (State.revisitLane_keepsBook run) _ _)
  · exact h

theorem State.arriveBank_keepsBook (run : RunId) (revisit : Bool) (s : State) (k : Bank) :
    s.keepsBook (s.arriveBank run revisit k) := by
  rw [State.arriveBank_eq]
  exact (s.clearedFor_keepsBook k run).trans ((State.modBank_keepsBook ..).trans
    ((State.lanesArrived_keepsBook _ k run revisit).trans (State.trigger_keepsBook _ k)))

theorem State.takeArrive_keepsBook (s : State) (src : Byte) (p : List Byte) : s.keepsBook (s.takeArrive src p) := by
  unfold State.takeArrive
  split
  · split
    · exact .foldl (State.arriveBank_keepsBook _ _) _ s
    · exact .refl s
  · exact .refl s

theorem State.takeDepart_keepsBook (s : State) (src : Byte) (p : List Byte) : s.keepsBook (s.takeDepart src p) := by
  unfold State.takeDepart
  split
  · split
    · exact s.departStop_keepsBook ..
    · exact .refl s
  · exact .refl s

/-! ## Sensor events and consumption (R24 to R31) -/

theorem LaneRec.fed_alike (r : LaneRec) : r.alike r.fed := by
  unfold LaneRec.fed; split <;> exact ⟨rfl, rfl, rfl, fun _ => ⟨rfl, rfl, rfl⟩, fun _ => rfl⟩

theorem LaneRec.setSensor_alike (r : LaneRec) (k : Sensor) (x : SensorIn) : r.alike (r.setSensor k x) := by
  cases k <;> exact ⟨rfl, rfl, rfl, fun _ => ⟨rfl, rfl, rfl⟩, fun _ => rfl⟩

theorem State.takeRising_keepsBook (s : State) (l : LaneIx) (k : Sensor) : s.keepsBook (s.takeRising l k) := by
  cases k
  · have hfed : s.keepsBook (s.modLane l LaneRec.fed) := State.modLane_keepsBook (LaneRec.fed_alike _)
    have hstock : s.keepsBook (s.stockFed l) := by
      unfold State.stockFed
      split
      · exact hfed.trans (State.markOverfill_keepsBook ..)
      · exact hfed.trans (State.forecastLane_keepsBook ..)
    exact hstock.trans (State.countFeed_keepsBook ..)
  · show s.keepsBook (s.takeEmpty l)
    unfold State.takeEmpty
    split
    · exact (State.modLane_keepsBook (f := fun r => { r with s := 0 }) ⟨rfl, rfl, rfl, fun _ => ⟨rfl, rfl, rfl⟩, fun _ => rfl⟩).trans
        (.of_lanes rfl rfl rfl rfl (.inr rfl))
    · exact (State.modLane_keepsBook ⟨rfl, rfl, rfl, fun _ => ⟨rfl, rfl, rfl⟩, fun _ => rfl⟩).trans
        (State.forecastLane_keepsBook ..)
  · show s.keepsBook (s.takeReserve l)
    unfold State.takeReserve
    split
    · exact (State.modLane_keepsBook ⟨rfl, rfl, rfl, fun _ => ⟨rfl, rfl, rfl⟩, fun _ => rfl⟩).trans
        (State.forecastLane_keepsBook ..)
    · exact .refl s

theorem State.takeChange_keepsBook (s : State) (l : LaneIx) (k : Sensor) (x : Bool) : s.keepsBook (s.takeChange l k x) := by
  have hclear : s.keepsBook (s.clearLatch l k) := State.modLane_keepsBook (LaneRec.setSensor_alike ..)
  unfold State.takeChange
  split
  · dsimp only
    split
    · exact hclear.trans (State.takeRising_keepsBook ..)
    · exact hclear
  · exact .refl s

theorem LaneRec.consume_alike (r : LaneRec) (e : Option Variant) : r.alike (r.consume e) := by
  unfold LaneRec.consume
  dsimp only
  split
  · exact .refl r
  · split <;> exact ⟨rfl, rfl, rfl, fun _ => ⟨rfl, rfl, rfl⟩, fun _ => rfl⟩

theorem State.consumeUnits_keepsBook (s : State) (units : List (Option Variant)) : s.keepsBook (s.consumeUnits units) := by
  have hone : ∀ (t : State) (e : Option Variant), t.keepsBook (t.mapLanes fun _ r => r.consume e) := fun t e => by
    refine .of_stands (.of_alike (fun l => ?_) rfl) rfl rfl (.inr rfl)
    rw [State.lane_mapLanes]
    exact LaneRec.consume_alike ..
  exact .foldl hone units s

end Sys2Proof.Machine
end

section
/-! PROOFS. The run list of a RACK station keeps the claim book: removal, insertion, replacement, the fall back of claims
and MANIFEST parts (R58 to R70, R82). -/

namespace Sys2Proof.Machine

theorem LaneRec.claimsOn_claims {r : LaneRec} {run : RunId} (h : r.claimsOn run = true) : r.call.claims = true := by
  simp only [LaneRec.claimsOn, Bool.and_eq_true] at h
  exact h.1

/-! ## Removal (R64, R65) -/

theorem State.dropClaim_keepsBook (run : RunId) (s : State) (l : LaneIx) : s.keepsBook (s.dropClaim run l) := .of fun hs => by
  unfold State.dropClaim
  split
  next h =>
    exact State.releaseMove_keepsBook LaneRec.fallBack_frees
      (hs.present (CallState.ne_quiet_of_claims (LaneRec.claimsOn_claims h)))
  · exact .refl s

/-- The run list of a RACK station may change. -/
theorem State.setRuns_keepsBook {s : State} (h : s.start.role = .rack) (runs : List RunRec) :
    s.keepsBook { s with runs := runs } := .of_lanes rfl rfl rfl rfl (.inl h)

theorem State.setCnt_keepsBook (s : State) (c : Counters) : s.keepsBook { s with cnt := c } :=
  .of_lanes rfl rfl rfl rfl (.inr rfl)

theorem State.removeRun_keepsBook {s : State} (h : s.start.role = .rack) (run : RunId) : s.keepsBook (s.removeRun run) := by
  have hclaims := State.keepsBook.foldl (State.dropClaim_keepsBook run) allLanes (s.settleRun run)
  have hrole : (allLanes.foldl (State.dropClaim run) (s.settleRun run)).start.role = .rack := by
    rw [show (allLanes.foldl (State.dropClaim run) (s.settleRun run)).start = s.start by simp, h]
  exact (s.settleRun_keepsBook run).trans (hclaims.trans ((State.setRuns_keepsBook hrole _).trans (State.ask_keepsBook _)))

theorem State.ageRun_keepsBook {s : State} (h : s.start.role = .rack) (run : RunId) : s.keepsBook (s.ageRun run) := by
  unfold State.ageRun
  split
  · split
    · exact State.removeRun_keepsBook h run
    · exact .refl s
  · exact .refl s

/-! ## Insertion and replacement (R59 to R63) -/

theorem State.insertRun_keepsBook {s : State} (h : s.start.role = .rack) (n : RunNotice) (st : RunState) :
    s.keepsBook (s.insertRun n st) := by
  unfold State.insertRun
  dsimp only
  split
  · exact (State.setRuns_keepsBook h _).trans (State.ask_keepsBook _)
  · split
    · exact (State.setRuns_keepsBook h _).trans (State.ask_keepsBook _)
    · exact s.setCnt_keepsBook _

theorem State.replaceRun_keepsBook {s : State} (h : s.start.role = .rack) (old : RunRec) (n : RunNotice) (st : RunState) :
    s.keepsBook (s.replaceRun old n st) := by
  have hstops := fun u : State => State.keepsBook.foldl (fun w stop => State.departStop_keepsBook w n.id stop)
    (s.servedStops old (s.replaced old n st)) u
  unfold State.replaceRun
  dsimp only
  have hsettled : ∀ t : State, s.keepsBook t → t.start = s.start →
      s.keepsBook (t.modRun n.id fun _ => s.replaced old n st) := fun t ht hst =>
    ht.trans (State.modRun_keepsBook (by rw [hst, h]) ..)
  refine .trans ?_ (hstops _)
  have hfirst : s.keepsBook ((if old.state ≠ .planning ∧ st = .planning then s.settleRun n.id else s).modRun n.id
      fun _ => s.replaced old n st) := by
    split
    · exact hsettled _ (s.settleRun_keepsBook n.id) (by simp)
    · exact hsettled _ (.refl s) rfl
  split
  · exact hfirst.trans (State.ask_keepsBook _)
  · exact hfirst

theorem State.takeRun_keepsBook {s : State} (h : s.start.role = .rack) (src : Byte) (p : List Byte) :
    s.keepsBook (s.takeRun src p) := by
  unfold State.takeRun
  split
  · exact .refl s
  next n hn =>
    split
    · exact .refl s
    · split
      · split
        · exact .refl s
        · split
          · exact .refl s
          · exact State.insertRun_keepsBook h ..
      · split
        · exact State.removeRun_keepsBook h _
        · split
          · exact State.removeRun_keepsBook h _
          · exact State.replaceRun_keepsBook h ..

/-! ## Manifest settled (R61, R70) -/

theorem State.fallBackLane_keepsBook (run : RunId) (s : State) (l : LaneIx) : s.keepsBook (s.fallBackLane run l) :=
  .of fun hs => by
    unfold State.fallBackLane
    dsimp only
    split
    next h =>
      exact (State.moveLane_keepsBook LaneRec.unconfirmed_frees (hs.present (by rw [h.1]; decide)) (by rw [h.1]; rfl)).trans
        (State.ask_keepsBook _)
    · exact s.dropClaim_keepsBook run l

theorem State.manifestSettled_keepsBook {s : State} (h : s.start.role = .rack) (run : RunId) :
    s.keepsBook (s.manifestSettled run) :=
  (State.modRun_keepsBook h run fun r => { r with settled := true }).trans
    ((State.keepsBook.foldl (State.fallBackLane_keepsBook run) allLanes _).trans (State.ask_keepsBook _))

theorem State.waitExpiry_keepsBook {s : State} (h : s.start.role = .rack) (run : RunId) : s.keepsBook (s.waitExpiry run) := by
  have hexpired : s.keepsBook (s.modRun run fun x => { x with wait := .expired }) := State.modRun_keepsBook h ..
  have hrole : (s.modRun run fun x => { x with wait := .expired }).start.role = .rack := h
  unfold State.waitExpiry
  split
  · split
    · split
      · dsimp only
        split
        · exact hexpired
        · exact hexpired.trans (State.manifestSettled_keepsBook hrole run)
      · exact .refl s
    · exact .refl s
  · exact .refl s

/-! ## MANIFEST parts (R66 to R69) -/

theorem State.promiseLane_keepsBook {s : State} {l : LaneIx} (h : (s.lane l).present = true) (run : RunId) (bins : Nat) :
    s.keepsBook (s.promiseLane run l bins) := by
  unfold State.promiseLane
  dsimp only
  split
  · exact (State.releaseMove_keepsBook (LaneRec.manifested_frees ..) h).trans (State.joinItems_keepsBook ..)
  · exact State.releaseMove_keepsBook (LaneRec.manifested_frees ..) h

theorem State.confirmLane_keepsBook {s : State} {l : LaneIx} (h : (s.lane l).call.promised = true) (bins : Nat) :
    s.keepsBook (s.confirmLane l bins) :=
  (State.modLane_keepsBook (LaneRec.alike_of_promised h rfl rfl rfl rfl)).trans
    ((State.followItem_keepsBook _ l).trans (State.completeIfDone_keepsBook _ l))

theorem State.present_of_entryLane {s : State} {e : PartEntry} {l : LaneIx} (h : s.entryLane e = some l) :
    (s.lane l).present = true := by
  unfold State.entryLane at h
  split at h
  · dsimp only at h
    split at h
    next hc => cases h; exact hc.2.1
    · cases h
  · cases h

theorem State.applyEntry_keepsBook (run : RunId) (s : State) (e : PartEntry) : s.keepsBook (s.applyEntry run e) := by
  unfold State.applyEntry
  split
  · exact .refl s
  next l hl =>
    dsimp only
    split
    · exact State.promiseLane_keepsBook (State.present_of_entryLane hl) ..
    next hp =>
      split
      · exact State.confirmLane_keepsBook (by simpa using hp) _
      · exact s.setCnt_keepsBook _

theorem State.partApplied_keepsBook {s : State} (h : s.start.role = .rack) (old : RunRec) (p : ManifestPart) :
    s.keepsBook (s.partApplied old p) := by
  refine State.keepsBook.trans (t := s.partHeard old p) ?_ (.foldl (State.applyEntry_keepsBook p.id) p.entries _)
  unfold State.partHeard
  dsimp only
  split
  · exact (State.modRun_keepsBook h ..).trans (State.ask_keepsBook _)
  · exact State.modRun_keepsBook h ..

theorem State.applyPart_keepsBook {s : State} (h : s.start.role = .rack) (old : RunRec) (p : ManifestPart) :
    s.keepsBook (s.applyPart old p) := by
  have hparts := State.partApplied_keepsBook h old p
  have hrole : (s.partApplied old p).start.role = .rack := by
    have hstart : (s.partApplied old p).start = s.start := by
      unfold State.partApplied State.partHeard; dsimp only; split <;> simp
    rw [hstart, h]
  have hstopped := hparts.trans (State.modRun_keepsBook hrole p.id fun r => { r with wait := .stopped })
  have hrole' : ((s.partApplied old p).modRun p.id fun r => { r with wait := .stopped }).start.role = .rack := hrole
  rw [State.applyPart_eq]
  split
  · dsimp only
    split
    · exact hstopped
    · exact hstopped.trans (State.manifestSettled_keepsBook hrole' p.id)
  · exact hparts

theorem State.takeManifest_keepsBook {s : State} (h : s.start.role = .rack) (src : Byte) (p : List Byte) :
    s.keepsBook (s.takeManifest src p) := by
  unfold State.takeManifest
  split
  · exact .refl s
  · split
    · exact .refl s
    · split
      · exact .refl s
      · split
        · exact .refl s
        · split
          · exact .refl s
          · exact State.applyPart_keepsBook h ..

end Sys2Proof.Machine
end

section
/-! PROOFS. Every event keeps the claim book: the deeds of the blocks, the requests taken up at the end of the event, and
the start of an operation (R74, R78, R79, R82, R86). -/

namespace Sys2Proof.Machine

/-! ## Lanes that keep their claims -/

/-- What the claim book reads of every lane stands. -/
structure State.lanesAlike (s t : State) : Prop where
  lane : ∀ l, (s.lane l).alike (t.lane l)

theorem State.lanesAlike.of_lanes {s t : State} (h : t.lanes = s.lanes) : s.lanesAlike t :=
  ⟨fun l => by rw [State.lane_congr h]; exact .refl _⟩

theorem State.lanesAlike.trans {s t u : State} (h : s.lanesAlike t) (h' : t.lanesAlike u) : s.lanesAlike u :=
  ⟨fun l => (h.lane l).trans (h'.lane l)⟩

theorem State.forecastAll_alike (s : State) : s.lanesAlike s.forecastAll := by
  have hone : ∀ (t : State) l, t.lanesAlike (t.forecastLane l) := fun t l => ⟨fun m => by
    rw [State.forecastLane_same_or]
    split
    next h =>
      obtain ⟨rfl, hp, -⟩ := h
      exact ⟨rfl, rfl, rfl, fun _ => ⟨rfl, rfl, rfl⟩, fun hc => by rw [hp] at hc; cases hc⟩
    · exact .refl _⟩
  have hall : ∀ (ls : List LaneIx) (t : State), t.lanesAlike (ls.foldl State.forecastLane t) := fun ls => by
    induction ls with
    | nil => exact fun t => .of_lanes rfl
    | cons l ls ih => exact fun t => (hone t l).trans (ih _)
  exact hall allLanes s

theorem State.consumeUnits_alike (s : State) (units : List (Option Variant)) : s.lanesAlike (s.consumeUnits units) := by
  unfold State.consumeUnits
  induction units generalizing s with
  | nil => exact .of_lanes rfl
  | cons e es ih =>
    refine .trans (t := s.mapLanes fun _ r => r.consume e) ⟨fun l => ?_⟩ (ih _)
    rw [State.lane_mapLanes]
    exact LaneRec.consume_alike ..

theorem State.buildWindow_alike (s : State) (u : UnitNotice) : s.lanesAlike (s.buildWindow u) := by
  unfold State.buildWindow
  split
  · exact .trans (.of_lanes (by simp)) (State.forecastAll_alike _)
  · exact .of_lanes rfl

theorem State.advanceWindow_alike (s : State) (u : UnitNotice) (d : Nat) : s.lanesAlike (s.advanceWindow u d) := by
  unfold State.advanceWindow
  split
  · exact (State.lanesAlike.of_lanes (by rfl)).trans ((State.consumeUnits_alike _ _).trans (State.forecastAll_alike _))
  · exact .of_lanes rfl

theorem State.adopt_alike (s : State) (u : UnitNotice) : s.lanesAlike (s.adopt u) := by
  have hheard : s.lanesAlike (({ s with line.n := u.n } : State).hearPacer u) := .of_lanes rfl
  exact (hheard.trans (State.buildWindow_alike _ u)).trans (.of_lanes (by simp [State.adopt]))

theorem State.processUnit_alike (s : State) (src : Byte) (u : UnitNotice) : s.lanesAlike (s.processUnit src u) := by
  have hfollow : s.lanesAlike { s with line.followed := some src } := .of_lanes rfl
  unfold State.processUnit
  dsimp only
  split
  · exact hfollow.trans (State.adopt_alike _ u)
  · unfold State.advanceTest
    dsimp only
    split
    · exact .of_lanes (by simp)
    · split
      · exact .trans (.of_lanes (by simp)) (State.advanceWindow_alike _ u _)
      · exact .trans (.of_lanes (by simp)) (State.buildWindow_alike _ u)

theorem State.takeUnit_alike (s : State) (src : Byte) (p : List Byte) : s.lanesAlike (s.takeUnit src p) := by
  unfold State.takeUnit
  split
  · exact .of_lanes rfl
  · split
    · split
      · exact .trans (.of_lanes (by simp)) (State.processUnit_alike _ _ _)
      · exact .of_lanes (by simp)
    · split
      · exact .trans (.of_lanes (by simp)) (State.processUnit_alike _ _ _)
      · exact .of_lanes (by simp)

/-! ## The entries outside the run list -/

@[simp] theorem State.forecastLane_entries (s : State) (l : LaneIx) : (s.forecastLane l).book.entries = s.book.entries := by
  rw [State.forecastLane_asked]

@[simp] theorem State.forecastAll_entries (s : State) : s.forecastAll.book.entries = s.book.entries :=
  by simpa [State.forecastAll] using
    foldl_keeps (f := State.forecastLane) (g := fun t : State => t.book.entries) State.forecastLane_entries allLanes s

@[simp] theorem State.openRun_entries (s : State) : s.openRun.book.entries = s.book.entries := by
  simp only [State.openRun]; split <;> simp

@[simp] theorem State.openAndAnnounce_entries (s : State) : s.openAndAnnounce.book.entries = s.book.entries := by
  simp only [State.openAndAnnounce]; split <;> simp

@[simp] theorem State.buildWindow_entries (s : State) (u : UnitNotice) :
    (s.buildWindow u).book.entries = s.book.entries := by
  simp only [State.buildWindow]; split <;> simp

@[simp] theorem State.advanceWindow_entries (s : State) (u : UnitNotice) (d : Nat) :
    (s.advanceWindow u d).book.entries = s.book.entries := by
  simp only [State.advanceWindow]; split <;> simp

@[simp] theorem State.processUnit_entries (s : State) (src : Byte) (u : UnitNotice) :
    (s.processUnit src u).book.entries = s.book.entries := by
  simp only [State.processUnit, State.adopt, State.advanceTest]
  (repeat' split) <;> simp

@[simp] theorem State.takeUnit_entries (s : State) (src : Byte) (p : List Byte) :
    (s.takeUnit src p).book.entries = s.book.entries := by
  simp only [State.takeUnit]
  (repeat' split) <;> simp

@[simp] theorem State.listenEnds_entries (s : State) : s.listenEnds.book.entries = s.book.entries := by
  simp only [State.listenEnds, State.enterRole]; (repeat' split) <;> simp

@[simp] theorem State.bookRefresh_entries (s : State) : s.bookRefresh.book.entries = s.book.entries := by
  simp only [State.bookRefresh]; split <;> simp

@[simp] theorem State.pressGo_entries (s : State) : s.pressGo.book.entries = s.book.entries := by
  simp only [State.pressGo, State.departSupermarket]; (repeat' split) <;> simp

@[simp] theorem State.strobe_entries (s : State) : s.strobe.book.entries = s.book.entries := by
  simp only [State.strobe, State.takeStrobe, State.strobeAfterDeparture, State.strobeEnroute, State.closeRun]
  (repeat' split) <;> simp

theorem State.pressLoad_entries (s : State) :
    s.pressLoad.book.entries = s.book.entries ∨ s.pressLoad.book.entries = [] := by
  simp only [State.pressLoad, State.loadLock]
  (repeat' split) <;> simp

/-! ## The invariant after a deed -/

/-- The own entries stay in the book; of the other entries some may leave. -/
structure State.ownEntriesStay (s t : State) : Prop where
  kept : ∃ p : Entry → Bool, t.book.entries = s.book.entries.filter p ∧ ∀ e ∈ s.book.entries, e.own = true → p e = true

theorem State.ownEntriesStay.of_eq {s t : State} (h : t.book.entries = s.book.entries) : s.ownEntriesStay t :=
  ⟨fun _ => true, by rw [h, List.filter_true], fun _ _ _ => rfl⟩

/-- A book without an own entry may lose every entry. -/
theorem State.ownEntriesStay.of_nil {s t : State} (h : t.book.entries = []) (hown : ∀ e ∈ s.book.entries, e.own = false) :
    s.ownEntriesStay t :=
  ⟨fun _ => false, by rw [h, List.filter_false], fun e he ho => by rw [hown e he] at ho; cases ho⟩

/-- Lanes that keep their claims, an operation in progress that stands and own entries that stay keep the invariant. -/
theorem State.BookInv.midInv_of_work {s t : State} (h : s.BookInv) (hl : s.lanesAlike t) (he : s.ownEntriesStay t)
    (hw : t.book.work = s.book.work) (hstart : t.start.role = s.start.role ∧ t.own = s.own ∧ t.ownByte = s.ownByte)
    (hnl : t.start.state ≠ .load) (hq : t.air.rxq = s.air.rxq) (hruns : t.runs = s.runs) : t.MidInv := by
  obtain ⟨hentries, hown, hop, hrack, hrxq, habsent, -⟩ := h
  obtain ⟨hrole, haddr, hbyte⟩ := hstart
  obtain ⟨hopw, hpending, -⟩ := Book.of_work hw
  obtain ⟨p, hp, hkeep⟩ := he.kept
  have hinv : ∀ es, s.EntriesInv es → t.EntriesInv es := fun es hes => by
    simpa only [State.EntriesInv, hrole, haddr] using hes
  refine ⟨?_, ⟨fun e hmem ho => ?_, fun l hc => ?_⟩, fun op ho => ⟨⟨?_, ?_, ?_, ?_, ?_⟩, fun l => ⟨fun hm => ?_, fun hm => ?_⟩⟩,
    ?_, ?_, fun l hpr => ?_, hnl⟩
  · rw [hp]; exact hinv _ (hentries.filter p)
  · rw [hp] at hmem
    obtain ⟨hcall, hrest⟩ := hown.1 e (List.mem_of_mem_filter hmem) ho
    have hclaims : (s.lane e.lane).call.claims = true := by rw [hcall]; split <;> rfl
    obtain ⟨h1, h2, h3⟩ := (hl.lane e.lane).claim hclaims
    rw [(hl.lane e.lane).call, h1, h2, h3]
    exact ⟨hcall, hrest⟩
  · rw [(hl.lane l).call] at hc
    obtain ⟨e, hmem, ho, hel⟩ := hown.2 l hc
    exact ⟨e, hp ▸ List.mem_filter.mpr ⟨hmem, hkeep e hmem ho⟩, ho, hel⟩
  · exact hinv _ (hop op (hopw ▸ ho)).read.entries
  · rw [haddr]; exact (hop op (hopw ▸ ho)).read.sender
  · rw [hrole]; exact (hop op (hopw ▸ ho)).read.runs
  · exact (hop op (hopw ▸ ho)).read.claims
  · exact fun l hpr => (hop op (hopw ▸ ho)).read.absent l (by rw [← (hl.lane l).present, hpr])
  · obtain ⟨-, -, hstill, -⟩ := (hop op (hopw ▸ ho)).2.2.2 l
    rw [(hl.lane l).call]
    exact hstill (by rw [← (hl.lane l).moved, hm])
  · obtain ⟨-, -, -, hmoved⟩ := (hop op (hopw ▸ ho)).2.2.2 l
    obtain ⟨hc, hmark⟩ := hmoved (by rw [← (hl.lane l).moved, hm])
    rw [(hl.lane l).call, hpending]
    exact ⟨hc, .inl hmark⟩
  · rw [hrole, hruns]; exact hrack
  · rw [hq, hbyte]; exact hrxq
  · have hpr' : (s.lane l).present = false := by rw [← (hl.lane l).present, hpr]
    rw [(hl.lane l).call, (hl.lane l).cond hpr']
    exact habsent l hpr'

end Sys2Proof.Machine
end

section
/-! PROOFS. The claim book over the effects of a step other than a completion: the requests taken up, operations started,
inputs, frames and starts (R74, R78, R79, R184). -/

namespace Sys2Proof.Machine

/-! ## A CLAIMSET handed over (R83) -/

theorem State.own_ne_of_carries {s : State} {f : RxFrame} (h : ∀ g ∈ s.air.rxq, g.src ≠ s.ownByte) (hf : s.carries f) :
    f.src.toNat ≠ s.own := fun hc => by
  have hne : f.src ≠ s.ownByte := hf.elim (h f) id
  refine hne (BitVec.eq_of_toNat_eq ?_)
  rw [hc, State.ownByte, State.own, BitVec.toNat_setWidth, Nat.mod_eq_of_lt]
  exact s.start.own.isLt.trans (by decide)

theorem readClaimset_sender {src : Byte} {p : List Byte} {cs : ClaimSet} (h : readClaimset src p = some cs) :
    cs.sender = src.toNat := by
  unfold readClaimset at h
  split at h
  · split at h
    · cases h; rfl
    · cases h
  · cases h

/-! ## An operation started (R79) -/

/-- The operation that a start puts in progress. -/
def State.newOp (s : State) (cs : Option ClaimSet) : BookOp :=
  { claimset := cs, refresh := s.book.refreshDue, n := s.line.n, runs := s.runs,
    planning := s.planner.planning.map Run.id, lanes := Vector.ofFn fun l => (s.lane l).read, entries := s.book.entries }

theorem State.startOp_op (s : State) (cs : Option ClaimSet) : (s.startOp cs).book.op = some (s.newOp cs) := rfl

theorem State.startOp_entries (s : State) (cs : Option ClaimSet) : (s.startOp cs).book.entries = s.book.entries := rfl

theorem State.newOp_lane (s : State) (cs : Option ClaimSet) (l : LaneIx) : (s.newOp cs).lanes[l] = (s.lane l).read := by
  simp [State.newOp]

theorem State.OwnInv.of_calls {s t : State} (h : s.OwnInv) (hl : ∀ l, (t.lane l).call = (s.lane l).call ∧
    (t.lane l).claimRun = (s.lane l).claimRun ∧ (t.lane l).requested = (s.lane l).requested ∧
    (t.lane l).late = (s.lane l).late) (he : t.book.entries = s.book.entries) : t.OwnInv := by
  refine ⟨fun e hmem ho => ?_, fun l hc => ?_⟩
  · obtain ⟨h1, h2, h3, h4⟩ := hl e.lane
    rw [h1, h2, h3, h4]
    exact h.1 e (he ▸ hmem) ho
  · rw [(hl l).1] at hc
    rw [he]
    exact h.2 l hc

theorem State.OwnInv.claims_iff {s : State} (h : s.OwnInv) (l : LaneIx) :
    (s.lane l).call.claims = true ↔ ∃ e ∈ s.book.entries, e.own = true ∧ e.lane = l := by
  refine ⟨h.2 l, fun ⟨e, he, ho, hl⟩ => ?_⟩
  obtain ⟨hcall, -⟩ := h.1 e he ho
  rw [← hl, hcall]
  split <;> rfl

/-- An operation reads the book and every lane as they stand, and no lane has moved since. -/
theorem State.MidInv.startOp {s : State} (h : s.MidInv) {cs : Option ClaimSet}
    (hcs : ∀ c, cs = some c → c.sender ≠ s.own) : (s.startOp cs).BookInv := by
  have hlane : ∀ l, (s.startOp cs).lane l = { s.lane l with moved := false } := s.startOp_lane cs
  have hstart : (s.startOp cs).start = s.start := by simp
  have hown : (s.startOp cs).own = s.own := by rw [State.own, State.own, hstart]
  have hbyte : (s.startOp cs).ownByte = s.ownByte := by rw [State.ownByte, State.ownByte, hstart]
  have hentries : (s.startOp cs).EntriesInv s.book.entries := (State.entriesInv_congr hstart _).mpr h.entries
  refine ⟨by rw [State.startOp_entries]; exact hentries, h.own.of_calls (fun l => by simp [hlane]) (s.startOp_entries cs),
    fun op ho => ?_, by rw [hstart]; simpa using h.runs, by rw [hbyte]; simpa using h.rxq, fun l hp => ?_,
    fun hl => absurd hl (by rw [hstart]; exact h.started)⟩
  · rw [State.startOp_op, Option.some.injEq] at ho
    subst ho
    refine ⟨hentries, by rw [hown]; exact hcs, by rw [hstart]; exact h.runs, fun l => ?_⟩
    rw [State.newOp_lane, hlane]
    exact ⟨h.own.claims_iff l, h.absent l, fun _ => rfl, nofun⟩
  · rw [hlane] at hp ⊢
    exact h.absent l hp

/-- An idle book of this invariant may have any marks. -/
theorem State.MidInv.of_idle {s t : State} (h : s.MidInv) (hidle : s.busy = false) (hs : t.start = s.start)
    (hl : t.lanes = s.lanes) (he : t.book.entries = s.book.entries) (hop : t.book.op = s.book.op) (hq : t.air = s.air)
    (hr : t.runs = s.runs) : t.MidInv := by
  have hlane : ∀ l, t.lane l = s.lane l := State.lane_congr hl
  have hbyte : t.ownByte = s.ownByte := by simp [State.ownByte, hs]
  refine ⟨?_, h.own.of_alike (fun l => by rw [hlane]; exact .refl _) he, fun op ho => ?_, by rw [hs, hr]; exact h.runs,
    by rw [hq, hbyte]; exact h.rxq, fun l => by rw [hlane]; exact h.absent l, by rw [hs]; exact h.started⟩
  · rw [he]; exact (State.entriesInv_congr hs _).mpr h.entries
  · have hnone : s.book.op = none := by simpa [State.busy] using hidle
    rw [hop, hnone] at ho
    cases ho

/-- A request of the event may become the mark. -/
theorem State.MidInv.of_marks {s t : State} (h : s.MidInv) (hs : t.start = s.start) (hl : t.lanes = s.lanes)
    (he : t.book.entries = s.book.entries) (hop : t.book.op = s.book.op) (hq : t.air = s.air) (hr : t.runs = s.runs)
    (hm : s.book.pendingMark = true ∨ s.book.asked = true → t.book.pendingMark = true) : t.MidInv := by
  have hlane : ∀ l, t.lane l = s.lane l := State.lane_congr hl
  have hbyte : t.ownByte = s.ownByte := by simp [State.ownByte, hs]
  refine ⟨?_, h.own.of_alike (fun l => by rw [hlane]; exact .refl _) he, fun op ho => ?_, by rw [hs, hr]; exact h.runs,
    by rw [hq, hbyte]; exact h.rxq, fun l => by rw [hlane]; exact h.absent l, by rw [hs]; exact h.started⟩
  · rw [he]; exact (State.entriesInv_congr hs _).mpr h.entries
  · obtain ⟨hread, hlanes⟩ := h.op op (hop ▸ ho)
    refine ⟨hread.congr hs fun l => by rw [hlane], fun l => ?_⟩
    rw [hlane]
    exact ⟨(hlanes l).1, fun hmv => ⟨((hlanes l).2 hmv).1, .inl (hm ((hlanes l).2 hmv).2)⟩⟩

/-- The requests of an event taken up make of the invariant within the event that of the book. -/
theorem State.MidInv.takeRequests {s : State} (h : s.MidInv) : s.takeRequests.BookInv := by
  rcases s.takeRequests_cases with ⟨ha, -, heq⟩ | ⟨hidle, heq⟩ | ⟨-, heq⟩ <;> rw [heq]
  · exact h.bookInv fun _ hasked => by rw [ha] at hasked; cases hasked
  · refine State.MidInv.startOp (h.of_idle hidle ?_ ?_ ?_ ?_ ?_ ?_) (fun c hc => ?_)
    all_goals first | rfl | cases hc
  · refine State.MidInv.bookInv (State.MidInv.of_marks h ?_ ?_ ?_ ?_ ?_ ?_ ?_) (fun _ hc => by cases hc)
    all_goals first | rfl | exact fun hm => Bool.or_eq_true_iff.mpr hm

/-! ## What leaves the book -/

/-- The invariant of the book where lanes keep claims and conditions, and the book stands. -/
theorem State.BookInv.of_alike {s t : State} (h : s.BookInv) (hl : s.lanesAlike t)
    (hcond : ∀ l, (t.lane l).cond = (s.lane l).cond) (hb : t.book = s.book) (hr : t.runs = s.runs)
    (hstart : t.start.role = s.start.role ∧ t.start.own = s.start.own ∧ t.start.state = s.start.state)
    (hq : ∀ f ∈ t.air.rxq, f.src ≠ s.ownByte) : t.BookInv := by
  obtain ⟨hrole, haddr, hstate⟩ := hstart
  have hown : t.own = s.own := by rw [State.own, State.own, haddr]
  have hbyte : t.ownByte = s.ownByte := by rw [State.ownByte, State.ownByte, haddr]
  obtain ⟨hentries, hownInv, hop, hruns, -, habsent, hload⟩ := h
  have hinv : ∀ es, s.EntriesInv es → t.EntriesInv es := fun es hes => by
    simpa only [State.EntriesInv, hrole, hown] using hes
  refine ⟨by rw [hb]; exact hinv _ hentries, hownInv.of_alike hl.lane (by rw [hb]), fun op ho => ?_, by rw [hrole, hr]; exact hruns,
    by rw [hbyte]; exact hq, fun l hp => ?_, fun hld => ?_⟩
  · obtain ⟨hes, hsender, hrs, hlanes⟩ := hop op (hb ▸ ho)
    refine ⟨hinv _ hes, by rw [hown]; exact hsender, by rw [hrole]; exact hrs, fun l => ?_⟩
    rw [hb, (hl.lane l).present, (hl.lane l).moved, (hl.lane l).call]
    exact hlanes l
  · rw [hcond, (hl.lane l).call]
    exact habsent l ((hl.lane l).present ▸ hp)
  · obtain ⟨h1, h2, h3⟩ := hload (hstate ▸ hld)
    refine ⟨by rw [hb, h1], by rw [hb, h2], fun l => ?_⟩
    rw [hcond, (hl.lane l).call]
    exact h3 l

theorem State.BookInv.of_lanes {s t : State} (h : s.BookInv) (hl : t.lanes = s.lanes) (hb : t.book = s.book)
    (hr : t.runs = s.runs) (hstart : t.start.role = s.start.role ∧ t.start.own = s.start.own ∧ t.start.state = s.start.state)
    (hq : ∀ f ∈ t.air.rxq, f.src ≠ s.ownByte) : t.BookInv :=
  h.of_alike (.of_lanes hl) (fun l => by rw [State.lane_congr hl]) hb hr hstart hq

theorem State.BookInv.rxq {s : State} (h : s.BookInv) : ∀ f ∈ s.air.rxq, f.src ≠ s.ownByte := h.2.2.2.2.1

theorem State.refreshRisk_bookInv {s : State} (h : s.BookInv) : s.refreshRisk.BookInv := by
  refine h.of_alike ⟨fun l => ?_⟩ (fun l => ?_) rfl rfl ⟨rfl, rfl, rfl⟩ h.rxq
  · rw [State.refreshRisk, State.lane_mapLanes]
    exact ⟨rfl, rfl, rfl, fun _ => ⟨rfl, rfl, rfl⟩, fun _ => rfl⟩
  · rw [State.refreshRisk, State.lane_mapLanes]

/-! ## Events -/

theorem State.keepsBook.mid {s t : State} (h : s.keepsBook t) (hs : s.MidInv) : t.MidInv := (h.kept hs).mid

theorem State.BookInv.no_own_entry {s : State} (h : s.BookInv) (hr : s.start.role ≠ .rack) :
    ∀ e ∈ s.book.entries, e.own = false := h.1.2.2.2 hr

theorem State.ageEntry_stay (s : State) (station : Nat) (l : LaneIx) : s.ownEntriesStay (s.ageEntry station l) := by
  unfold State.ageEntry
  dsimp only
  split
  · split
    · exact ⟨_, rfl, fun e _ ho => by simp [ho]⟩
    · exact .of_eq rfl
  · exact .of_eq rfl

theorem State.takeClaimset_inv {s : State} (h : s.BookInv) (hmid : s.MidInv) {f : RxFrame} (hf : s.carries f) :
    (s.takeClaimset f.src f.payload).MidInv ∨ (s.takeClaimset f.src f.payload).BookInv := by
  unfold State.takeClaimset
  split
  next cs hcs =>
    refine .inr (hmid.startOp fun c hc => ?_)
    cases hc
    rw [readClaimset_sender hcs]
    exact State.own_ne_of_carries h.rxq hf
  · exact .inl hmid

/-- A deed keeps the invariant within the event, or has started the operation of a CLAIMSET. -/
theorem State.Deed.midInv {s t : State} (hd : s.Deed t) (h : s.BookInv) : t.MidInv ∨ t.BookInv := by
  have hmid : s.MidInv := .of_bookInv h (State.not_load_of_portWorks hd.portWorks)
  have hnl := hd.not_load
  have hrxq : t.air.rxq = s.air.rxq := by cases hd <;> exact (Air.of_sansQueue (by simp)).2.2.2.1
  have hstart : t.start.role = s.start.role ∧ t.own = s.own ∧ t.ownByte = s.ownByte := by
    rcases hd.start with hst | hst <;> simp [State.own, State.ownByte, hst]
  cases hd
  case claimset f hf => exact State.takeClaimset_inv h hmid hf
  all_goals left
  case change => exact (s.takeChange_keepsBook ..).mid hmid
  case ageRun hr run => exact (State.ageRun_keepsBook (State.role_of_worksAs hr) run).mid hmid
  case waitExpiry hr run => exact (State.waitExpiry_keepsBook (State.role_of_worksAs hr) run).mid hmid
  case presence => exact (s.presenceChange_keepsBook ..).mid hmid
  case run hr src p => exact (State.takeRun_keepsBook (State.role_of_worksAs hr) src p).mid hmid
  case manifest hr src p => exact (State.takeManifest_keepsBook (State.role_of_worksAs hr) src p).mid hmid
  case arrive => exact (s.takeArrive_keepsBook ..).mid hmid
  case depart => exact (s.takeDepart_keepsBook ..).mid hmid
  case unit => exact h.midInv_of_work (s.takeUnit_alike ..) (.of_eq (by simp)) (by simp) hstart hnl hrxq (by simp)
  case ageEntry =>
    exact h.midInv_of_work (.of_lanes (by simp)) (s.ageEntry_stay ..) (by simp) hstart hnl hrxq (by simp)
  case pressLoad hr =>
    refine h.midInv_of_work (.of_lanes (by simp)) ?_ (by simp) hstart hnl hrxq (by simp)
    rcases s.pressLoad_entries with he | he
    · exact .of_eq he
    · exact .of_nil he (h.no_own_entry (by rw [State.role_of_worksAs hr]; decide))
  all_goals exact h.midInv_of_work (.of_lanes (by simp)) (.of_eq (by simp)) (by simp) hstart hnl hrxq (by simp)

theorem State.Deed.bookInv {s t : State} (hd : s.Deed t) (h : s.BookInv) : t.endEvent.BookInv := by
  have hmid : t.MidInv := (hd.midInv h).elim id fun ht => .of_bookInv ht hd.not_load
  exact State.refreshRisk_bookInv hmid.takeRequests

theorem State.startIfMarked_bookInv {s : State} (h : s.BookInv) (hnl : s.start.state ≠ .load) : s.startIfMarked.BookInv := by
  unfold State.startIfMarked
  split
  · exact (State.MidInv.of_bookInv h hnl).startOp nofun
  · exact h

/-! ## Starts and the end of LOAD (R184 to R193) -/

/-- An empty idle book with every lane QUIET. -/
theorem State.bookInv_of_empty {s : State} (he : s.book.entries = []) (hop : s.book.op = none)
    (hl : ∀ l, (s.lane l).call = .quiet ∧ (s.lane l).cond = false) (hr : s.start.role ≠ .rack → s.runs = [])
    (hq : ∀ f ∈ s.air.rxq, f.src ≠ s.ownByte) : s.BookInv := by
  refine ⟨by rw [he]; exact s.entriesInv_nil, ⟨fun e hmem => ?_, fun l hc => ?_⟩, fun op ho => ?_, hr, hq,
    fun l _ => hl l, fun _ => ⟨he, hop, hl⟩⟩
  · rw [he] at hmem; cases hmem
  · rw [(hl l).1] at hc; cases hc
  · rw [hop] at ho; cases ho

theorem State.restart_bookInv (s : State) (cause : StartCause) (role : BitVec 2) (addr : BitVec 7) :
    (s.restart cause role addr).BookInv := by
  have hlane : ∀ l, (s.restart cause role addr).lane l = (s.lane l).afterStart := fun l => by
    simp [State.restart, State.lane]
  exact State.bookInv_of_empty rfl rfl (fun l => by rw [hlane]; exact ⟨rfl, rfl⟩) (fun _ => rfl) nofun

theorem LaneRec.Reread.cond {r r' : LaneRec} {cfg : LaneCfg} {p : Bool} (h : r.Reread cfg p r') : r'.cond = r.cond := by
  cases h
  case stocked => rw [LaneRec.stocked_rest]
  case retired => unfold LaneRec.retired; split <;> [rw [LaneRec.stocked_rest]; rfl]
  all_goals rfl

theorem State.readEnd_rest (s : State) (img : List Byte) :
    (s.readEnd img).air.rxq = s.air.rxq ∧ (s.readEnd img).start.role = s.start.role ∧
      (s.readEnd img).start.own = s.start.own ∧ (s.readEnd img).book = s.book ∧ (s.readEnd img).runs = s.runs := by
  cases hr : s.start.role <;>
    simp [State.readEnd, State.check, State.passCheck, State.adjust, State.setLanes, State.failWith, State.openPort, hr,
      apply_ite State.air, apply_ite Air.rxq, apply_ite State.start, apply_ite StartUnit.role, apply_ite StartUnit.own,
      apply_ite State.book, apply_ite State.runs]

theorem State.readEnd_bookInv {s : State} (h : s.BookInv) (img : List Byte) : (s.readEnd img).BookInv := by
  by_cases hload : s.start.state = .load
  · obtain ⟨-, -, -, hruns, hrxq, -, hempty⟩ := h
    obtain ⟨he, hop, hl⟩ := hempty hload
    obtain ⟨hq, hrole, hown, hbook, hrs⟩ := s.readEnd_rest img
    have hbyte : (s.readEnd img).ownByte = s.ownByte := by rw [State.ownByte, State.ownByte, hown]
    refine State.bookInv_of_empty (by rw [hbook, he]) (by rw [hbook, hop]) (fun l => ?_) (by rw [hrole, hrs]; exact hruns)
      (by rw [hq, hbyte]; exact hrxq)
    obtain ⟨p, hre⟩ := s.readEnd_lane img l
    rw [hre.call.1, hre.cond]
    exact hl l
  · rwa [State.readEnd_of_not_load img hload]

end Sys2Proof.Machine
end

section
/-! PROOFS. Key order, the peer entry with the largest key, and what an insertion leaves (R76, R84, R85). -/

namespace Sys2Proof.Machine

/-! ## Key order (R76) -/

theorem keyLe_iff (x y : Int × Nat × Nat) :
    keyLe x y = true ↔ x.1 < y.1 ∨ x.1 = y.1 ∧ (x.2.1 < y.2.1 ∨ x.2.1 = y.2.1 ∧ x.2.2 ≤ y.2.2) := by
  simp [keyLe]

theorem keyLe_refl (x : Int × Nat × Nat) : keyLe x x = true := by
  rw [keyLe_iff]; omega

theorem keyLe_trans {x y z : Int × Nat × Nat} (h : keyLe x y = true) (h' : keyLe y z = true) : keyLe x z = true := by
  rw [keyLe_iff] at *; omega

theorem keyLe_total (x y : Int × Nat × Nat) : keyLe x y = true ∨ keyLe y x = true := by
  rw [keyLe_iff, keyLe_iff]; omega

theorem keyLt_iff (x y : Int × Nat × Nat) : keyLt x y = true ↔ ¬keyLe y x = true := by simp [keyLt]

theorem keyLe_of_keyLt {x y : Int × Nat × Nat} (h : keyLt x y = true) : keyLe x y = true :=
  (keyLe_total x y).resolve_right ((keyLt_iff x y).mp h)

/-! ## The peer entry with the largest key (R85) -/

/-- The largest peer of a list, if it has a peer. -/
structure LargestOf (n : LineCount) (es : List Entry) (o : Option Entry) : Prop where
  none : o = .none → ∀ e ∈ es, e.own = true
  some : ∀ out, o = .some out → out ∈ es ∧ out.own = false ∧ ∀ x ∈ es, x.own = false → keyLe (x.key n) (out.key n) = true

theorem largestPeer_largestOf (n : LineCount) (es : List Entry) : LargestOf n es (largestPeer n es) := by
  induction es using List.reverseRecOn with
  | nil => exact ⟨fun _ => nofun, nofun⟩
  | append_singleton es e ih =>
    have hstep : largestPeer n (es ++ [e]) = if e.own then largestPeer n es else
        match largestPeer n es with
        | none => some e
        | some x => if keyLt (x.key n) (e.key n) then some e else some x := by
      rw [largestPeer, List.foldl_append]; rfl
    obtain ⟨hnone, hsome⟩ := ih
    rw [hstep]
    cases he : e.own
    · simp only [Bool.false_eq_true, if_false]
      rcases hl : largestPeer n es with _ | x
      · refine ⟨nofun, ?_⟩
        rintro out ⟨⟩
        refine ⟨by simp, he, fun y hy hyo => ?_⟩
        rcases List.mem_append.mp hy with hy | hy
        · rw [hnone hl y hy] at hyo; cases hyo
        · rw [List.mem_singleton.mp hy]; exact keyLe_refl _
      · obtain ⟨hmem, hown, hmax⟩ := hsome x hl
        dsimp only
        split
        next hlt =>
          refine ⟨nofun, ?_⟩
          rintro out ⟨⟩
          refine ⟨by simp, he, fun y hy hyo => ?_⟩
          rcases List.mem_append.mp hy with hy | hy
          · exact keyLe_trans (hmax y hy hyo) (keyLe_of_keyLt hlt)
          · rw [List.mem_singleton.mp hy]; exact keyLe_refl _
        next hge =>
          refine ⟨nofun, ?_⟩
          rintro out ⟨⟩
          refine ⟨List.mem_append_left _ hmem, hown, fun y hy hyo => ?_⟩
          rcases List.mem_append.mp hy with hy | hy
          · exact hmax y hy hyo
          · rw [List.mem_singleton.mp hy]
            simpa [keyLt] using hge
    · simp only [if_true]
      refine ⟨fun hl x hx => ?_, fun out ho => ?_⟩
      · rcases List.mem_append.mp hx with hx | hx
        · exact hnone hl x hx
        · rw [List.mem_singleton.mp hx, he]
      · obtain ⟨hmem, hown, hmax⟩ := hsome out ho
        refine ⟨List.mem_append_left _ hmem, hown, fun y hy hyo => ?_⟩
        rcases List.mem_append.mp hy with hy | hy
        · exact hmax y hy hyo
        · rw [List.mem_singleton.mp hy, he] at hyo; cases hyo

/-- A book with a peer entry has a largest one. -/
theorem largestPeer_of_peer {n : LineCount} {es : List Entry} (h : ∃ x ∈ es, x.own = false) :
    ∃ out ∈ es, largestPeer n es = some out ∧ out.own = false ∧
      ∀ x ∈ es, x.own = false → keyLe (x.key n) (out.key n) = true := by
  obtain ⟨hnone, hsome⟩ := largestPeer_largestOf n es
  rcases hl : largestPeer n es with _ | out
  · obtain ⟨x, hx, ho⟩ := h
    rw [hnone hl x hx] at ho
    cases ho
  · obtain ⟨hmem, hown, hmax⟩ := hsome out hl
    exact ⟨out, hmem, rfl, hown, hmax⟩

/-! ## Insertion and eviction (R85) -/

theorem insertPeer_of_room {cap : Nat} {w : Work} (h : w.entries.length < cap) (n : LineCount) (e : Entry) :
    insertPeer cap n w e = ⟨w.entries ++ [e], w.full⟩ := by rw [insertPeer, if_pos h]

theorem makeRoom_of_room {cap : Nat} {w : Work} (h : w.entries.length < cap) (n : LineCount) : makeRoom cap n w = w := by
  rw [makeRoom, if_pos h]

theorem makeRoom_of_full {cap : Nat} {n : LineCount} {w : Work} {out : Entry} (h : cap ≤ w.entries.length)
    (ho : largestPeer n w.entries = some out) : makeRoom cap n w = ⟨removeEntry w.entries out, w.full + 1⟩ := by
  rw [makeRoom, if_neg (by omega), ho]

theorem insertOwn_of_room {cap : Nat} {w : Work} (h : w.entries.length < cap) (n : LineCount) (e : Entry) :
    insertOwn cap n w e = ⟨w.entries ++ [e], w.full⟩ := by rw [insertOwn, makeRoom_of_room h]

theorem insertOwn_of_full {cap : Nat} {n : LineCount} {w : Work} {out : Entry} (h : cap ≤ w.entries.length)
    (ho : largestPeer n w.entries = some out) (e : Entry) :
    insertOwn cap n w e = ⟨removeEntry w.entries out ++ [e], w.full + 1⟩ := by rw [insertOwn, makeRoom_of_full h ho]

theorem insertPeer_of_full {cap : Nat} {n : LineCount} {w : Work} {out : Entry} (h : cap ≤ w.entries.length)
    (ho : largestPeer n w.entries = some out) (e : Entry) :
    insertPeer cap n w e = if keyLt (e.key n) (out.key n) then ⟨removeEntry w.entries out ++ [e], w.full + 1⟩
      else ⟨w.entries, w.full + 1⟩ := by rw [insertPeer, if_neg (by omega), ho]

theorem removeEntry_subset {es : List Entry} {out x : Entry} (h : x ∈ removeEntry es out) : x ∈ es :=
  List.mem_of_mem_filter h

/-- The book without one of its entries is shorter. -/
theorem removeEntry_length {es : List Entry} {out : Entry} (h : out ∈ es) : (removeEntry es out).length < es.length := by
  refine List.length_filter_lt_length_iff_exists.mpr ⟨out, h, ?_⟩
  simp [Entry.sameLane]

theorem insertPeer_mem {cap : Nat} {n : LineCount} {w : Work} {e x : Entry}
    (h : x ∈ (insertPeer cap n w e).entries) : x = e ∨ x ∈ w.entries := by
  unfold insertPeer at h
  split at h
  · exact (List.mem_append.mp h).symm.imp_left List.mem_singleton.mp
  · split at h
    · split at h
      · exact (List.mem_append.mp h).symm.imp List.mem_singleton.mp removeEntry_subset
      · exact .inr h
    · exact .inr h

theorem makeRoom_mem {cap : Nat} {n : LineCount} {w : Work} {x : Entry} (h : x ∈ (makeRoom cap n w).entries) :
    x ∈ w.entries := by
  unfold makeRoom at h
  split at h
  · exact h
  · split at h
    · exact removeEntry_subset h
    · exact h

theorem insertOwn_mem {cap : Nat} {n : LineCount} {w : Work} {e x : Entry}
    (h : x ∈ (insertOwn cap n w e).entries) : x = e ∨ x ∈ w.entries :=
  (List.mem_append.mp h).symm.imp List.mem_singleton.mp makeRoom_mem

/-! ## The places of a book (R74) -/

/-- An entry of a place not taken joins a list with room. -/
theorem State.EntriesInv.append {s : State} {es : List Entry} {e : Entry} (h : s.EntriesInv es)
    (hroom : es.length < s.start.role.bookCapacity) (hplace : ∀ x ∈ es, x.station = e.station → x.lane ≠ e.lane)
    (hown : e.own = true ↔ e.station = s.own) (hrole : s.start.role ≠ .rack → e.own = false) :
    s.EntriesInv (es ++ [e]) := by
  obtain ⟨-, hnodup, howns, hroles⟩ := h
  refine ⟨by simpa using hroom, ?_, fun x hx => ?_, fun hr x hx => ?_⟩
  · rw [List.map_append]
    refine List.Nodup.append hnodup (List.nodup_singleton _) fun p hp hpe => ?_
    obtain ⟨x, hx, rfl⟩ := List.mem_map.mp hp
    have hpe' : (x.station, x.lane) = (e.station, e.lane) := by simpa using hpe
    exact hplace x hx (congrArg Prod.fst hpe') (congrArg Prod.snd hpe')
  · rcases List.mem_append.mp hx with hx | hx
    · exact howns x hx
    · rw [List.mem_singleton.mp hx]; exact hown
  · rcases List.mem_append.mp hx with hx | hx
    · exact hroles hr x hx
    · rw [List.mem_singleton.mp hx]; exact hrole hr

/-- The own entries of a book are of different lanes. -/
theorem State.EntriesInv.own_le {s : State} {es : List Entry} (h : s.EntriesInv es) : (es.filter Entry.own).length ≤ 16 := by
  have hnodup : ((es.filter Entry.own).map Entry.lane).Nodup := by
    refine List.Nodup.map_on (fun x hx y hy hl => ?_) ((List.Nodup.of_map _ h.2.1).filter _)
    exact h.own_unique (List.mem_of_mem_filter hx) (List.mem_of_mem_filter hy) (List.of_mem_filter hx)
      (List.of_mem_filter hy) hl
  simpa using hnodup.length_le_card

/-- The full book of a RACK holds a peer entry. -/
theorem State.EntriesInv.peer {s : State} {es : List Entry} (h : s.EntriesInv es) (hr : s.start.role = .rack)
    (hfull : s.start.role.bookCapacity ≤ es.length) : ∃ x ∈ es, x.own = false := by
  by_contra hc
  have hall : es.filter Entry.own = es := List.filter_eq_self.mpr fun x hx => by
    by_contra ho
    exact hc ⟨x, hx, by simpa using ho⟩
  have hle := h.own_le
  rw [hall] at hle
  rw [hr] at hfull
  have hcap : Role.rack.bookCapacity = 48 := rfl
  omega

theorem insertPeer_entriesInv {s : State} {w : Work} {e : Entry} (h : s.EntriesInv w.entries)
    (hplace : ∀ x ∈ w.entries, x.station = e.station → x.lane ≠ e.lane) (hown : e.own = true ↔ e.station = s.own)
    (hrole : s.start.role ≠ .rack → e.own = false) (n : LineCount) :
    s.EntriesInv (insertPeer s.start.role.bookCapacity n w e).entries := by
  unfold insertPeer
  split
  next hroom => exact h.append hroom hplace hown hrole
  next hfull =>
    split
    next out hout =>
      split
      · obtain ⟨hmem, -⟩ := (largestPeer_largestOf n w.entries).some out hout
        exact (h.filter _).append ((removeEntry_length hmem).trans_le h.1) (fun x hx => hplace x (removeEntry_subset hx))
          hown hrole
      · exact h
    · exact h

theorem insertOwn_entriesInv {s : State} {w : Work} {e : Entry} (h : s.EntriesInv w.entries)
    (hr : s.start.role = .rack) (hplace : ∀ x ∈ w.entries, x.own = true → x.lane ≠ e.lane) (hown : e.own = true)
    (hst : e.station = s.own) (n : LineCount) :
    s.EntriesInv (insertOwn s.start.role.bookCapacity n w e).entries := by
  have hplace' : ∀ x ∈ w.entries, x.station = e.station → x.lane ≠ e.lane := fun x hx hxs =>
    hplace x hx ((h.2.2.1 x hx).mpr (hxs.trans hst))
  have hown' : e.own = true ↔ e.station = s.own := by simp [hown, hst]
  rcases Nat.lt_or_ge w.entries.length s.start.role.bookCapacity with hroom | hfull
  · rw [insertOwn_of_room hroom]
    exact h.append hroom hplace' hown' (fun hc => absurd hr hc)
  · obtain ⟨out, hmem, hout, -, -⟩ := largestPeer_of_peer (n := n) (h.peer hr hfull)
    rw [insertOwn_of_full hfull hout]
    exact (h.filter _).append ((removeEntry_length hmem).trans_le h.1) (fun x hx => hplace' x (removeEntry_subset hx))
      hown' (fun hc => absurd hr hc)

/-! ## The claims of a sender (R83, R84) -/

theorem firstPerLane_append (items : List ClaimItem) (c : ClaimItem) :
    firstPerLane (items ++ [c]) =
      if (firstPerLane items).any fun x => x.lane == c.lane then firstPerLane items else firstPerLane items ++ [c] := by
  rw [firstPerLane, List.foldl_append]; rfl

theorem firstPerLane_nodup (items : List ClaimItem) : ((firstPerLane items).map ClaimItem.lane).Nodup := by
  induction items using List.reverseRecOn with
  | nil => exact List.nodup_nil
  | append_singleton items c ih =>
    rw [firstPerLane_append]
    split
    · exact ih
    next hnew =>
      rw [List.map_append]
      refine ih.append (List.nodup_singleton _) fun l hl hlc => hnew ?_
      obtain ⟨x, hx, rfl⟩ := List.mem_map.mp hl
      exact List.any_eq_true.mpr ⟨x, hx, by simpa using hlc⟩

theorem peerEntry_some {sender : Nat} {c : ClaimItem} {e : Entry} (h : peerEntry sender c = some e) :
    e.station = sender ∧ e.run = c.run ∧ e.lane.val = c.lane ∧ e.stop = c.stop ∧ e.cls = c.cls ∧ e.size = c.size ∧
      e.bins = c.bins ∧ e.rref = c.rref ∧ e.late = c.late ∧ e.own = false ∧ e.admitted = false := by
  unfold peerEntry at h
  split at h
  · cases h; exact ⟨rfl, rfl, rfl, rfl, rfl, rfl, rfl, rfl, rfl, rfl, rfl⟩
  · cases h

theorem sortEntries_perm (n : LineCount) (es : List Entry) : (sortEntries n es).Perm es := List.perm_insertionSort _ _

theorem peerEntries_lanes_sublist (sender : Nat) (items : List ClaimItem) :
    ((items.filterMap (peerEntry sender)).map fun e => e.lane.val).Sublist (items.map ClaimItem.lane) := by
  induction items with
  | nil => exact .slnil
  | cons c items ih =>
    rcases hc : peerEntry sender c with _ | e
    · rw [List.filterMap_cons_none hc, List.map_cons]
      exact ih.cons _
    · obtain ⟨-, -, hlane, -⟩ := peerEntry_some hc
      rw [List.filterMap_cons_some hc, List.map_cons, List.map_cons, hlane]
      exact ih.cons_cons _

/-- The claims of a sender are peer entries of it, of different lanes. -/
theorem BookOp.claimsInScope_spec (op : BookOp) (role : Role) (cs : ClaimSet) :
    (∀ e ∈ op.claimsInScope role cs, e.station = cs.sender ∧ e.own = false) ∧
      ((op.claimsInScope role cs).map Entry.lane).Nodup := by
  have hperm := sortEntries_perm op.n
    (((firstPerLane (cs.items.filter ClaimItem.valid)).filter fun c => op.inScope role c.run).filterMap (peerEntry cs.sender))
  refine ⟨fun e he => ?_, ?_⟩
  · obtain ⟨c, -, hc⟩ := List.mem_filterMap.mp (hperm.mem_iff.mp he)
    obtain ⟨hst, -, -, -, -, -, -, -, -, ho, -⟩ := peerEntry_some hc
    exact ⟨hst, ho⟩
  · refine (hperm.map Entry.lane).nodup_iff.mpr (List.Nodup.of_map Fin.val ?_)
    rw [List.map_map]
    exact ((firstPerLane_nodup _).sublist (List.filter_sublist.map _)).sublist (peerEntries_lanes_sublist ..)

/-- Claims of a sender that a book has no entry of are inserted one after another. -/
theorem insertPeers_entriesInv {s : State} {sender : Nat} (hs : sender ≠ s.own) (n : LineCount) (es : List Entry) {w : Work}
    (h : s.EntriesInv w.entries) (hes : ∀ e ∈ es, e.station = sender ∧ e.own = false) (hnodup : (es.map Entry.lane).Nodup)
    (hplace : ∀ e ∈ es, ∀ x ∈ w.entries, x.station = sender → x.lane ≠ e.lane) :
    s.EntriesInv (es.foldl (insertPeer s.start.role.bookCapacity n) w).entries ∧
      ∀ x ∈ (es.foldl (insertPeer s.start.role.bookCapacity n) w).entries, x.own = true → x ∈ w.entries := by
  induction es generalizing w with
  | nil => exact ⟨h, fun x hx _ => hx⟩
  | cons e es ih =>
    rw [List.forall_mem_cons] at hes hplace
    rw [List.map_cons, List.nodup_cons] at hnodup
    obtain ⟨⟨hst, ho⟩, hrest⟩ := hes
    have hown : e.own = true ↔ e.station = s.own := by simp [ho, hst, hs]
    have hins := insertPeer_entriesInv h (by rw [hst]; exact hplace.1) hown (fun _ => ho) n
    obtain ⟨hinv, hmem⟩ := ih hins hrest hnodup.2 fun f hf x hx hxs => by
      rcases insertPeer_mem hx with rfl | hx
      · exact fun hl => hnodup.1 (List.mem_map.mpr ⟨f, hf, hl.symm⟩)
      · exact hplace.2 f hf x hx hxs
    refine ⟨hinv, fun x hx hxo => ?_⟩
    rcases insertPeer_mem (hmem x hx hxo) with rfl | hx'
    · rw [ho] at hxo; cases hxo
    · exact hx'

end Sys2Proof.Machine
end

section
/-! PROOFS. The work of a book operation leaves a list that a book may hold, with own entries of lanes that had one or
that call (R80 to R96); its completion merges it into the book and gives the own lanes their states (R81, R93). -/

namespace Sys2Proof.Machine

/-! ## The steps of the work -/

/-- The entries of a work are those of a book, its own entries of lanes with this property. -/
structure State.WorkInv (s : State) (P : LaneIx → Prop) (w : Work) : Prop where
  entries : s.EntriesInv w.entries
  own : ∀ e ∈ w.entries, e.own = true → P e.lane

theorem State.WorkInv.filter {s : State} {P : LaneIx → Prop} {w : Work} (h : s.WorkInv P w) (p : Entry → Bool) (full : Nat) :
    s.WorkInv P ⟨w.entries.filter p, full⟩ :=
  ⟨h.entries.filter p, fun e he => h.own e (List.mem_of_mem_filter he)⟩

theorem State.WorkInv.insertOwn {s : State} {P : LaneIx → Prop} {w : Work} {e : Entry} (h : s.WorkInv P w)
    (hr : s.start.role = .rack) (hplace : ∀ x ∈ w.entries, x.own = true → x.lane ≠ e.lane) (hown : e.own = true)
    (hst : e.station = s.own) (hP : P e.lane) (n : LineCount) :
    s.WorkInv P (insertOwn s.start.role.bookCapacity n w e) := by
  refine ⟨insertOwn_entriesInv h.entries hr hplace hown hst n, fun x hx ho => ?_⟩
  rcases insertOwn_mem hx with rfl | hx
  · exact hP
  · exact h.own x hx ho

theorem State.replaceSender_workInv {s : State} {op : BookOp} {P : LaneIx → Prop} {w : Work} (h : s.WorkInv P w)
    (hs : ∀ cs, op.claimset = some cs → cs.sender ≠ s.own) : s.WorkInv P (op.replaceSender s.start.role w) := by
  unfold BookOp.replaceSender
  split
  · exact h
  next cs hcs =>
    obtain ⟨hpeers, hnodup⟩ := op.claimsInScope_spec s.start.role cs
    have hw := h.filter (fun e => e.station != cs.sender) w.full
    obtain ⟨hinv, hmem⟩ := insertPeers_entriesInv (hs cs hcs) op.n _ hw.entries hpeers hnodup fun e _ x hx hxs => by
      have hne := List.of_mem_filter hx
      simp [hxs] at hne
    exact ⟨hinv, fun e he ho => hw.own e (hmem e he ho) ho⟩

theorem State.dropOutOfScope_workInv {s : State} {P : LaneIx → Prop} {w : Work} (h : s.WorkInv P w) (op : BookOp)
    (role : Role) : s.WorkInv P (op.dropOutOfScope role w) := h.filter _ _

theorem State.turnOff_workInv {s : State} {P : LaneIx → Prop} {w : Work} (h : s.WorkInv P w) (op : BookOp) :
    s.WorkInv P (op.turnOff w) := h.filter _ _

theorem State.chooseRun_of_no_runs {s : State} {op : BookOp} (h : op.runs = []) (w : Work) (l : LaneIx) :
    s.chooseRun op w l = none := by
  have hc : s.candidates op l = [] := by simp [State.candidates, h]
  simp [State.chooseRun, hc]

/-- A run is chosen in RACK role alone. -/
theorem State.role_of_chosen {s : State} {op : BookOp} (h : s.start.role ≠ .rack → op.runs = []) {w : Work} {l : LaneIx}
    {c : RunId × Bool} (hc : s.chooseRun op w l = some c) : s.start.role = .rack := by
  by_contra hr
  rw [State.chooseRun_of_no_runs (h hr)] at hc
  cases hc

theorem State.rechoose_workInv {s : State} {op : BookOp} {P : LaneIx → Prop} {w : Work} (h : s.WorkInv P w)
    (hruns : s.start.role ≠ .rack → op.runs = []) (l : LaneIx) : s.WorkInv P (s.rechoose op w l) := by
  unfold State.rechoose
  split
  · exact h
  next e he =>
    split
    · exact h
    next run late hchosen =>
      split
      · exact h
      · have hmem := List.mem_of_find?_eq_some he
        have hown := List.find?_some he
        simp only [Bool.and_eq_true, beq_iff_eq] at hown
        have hout : s.WorkInv P (w.withoutOwn l) := h.filter _ _
        refine hout.insertOwn (e := { e with run := run, late := late, heard := s.start.clock }) (State.role_of_chosen hruns hchosen) (fun x hx ho hl => ?_) (by exact hown.1)
          ((h.entries.2.2.1 e hmem).mp hown.1) (by exact h.own e hmem hown.1) _
        have hkept := List.of_mem_filter hx
        simp [ho, hl, hown.2] at hkept

theorem State.refreshEntry_place (s : State) (op : BookOp) (e : Entry) :
    (s.refreshEntry op e).station = e.station ∧ (s.refreshEntry op e).lane = e.lane ∧
      (s.refreshEntry op e).own = e.own := by
  unfold State.refreshEntry
  split <;> exact ⟨rfl, rfl, rfl⟩

theorem State.refreshStep_workInv {s : State} {op : BookOp} {P : LaneIx → Prop} {w : Work} (h : s.WorkInv P w)
    (hruns : s.start.role ≠ .rack → op.runs = []) : s.WorkInv P (s.refreshStep op w) := by
  unfold State.refreshStep
  split
  · dsimp only
    have hmap : s.WorkInv P ⟨w.entries.map (s.refreshEntry op), w.full⟩ := by
      refine ⟨h.entries.map (s.refreshEntry_place op), fun e he ho => ?_⟩
      obtain ⟨x, hx, rfl⟩ := List.mem_map.mp he
      obtain ⟨-, hlane, hown⟩ := s.refreshEntry_place op x
      rw [hlane]
      exact h.own x hx (hown ▸ ho)
    generalize op.waitingLanes _ = ls
    generalize (⟨w.entries.map (s.refreshEntry op), w.full⟩ : Work) = v at hmap ⊢
    induction ls generalizing v with
    | nil => exact hmap
    | cons l ls ih => exact ih _ (State.rechoose_workInv hmap hruns l)
  · exact h

/-- Lanes without an own entry in the work place their claims one after another. -/
theorem State.placeClaims_workInv {s : State} {op : BookOp} {P : LaneIx → Prop} {w : Work} (h : s.WorkInv P w)
    (hruns : s.start.role ≠ .rack → op.runs = []) (ls : List LaneIx) (hnodup : ls.Nodup) (hP : ∀ l ∈ ls, P l)
    (hfree : ∀ e ∈ w.entries, e.own = true → e.lane ∉ ls) : s.WorkInv P (ls.foldl (s.placeClaim op) w) := by
  induction ls generalizing w with
  | nil => exact h
  | cons l ls ih =>
    rw [List.nodup_cons] at hnodup
    rw [List.forall_mem_cons] at hP
    have hfree' : ∀ e ∈ w.entries, e.own = true → e.lane ≠ l ∧ e.lane ∉ ls := fun e he ho => by
      have hl := hfree e he ho
      rw [List.mem_cons, not_or] at hl
      exact hl
    rw [List.foldl_cons]
    unfold State.placeClaim
    split
    · exact ih h hnodup.2 hP.2 fun e he ho => (hfree' e he ho).2
    next run late hchosen =>
      refine ih (h.insertOwn (State.role_of_chosen hruns hchosen) (fun x hx ho => (hfree' x hx ho).1) rfl rfl hP.1 _)
        hnodup.2 hP.2 fun e he ho => ?_
      rcases insertOwn_mem he with rfl | he
      · exact hnodup.1
      · exact (hfree' e he ho).2

theorem BookOp.callingLanes_spec (op : BookOp) :
    op.callingLanes.Nodup ∧ ∀ l ∈ op.callingLanes,
      (op.lanes[l].call = .quiet ∨ op.lanes[l].call = .calling) ∧ op.lanes[l].cond = true := by
  have hperm : op.callingLanes.Perm (allLanes.filter fun l =>
      (op.lanes[l].call == .quiet || op.lanes[l].call == .calling) && op.lanes[l].cond) := List.perm_insertionSort _ _
  refine ⟨hperm.nodup_iff.mpr ((List.nodup_finRange 16).filter _), fun l hl => ?_⟩
  simpa using List.of_mem_filter (hperm.mem_iff.mp hl)

/-- A lane may have an own entry after an operation that read it with a claim, or calling with its condition. -/
def BookOp.mayClaim (op : BookOp) (l : LaneIx) : Prop :=
  op.lanes[l].call.claims = true ∨
    (op.lanes[l].call = .quiet ∨ op.lanes[l].call = .calling) ∧ op.lanes[l].cond = true

theorem State.opWork_workInv {s : State} {op : BookOp} (h : s.OpRead op) : s.WorkInv op.mayClaim (s.opWork op) := by
  have hstart : s.WorkInv (fun l => op.lanes[l].call.claims = true) ⟨op.entries, 0⟩ :=
    ⟨h.entries, fun e he ho => (h.claims e.lane).mpr ⟨e, he, ho, rfl⟩⟩
  have hsender := State.replaceSender_workInv hstart h.sender
  have hfour := State.refreshStep_workInv
    (State.turnOff_workInv (State.dropOutOfScope_workInv hsender op s.start.role) op) h.runs
  obtain ⟨hnodup, hcalling⟩ := op.callingLanes_spec
  refine State.placeClaims_workInv ⟨hfour.entries, fun e he ho => .inl (hfour.own e he ho)⟩ h.runs _ hnodup
    (fun l hl => .inr (hcalling l hl)) fun e he ho hl => ?_
  have hclaims := hfour.own e he ho
  rcases (hcalling _ hl).1 with hc | hc <;> rw [hc] at hclaims <;> cases hclaims

/-! ## The merge (R81) -/

theorem State.lockedSince_role {s : State} {op : BookOp} (h : s.lockedSince op = true) : s.start.role = .train := by
  simp only [State.lockedSince, Bool.and_eq_true, beq_iff_eq] at h
  exact h.1.1

/-- An own entry of the merge is one of the work, of a lane not moved since. -/
theorem State.mergeEntries_own {s : State} {op : BookOp} {w : Work} {e : Entry} (he : e ∈ s.mergeEntries op w)
    (ho : e.own = true) : e ∈ w.entries ∧ (s.lane e.lane).moved = false := by
  obtain ⟨x, hx, rfl⟩ := List.mem_map.mp he
  obtain ⟨hmem, hkept⟩ := List.mem_filter.mp hx
  have hxo : x.own = true := by revert ho; split <;> exact id
  have hins : op.inserted x = false := by simp [BookOp.inserted, hxo]
  rw [if_neg (by simp [hins])]
  rw [if_pos hxo] at hkept
  exact ⟨hmem, by simpa using hkept⟩

theorem State.mergeEntries_inv {s : State} {op : BookOp} {w : Work} (h : s.EntriesInv w.entries) :
    s.EntriesInv (s.mergeEntries op w) := by
  refine (h.filter _).map fun e => ?_
  split <;> exact ⟨rfl, rfl, rfl⟩

/-- The entries of a completion are those of a book, its own ones of lanes not moved since that may claim. -/
theorem State.completedEntries_spec {s : State} {op : BookOp} (h : s.BookInv) (hop : s.book.op = some op) :
    s.EntriesInv (s.completedEntries op) ∧ ∀ e ∈ s.completedEntries op, e.own = true →
      op.mayClaim e.lane ∧ (s.lane e.lane).moved = false := by
  unfold State.completedEntries
  split
  next hlock =>
    refine ⟨h.1, fun e he ho => ?_⟩
    rw [h.no_own_entry (by rw [State.lockedSince_role hlock]; decide) e he] at ho
    cases ho
  · obtain ⟨hinv, hown⟩ := State.opWork_workInv (h.2.2.1 op hop).read
    refine ⟨State.mergeEntries_inv hinv, fun e he ho => ?_⟩
    obtain ⟨hmem, hmoved⟩ := State.mergeEntries_own he ho
    exact ⟨hown e hmem ho, hmoved⟩

/-! ## The completion -/

/-- The entries that a completion leaves in the book (R81, R88). -/
def State.finalEntries (s : State) (op : BookOp) : List Entry :=
  markAll s.line.n s.book.copies (s.completedEntries op)

theorem State.queueClaims_book (s : State) (refresh : Bool) :
    (s.queueClaims refresh).book.entries = s.book.entries ∧ (s.queueClaims refresh).book.op = s.book.op ∧
      (s.queueClaims refresh).book.copies = s.book.copies ∧
      (s.queueClaims refresh).book.pendingMark = s.book.pendingMark ∧
      (s.queueClaims refresh).book.refreshDue = s.book.refreshDue := by
  unfold State.queueClaims
  dsimp only
  split <;> simp

theorem State.finishOp_book (s : State) (op : BookOp) :
    (s.finishOp op).book.entries = s.finalEntries op ∧ (s.finishOp op).book.op = none := by
  obtain ⟨hentries, hop, -⟩ := State.queueClaims_book (({ s with
    book.entries := s.finalEntries op, book.op := none,
    cnt.bookfull := sat16 (s.cnt.bookfull + if s.lockedSince op then 0 else (s.opWork op).full) } : State).mapLanes
      fun l r => if appliesTo op l r then
        r.result ((s.finalEntries op).find? fun e => e.own && e.lane == l) op.lanes[l].cond else r) op.refresh
  exact ⟨hentries, hop⟩

theorem State.finishOp_lane (s : State) (op : BookOp) (l : LaneIx) :
    (s.finishOp op).lane l =
      if appliesTo op l (s.lane l) then
        (s.lane l).result ((s.finalEntries op).find? fun e => e.own && e.lane == l) op.lanes[l].cond
      else s.lane l := by
  unfold State.finishOp
  rw [State.lane_congr (State.queueClaims_frame _ _).2.2.2.2.1, State.lane_mapLanes]
  rfl

theorem State.finalEntries_spec {s : State} {op : BookOp} (h : s.BookInv) (hop : s.book.op = some op) :
    s.EntriesInv (s.finalEntries op) ∧ ∀ e ∈ s.finalEntries op, e.own = true →
      op.mayClaim e.lane ∧ (s.lane e.lane).moved = false := by
  obtain ⟨hinv, hown⟩ := State.completedEntries_spec h hop
  refine ⟨hinv.map fun e => ⟨rfl, rfl, rfl⟩, fun e he ho => ?_⟩
  obtain ⟨x, hx, rfl⟩ := List.mem_map.mp he
  exact hown x hx ho

theorem BookOp.not_promised_of_mayClaim {op : BookOp} {l : LaneIx} (h : op.mayClaim l) :
    op.lanes[l].call.promised = false := by
  rcases h with h | ⟨h | h, -⟩
  · revert h
    cases op.lanes[l].call <;> decide
  · rw [h]; rfl
  · rw [h]; rfl

theorem appliesTo_iff (op : BookOp) (l : LaneIx) (r : LaneRec) :
    appliesTo op l r = true ↔ r.present = true ∧ r.moved = false ∧ op.lanes[l].call.promised = false := by
  unfold appliesTo
  rw [Bool.and_eq_true, Bool.and_eq_true, Bool.not_eq_true', Bool.not_eq_true', and_assoc]

/-- The completion applies to every lane that an own entry is left for. -/
theorem State.appliesTo_of_entry {s : State} {op : BookOp} (h : s.BookInv) (hop : s.book.op = some op) {e : Entry}
    (he : e ∈ s.finalEntries op) (ho : e.own = true) : appliesTo op e.lane (s.lane e.lane) = true := by
  obtain ⟨hmay, hmoved⟩ := (State.finalEntries_spec h hop).2 e he ho
  have hpresent : (s.lane e.lane).present = true := by
    by_contra hp
    obtain ⟨hcall, hcond⟩ := (h.2.2.1 op hop).read.absent e.lane (by simpa using hp)
    rcases hmay with hc | ⟨-, hc⟩
    · rw [hcall] at hc; cases hc
    · rw [hcond] at hc; cases hc
  exact (appliesTo_iff ..).mpr ⟨hpresent, hmoved, BookOp.not_promised_of_mayClaim hmay⟩

/-- The own entry of a lane is the one found. -/
theorem State.EntriesInv.find_own {s : State} {es : List Entry} (h : s.EntriesInv es) {e : Entry} (he : e ∈ es)
    (ho : e.own = true) : (es.find? fun x => x.own && x.lane == e.lane) = some e := by
  rcases hf : es.find? fun x => x.own && x.lane == e.lane with _ | x
  · have hnone := List.find?_eq_none.mp hf e he
    simp [ho] at hnone
  · have hx := List.find?_some hf
    simp only [Bool.and_eq_true, beq_iff_eq] at hx
    exact hf.trans (congrArg some (h.own_unique (List.mem_of_find?_eq_some hf) he hx.1 ho hx.2))

theorem State.finishOp_ownInv {s : State} {op : BookOp} (h : s.BookInv) (hop : s.book.op = some op) :
    (s.finishOp op).OwnInv := by
  have hes := (s.finishOp_book op).1
  obtain ⟨hinv, -⟩ := State.finalEntries_spec h hop
  refine ⟨fun e he ho => ?_, fun l hc => ?_⟩
  · rw [hes] at he
    rw [State.finishOp_lane, if_pos (State.appliesTo_of_entry h hop he ho), hinv.find_own he ho]
    exact ⟨rfl, rfl, rfl, rfl⟩
  · rw [State.finishOp_lane] at hc
    rw [hes]
    split at hc
    · rcases hf : (s.finalEntries op).find? fun e => e.own && e.lane == l with _ | e
      · rw [hf, LaneRec.result] at hc
        split at hc <;> cases hc
      · have hx := List.find?_some hf
        simp only [Bool.and_eq_true, beq_iff_eq] at hx
        exact ⟨e, List.mem_of_find?_eq_some hf, hx⟩
    next happ =>
      exfalso
      obtain ⟨-, -, -, hlanes⟩ := h.2.2.1 op hop
      obtain ⟨-, -, hstill, hmoved⟩ := hlanes l
      have hpresent : (s.lane l).present = true := by
        by_contra hp
        rw [(h.2.2.2.2.2.1 l (by simpa using hp)).1] at hc
        cases hc
      have hnot : (s.lane l).moved = false := by
        by_contra hm
        rw [(hmoved (by simpa using hm)).1] at hc
        cases hc
      have hpromised : op.lanes[l].call.promised = false := by
        rw [← hstill hnot]
        revert hc
        cases (s.lane l).call <;> decide
      exact happ ((appliesTo_iff ..).mpr ⟨hpresent, hnot, hpromised⟩)

theorem LaneRec.result_rest (r : LaneRec) (own : Option Entry) (cond : Bool) :
    (r.result own cond).present = r.present ∧ (r.result own cond).cond = r.cond := by
  unfold LaneRec.result
  split
  · exact ⟨rfl, rfl⟩
  · split <;> exact ⟨rfl, rfl⟩

theorem State.finishOp_rest (s : State) (op : BookOp) :
    (s.finishOp op).start = s.start ∧ (s.finishOp op).runs = s.runs ∧ (s.finishOp op).air.rxq = s.air.rxq := by
  refine ⟨by simp, by simp, (Air.of_sansQueue (by simp)).2.2.2.1⟩

theorem State.finishOp_bookInv {s : State} {op : BookOp} (h : s.BookInv) (hop : s.book.op = some op)
    (hnl : s.start.state ≠ .load) : (s.finishOp op).BookInv := by
  obtain ⟨hes, hnone⟩ := s.finishOp_book op
  obtain ⟨hstart, hruns, hrxq⟩ := s.finishOp_rest op
  have hbyte : (s.finishOp op).ownByte = s.ownByte := by rw [State.ownByte, State.ownByte, hstart]
  obtain ⟨hinv, -⟩ := State.finalEntries_spec h hop
  have hown := State.finishOp_ownInv h hop
  obtain ⟨-, -, -, hr, hq, habsent, -⟩ := h
  refine ⟨by rw [hes]; exact (State.entriesInv_congr hstart _).mpr hinv, hown, fun x hx => ?_, by rw [hstart, hruns]; exact hr,
    by rw [hrxq, hbyte]; exact hq, fun l hp => ?_, fun hl => absurd hl (by rw [hstart]; exact hnl)⟩
  · rw [hnone] at hx; cases hx
  · rw [State.finishOp_lane] at hp ⊢
    split at hp
    next happ =>
      rw [(LaneRec.result_rest ..).1] at hp
      rw [((appliesTo_iff ..).mp happ).1] at hp
      cases hp
    next happ =>
      rw [if_neg happ]
      exact habsent l hp

end Sys2Proof.Machine
end

section
/-! PROOFS. The claim book over the effects of a step (R73, R74, R81, R93). -/

namespace Sys2Proof.Machine

theorem LaneRec.setSensor_cond (r : LaneRec) (k : Sensor) (x : SensorIn) : (r.setSensor k x).cond = r.cond := by
  cases k <;> rfl

theorem State.sensor_bookInv {s : State} (h : s.BookInv) (l : LaneIx) (k : Sensor) (x : SensorIn) :
    (s.modLane l fun r => r.setSensor k x).BookInv := by
  have hlane : ∀ m, (s.modLane l fun r => r.setSensor k x).lane m =
      if m = l then (s.lane m).setSensor k x else s.lane m := fun m => by
    rw [State.lane_modLane]
    split
    next hm => rw [hm]
    · rfl
  refine h.of_alike ⟨fun m => ?_⟩ (fun m => ?_) rfl rfl ⟨rfl, rfl, rfl⟩ h.rxq <;> rw [hlane] <;> split
  · exact LaneRec.setSensor_alike ..
  · exact .refl _
  · exact LaneRec.setSensor_cond ..
  · rfl

/-- Settles O31, over the effects of a step: events take up what the blocks did to lanes and entries, a completion writes
entries and lane states together, and starts empty the book. -/
theorem bookKeepsPlacesAndOwnEntries : Obligations.BookKeepsPlacesAndOwnEntries := by
  have same : ∀ {s t : State}, s.BookInv → t.lanes = s.lanes → t.book = s.book → t.runs = s.runs → t.start = s.start →
      t.air.rxq = s.air.rxq → t.BookInv := fun h hl hb hr hs hq =>
    h.of_lanes hl hb hr (by rw [hs]; exact ⟨rfl, rfl, rfl⟩) (by rw [hq]; exact h.rxq)
  refine step_keeps (fun _ _ h => h) (fun _ _ _ _ => State.restart_bookInv ..) (fun _ _ _ _ => State.restart_bookInv ..)
    fun s t h heff => ?_
  cases heff
  case event hd => exact hd.bookInv h
  case marked hw => exact State.startIfMarked_bookInv h (State.not_load_of_portWorks hw)
  case finish hw op hop =>
    exact State.refreshRisk_bookInv (State.finishOp_bookInv h hop (State.not_load_of_working hw))
  case queue q hq => exact h.of_lanes rfl rfl rfl ⟨rfl, rfl, rfl⟩ fun f hf => (hq f hf).elim (h.rxq f) id
  case port => exact same h rfl rfl rfl rfl (by assumption)
  case sensor => exact State.sensor_bookInv h ..
  case timer =>
    obtain ⟨hstate, hrole, hown, -⟩ := s.timerUnit_start
    exact h.of_lanes (by simp) (by simp) (by simp) ⟨hrole, hown, hstate⟩ (by simpa using h.rxq)
  case resetLow => exact h.of_lanes rfl rfl rfl ⟨rfl, rfl, rfl⟩ h.rxq
  case readEnd img => exact State.readEnd_bookInv h img
  all_goals exact same h (by simp) (by simp) (by simp) (by simp) (by simp)

end Sys2Proof.Machine
end

section
/-! PROOFS. The timers of the claim book, and a CLAIMSET handed to it (R78, R79, R83, R86, R95). -/

namespace Sys2Proof.Machine

/-! ## Timers (R86, R95) -/

/-- Settles O34: the entry leaves or the timer restarts, and the request is taken up at the end of the event. -/
theorem bookTimersRequestOperations : Obligations.BookTimersRequestOperations := by
  constructor
  · intro s station lane e hw old hfind hdue
    let u : State := ({ s with book.entries := s.book.entries.filter fun x => !old x } : State).ask
    have hage : s.ageEntry station lane = u := by
      unfold State.ageEntry
      dsimp only
      rw [hfind]
      exact if_pos hdue
    have hexec : exec (.peerEntryAgeingExpiry station lane) s = .next u.endEvent := by
      have hguard : exec (.peerEntryAgeingExpiry station lane) s = .next (s.ageEntry station lane).endEvent :=
        congrArg _ (if_pos hw)
      rw [hguard, hage]
    obtain ⟨hbusy, hidle, -⟩ := u.endEvent_op
    refine ⟨_, hexec, u.endEvent_book.1, fun hb => ?_, fun hb => ?_, fun l => (u.endEvent_lane l).2.1, by simp [u],
      by simp [u], by simp [u]⟩
    · obtain ⟨op, hop, -, hentries, -⟩ := hidle hb (.inl rfl)
      exact ⟨op, hop, hentries.trans u.endEvent_book.1.symm⟩
    · obtain ⟨hop, -, hmark⟩ := hbusy hb
      exact ⟨hop, by rw [hmark]; exact Bool.or_true _⟩
  · intro s hw hdue
    let u : State := ({ s with book.refresh := some (s.deadline s.prof.tRefresh) } : State).askRefresh
    have hexec : exec .refreshTimerExpiry s = .next u.endEvent := by
      have hguard : exec .refreshTimerExpiry s = .next s.bookRefresh.endEvent := congrArg _ (if_pos hw)
      have hrefresh : s.bookRefresh = u := if_pos hdue
      rw [hguard, hrefresh]
    obtain ⟨hbusy, hidle, -⟩ := u.endEvent_op
    obtain ⟨hentries, htimer, -⟩ := u.endEvent_book
    refine ⟨_, hexec, htimer, hentries, fun hb => ?_, fun hb => ?_, fun l => (u.endEvent_lane l).2.1, by simp [u],
      by simp [u], by simp [u]⟩
    · obtain ⟨op, hop, hrefresh, -⟩ := hidle hb (.inr rfl)
      exact ⟨op, hop, by rw [hrefresh]; exact Bool.or_true _⟩
    · obtain ⟨hop, hmark, -⟩ := hbusy hb
      exact ⟨hop, by rw [hmark]; exact Bool.or_true _⟩

/-! ## A CLAIMSET heard (R83, R175) -/

theorem shapeFits_claimset {p : List Byte} (h : p ≠ []) : shapeFits .claimset p = true := by
  cases p with
  | nil => exact absurd rfl h
  | cons => rfl

theorem State.handOver_claimset {s : State} (h : s.worksAs .rack = true ∨ s.worksAs .train = true) (src : Byte)
    (p : List Byte) : s.handOver ⟨.claimset, src, p⟩ = s.takeClaimset src p := by
  have hw : s.working = true := h.elim State.working_of_worksAs State.working_of_worksAs
  have hf := State.not_fault_of_working hw
  have hr : s.start.role = .rack ∨ s.start.role = .train := h.imp State.role_of_worksAs State.role_of_worksAs
  rw [State.handOver, if_neg hf]
  exact if_pos (by simpa using hr)

/-- A CLAIMSET is queued behind a busy book (R175). -/
theorem State.arrives_busy {s : State} {src : Byte} {p : List Byte}
    (hr : s.worksAs .rack = true ∨ s.worksAs .train = true) (h : s.hears src = true) (hp : p ≠ [])
    (hb : s.busy = true) :
    s.arrives .claimset src p = { s with air.rx := .hunting, air.rxq := [⟨.claimset, src, p⟩] } := by
  obtain ⟨hw, hkey, hq, -, hsrc, hlo, hhi⟩ := (s.hears_iff src).mp h
  have hport := State.portWorks_of_working hw
  have hzero : src ≠ 0 := by rintro rfl; simp at hlo
  have hfate : s.hunting.fate FrameKind.claimset.code src p = .joins .claimset :=
    (State.fate_joins_iff ..).mpr ⟨hsrc, by simp only [hzero, false_or, not_or]; exact ⟨by omega, by omega⟩,
      FrameKind.kindOfCode_code _, shapeFits_claimset hp, by simp [State.hunting, hq]⟩
  have hwait : s.hunting.waitsForBook ⟨.claimset, src, p⟩ = true :=
    (State.waitsForBook_iff ..).mpr ⟨rfl, hr.imp State.role_of_worksAs State.role_of_worksAs,
      State.not_fault_of_working hw⟩
  have haccept : s.arrives .claimset src p = s.hunting.drain [⟨.claimset, src, p⟩] := by
    rw [State.arrives, if_pos (by simp [State.receiving, hport, hkey])]
    refine (State.acceptFrame_of_joins hfate).trans ?_
    rw [show s.hunting.air.rxq = [] from hq, List.nil_append]
  rw [haccept, State.drain, if_pos hwait, if_pos (by exact hb)]
  rfl

/-- Settles O29: handed over, a readable CLAIMSET starts an operation and no request is open after it. -/
theorem claimsetStartsOrWaits : Obligations.ClaimsetStartsOrWaits := by
  intro s src p hr hh hp
  obtain ⟨ha, har, -⟩ := (s.bookSettled_iff).mp ((s.hears_iff src).mp hh).2.2.2.1
  have hidle : s.busy = false → exec (.claimset src p) s = .next (s.hunting.takeClaimset src p).endEvent := fun hb => by
    have harr := State.arrives_of_hears (k := .claimset) hh (shapeFits_claimset hp) (fun _ => hb)
    rw [State.handOver_claimset (s := s.hunting) hr] at harr
    exact congrArg _ harr
  refine ⟨fun cs hcs hb => ?_, fun hb => congrArg _ (State.arrives_busy hr hh hp hb), fun hcs hb => ?_⟩
  · have htake : s.hunting.takeClaimset src p = s.hunting.startOp (some cs) := by rw [State.takeClaimset, hcs]
    have hexec := hidle hb
    rw [htake] at hexec
    obtain ⟨hbusy, -, -⟩ := (s.hunting.startOp (some cs)).endEvent_op
    obtain ⟨hop, -, hmark⟩ := hbusy rfl
    refine ⟨_, s.hunting.newOp (some cs), hexec, hop, rfl, rfl, rfl, rfl, rfl, (State.endEvent_book _).1, ?_, ?_,
      by simp [State.hunting], fun l => ?_, by simp [State.hunting], by simp [State.hunting], by simp [State.hunting],
      by simp [State.hunting]⟩
    · rw [hmark]
      simpa [State.startOp, State.hunting] using ha
    · have hq : s.air.rxq = [] := ((s.hears_iff src).mp hh).2.2.1
      simp [State.hunting, hq]
    · obtain ⟨hs, hd, -⟩ := (s.hunting.startOp (some cs)).endEvent_lane l
      rw [hs, hd, State.startOp_lane]
      exact ⟨rfl, rfl⟩
  · have htake : s.hunting.takeClaimset src p = s.hunting := by rw [State.takeClaimset, hcs]
    have hexec := hidle hb
    rw [htake] at hexec
    exact ⟨_, hexec, s.hunting.endEvent_op.2.2 hb ha har, by simp [State.hunting], by simp [State.hunting]⟩

end Sys2Proof.Machine
end

section
/-! PROOFS. The buttons of the train (R103, R104, R107, R112, R113, R115). -/

namespace Sys2Proof.Machine

theorem Planner.lead_of_current {p : Planner} {r : Run} (h : p.current = some r) : p.lead = some r := by
  rw [Planner.lead, h]; rfl

/-! ## Presses that the lead run does not take (R104) -/

/-- The lead run is in none of these states. -/
def Planner.leadOutside (p : Planner) (sts : List RunState) : Prop := ∀ r, p.lead = some r → r.state ∉ sts

theorem Planner.leadOutside_iff (p : Planner) (sts : List RunState) :
    (p.lead.any fun r => sts.contains r.state) = false ↔ p.leadOutside sts := by
  unfold Planner.leadOutside
  cases p.lead <;> simp

theorem State.pressLoad_refused {s : State} (h : s.planner.leadOutside [.planning]) : s.pressLoad = s.refuse 0 := by
  unfold State.pressLoad
  split
  next r hr => exact if_neg (by simpa using h r hr)
  · rfl

theorem State.pressGo_refused {s : State} (h : s.planner.leadOutside [.loading, .atstop, .detour]) :
    s.pressGo = s.refuse 1 := by
  unfold State.pressGo
  split
  next r hr =>
    have hout := h r hr
    split
    next hst => simp [hst] at hout
    next hst => simp [hst] at hout
    next hst => simp [hst] at hout
    · rfl
  · rfl

theorem State.pressHold_refused {s : State} (h : s.planner.leadOutside [.enroute, .held]) : s.pressHold = s.refuse 2 := by
  unfold State.pressHold
  split
  next r hr =>
    have hout := h r hr
    split
    next hst => simp [hst] at hout
    next hst => simp [hst] at hout
    · rfl
  · rfl

/-! ## HOLD (R113) -/

/-- The run that HOLD makes of one under way or held. -/
def State.heldOrResumed (s : State) (r : Run) : Run :=
  if r.state = .enroute then { r with state := .held, holdStart := some s.start.clock }
  else { r with state := .enroute, holdStart := none }

theorem State.pressHold_taken {s : State} {r : Run} (hc : s.planner.current = some r)
    (h : r.state = .enroute ∨ r.state = .held) :
    s.pressHold = (s.setCurrent (s.heldOrResumed r)).announceAll := by
  unfold State.pressHold
  rw [Planner.lead_of_current hc]
  rcases h with h | h <;> simp [h, State.heldOrResumed]

/-- Settles O40: the cases of the table of R103 for the lead run's state. -/
theorem holdTogglesAndRefusedPress : Obligations.HoldTogglesAndRefusedPress := by
  intro s hw is on
  refine ⟨fun r hc hr => ?_, fun h => ?_, fun h => ?_, fun h => ?_⟩
  · let u : State := { s with planner.holdIn := .accept true }
    have hexec : exec .holdPress s = .next u.pressHold.endEvent := congrArg _ (if_pos hw)
    rw [State.pressHold_taken (s := u) hc hr] at hexec
    refine ⟨_, hexec, ?_, by simp [u], ?_, by simp [u], by simp [u]⟩
    · simp only [State.endEvent_frame, State.announceAll_planner]
      rfl
    · rw [(State.endEvent_book _).1]; simp [u]
  all_goals
    have hout := (s.planner.leadOutside_iff _).mp h
  · let u : State := { s with planner.loadIn := .accept true }
    have hexec : exec .loadPress s = .next u.pressLoad.endEvent := congrArg _ (if_pos hw)
    rw [State.pressLoad_refused (s := u) hout] at hexec
    exact ⟨_, hexec, by simp [u]; rfl, by simp [u, State.refuse, State.raise], by simp [u],
      by rw [(State.endEvent_book _).1]; simp [u]⟩
  · let u : State := { s with planner.goIn := .accept true }
    have hexec : exec .goPress s = .next u.pressGo.endEvent := congrArg _ (if_pos hw)
    rw [State.pressGo_refused (s := u) hout] at hexec
    exact ⟨_, hexec, by simp [u]; rfl, by simp [u, State.refuse, State.raise], by simp [u],
      by rw [(State.endEvent_book _).1]; simp [u]⟩
  · let u : State := { s with planner.holdIn := .accept true }
    have hexec : exec .holdPress s = .next u.pressHold.endEvent := congrArg _ (if_pos hw)
    rw [State.pressHold_refused (s := u) hout] at hexec
    exact ⟨_, hexec, by simp [u]; rfl, by simp [u, State.refuse, State.raise], by simp [u],
      by rw [(State.endEvent_book _).1]; simp [u]⟩

theorem TxFrame.key_ne_of_kind {f x : TxFrame} (h : f.kind ≠ x.kind) : f.key ≠ x.key := fun hk =>
  h (congrArg Prod.fst hk)

/-- A frame of another kind stays where RUN notices are offered. -/
theorem State.announceAll_mem {s : State} {x : TxFrame} (hx : x ∈ s.air.txq) (hk : x.kind ≠ .run) :
    x ∈ s.announceAll.air.txq :=
  s.announceAll_offers.mem_of_ne hx fun _ hf => TxFrame.key_ne_of_kind (by rw [hf]; exact hk.symm)

/-! ## GO (R107, R112, R115) -/

theorem State.openRun_of_not {s : State} (h : s.mayOpen = false) : s.openRun = s := by simp [State.openRun, h]

theorem State.pressGo_loading {s : State} {r : Run} (hc : s.planner.current = some r) (h : r.state = .loading) :
    s.pressGo = s.departSupermarket r := by
  simp [State.pressGo, Planner.lead_of_current hc, h]

/-- The state in which a departure from a present stop leaves the run: ENROUTE from a route stop, HELD from a detour. -/
def Run.afterStop (r : Run) : RunState := if r.state = .atstop then .enroute else .held

theorem State.pressGo_present {s : State} {r : Run} (hc : s.planner.current = some r)
    (h : r.state = .atstop ∨ r.state = .detour) : s.pressGo = s.departPresent r r.afterStop := by
  rcases h with h | h <;> simp [State.pressGo, Planner.lead_of_current hc, h, Run.afterStop]

theorem State.departLogs_getLast (s : State) {e : LogEntry} (h : s.planner.log.getLast? = some e) :
    s.departLogs.getLast? = some (s.departLog e) := by
  unfold State.departLogs
  rw [← List.head?_reverse] at h
  split
  next x rest hx =>
    rw [hx] at h
    cases h
    simp
  next hx => rw [hx] at h; cases h

theorem State.departed_frame (s : State) (r : Run) (stop : Nat) (next : RunState) :
    (s.departed r stop next).panel = s.panel ∧ (s.departed r stop next).book = s.book ∧
      (s.departed r stop next).line = s.line ∧ (s.departed r stop next).start = s.start := by
  simp [State.departed]

/-- With room the DEPART waits in the queue. -/
theorem State.departed_mem {s : State} (ha : s.isActive = true) (hroom : s.air.txq.length < 8) (r : Run) (stop : Nat)
    (next : RunState) : departFrame r stop ∈ (s.departed r stop next).air.txq :=
  State.mem_offer_self ha (.inl hroom)

theorem State.departedRun_eq (s : State) (r : Run) (stop : Nat) (next : RunState) :
    (s.departedRun r stop next).id = r.id ∧ (s.departedRun r stop next).holdStart = r.holdStart ∧
      (s.departedRun r stop next).served = (s.setServed r stop).served := by
  unfold State.departedRun State.setServed
  split <;> exact ⟨rfl, rfl, rfl⟩

/-- Settles O39: the departure from the supermarket with the opening of the next run, and that from a present stop. -/
theorem goPressDeparts : Obligations.GoPressDeparts := by
  intro s r hw hc
  let u : State := { s with planner.goIn := .accept true }
  have hexec : exec .goPress s = .next u.pressGo.endEvent := congrArg _ (if_pos hw)
  refine ⟨fun hst => ?_, fun stop hst hp => ?_⟩
  · rw [State.pressGo_loading (s := u) hc hst, State.departSupermarket_eq] at hexec
    have hmay : (u.leaving r).mayOpen = true ↔ s.isActive = true ∧ s.synced = true ∧ s.planner.planning = none := by
      rw [State.mayOpen_iff]
      have hrole : (u.leaving r).start.role = .train := State.role_of_worksAs hw
      have hne : ∀ x, (u.leaving r).planner.current = some x → x.state ≠ .loading := by rintro x ⟨⟩ h; cases h
      exact ⟨fun ⟨_, h1, h2, h3, _⟩ => ⟨h1, h2, h3⟩, fun ⟨h1, h2, h3⟩ => ⟨hrole, h1, h2, h3, hne⟩⟩
    have hopen : ∀ t, (u.leaving r).openRun = t → t.planner.current = some { r with state := .enroute } ∧
        t.planner.e = 0 ∧ t.planner.manifest = s.planner.manifest ∧ t.planner.log = s.planner.log := by
      rintro t rfl
      cases hm : (u.leaving r).mayOpen
      · rw [State.openRun_of_not hm]; exact ⟨rfl, rfl, rfl, rfl⟩
      · rw [State.openRun_of_may hm]; exact ⟨rfl, rfl, rfl, rfl⟩
    obtain ⟨h1, h2, h3, h4⟩ := hopen _ rfl
    refine ⟨_, hexec, ?_, ?_, ?_, ?_, fun ha hs hn => ?_, fun hn => ?_, ?_, ?_, ?_, ?_⟩
    · simpa using h1
    · simpa using h2
    · simpa using h3
    · simpa using h4
    · refine ⟨(u.leaving r).openedRun, ?_, rfl, rfl, ?_⟩ <;>
        simp only [State.endEvent_frame, State.announceAll_planner, State.openRun_of_may (hmay.mpr ⟨ha, hs, hn⟩)] <;> rfl
    · have hnot : (u.leaving r).mayOpen = false := by
        by_contra hm
        obtain ⟨ha, hs, hp⟩ := hmay.mp (by simpa using hm)
        rcases hn with hn | hn | hn
        · rw [ha] at hn; cases hn
        · rw [hs] at hn; cases hn
        · exact hn hp
      simp only [State.endEvent_frame, State.announceAll_planner, State.openRun_of_not hnot]
      exact ⟨rfl, rfl⟩
    · rw [(State.endEvent_book _).1]; simp [State.leaving, u]
    · simp [State.leaving, u]
    · simp [State.leaving, u]
    · simp [State.leaving, u]
  · rw [State.pressGo_present (s := u) hc hst, State.departPresent_eq hp] at hexec
    have hplanner : (u.departed r stop r.afterStop).announceAll.endEvent.planner =
        { u.planner with current := some (u.departedRun r stop r.afterStop), log := u.departLogs } := by
      simp [State.departed]
    obtain ⟨hid, hhold, hserved⟩ := u.departedRun_eq r stop r.afterStop
    obtain ⟨hpanel, hbook, hline, hstart⟩ := u.departed_frame r stop r.afterStop
    refine ⟨_, u.departedRun r stop r.afterStop, hexec, by rw [hplanner], hid, rfl, ?_, rfl, hhold, ?_, ?_, fun e he => ?_,
      fun ha hroom => ?_, by rw [hplanner], by rw [hplanner], by rw [hplanner], ?_, ?_, ?_, ?_⟩
    · rcases hst with h | h <;> simp [State.departedRun, Run.afterStop, h]
    · rw [hserved]
      have hix : u.routeIx stop = s.routeIx stop := rfl
      cases hi : s.routeIx stop <;> simp [State.setServed, hix, hi]
    · rw [hplanner]; exact u.departLogs_length
    · rw [hplanner]; exact u.departLogs_getLast he
    · rw [(State.endEvent_frame _).2.2.2.1]
      exact State.announceAll_mem (State.departed_mem (s := u) ha (by simpa [State.txRoom] using hroom) r stop _)
        (fun h => by cases h)
    · rw [(State.endEvent_book _).1]; simp [hbook, u]
    · simp [hpanel, u]
    · simp [hline, u]
    · simp [hstart, u]

end Sys2Proof.Machine
end

section
/-! PROOFS. Load lock and the run planner's refresh: the MANIFEST parts queued, the manifest built, the LATE notices (R105,
R117, R122, R123). -/

namespace Sys2Proof.Machine

/-! ## Frames offered one after another (R177) -/

theorem State.Offers.accepts {s t : State} {P : TxFrame → Prop} {n : Nat} (h : s.Offers P n t) (ha : s.isActive = true)
    {k : FrameKind} (hk : k ≠ .unit) (hr : k ≠ .report) : t.accepts k = true := by
  have hact : t.isActive = true := by rw [(State.guards_congr h.start_eq).2.2.2.2.2, ha]
  unfold State.accepts
  split
  · exact absurd rfl hr
  · exact absurd rfl hk
  · exact hact

/-- Frames of different keys, with room for all of them, all wait in the queue. -/
theorem State.offers_mem {s : State} (ha : s.isActive = true) (fs : List TxFrame) (hkeys : (fs.map TxFrame.key).Nodup)
    (hkind : ∀ f ∈ fs, f.kind ≠ .unit ∧ f.kind ≠ .report) (hroom : s.air.txq.length + fs.length ≤ 8) :
    s.Offers (fun f => f ∈ fs) fs.length (fs.foldl State.offer s) ∧ ∀ f ∈ fs, f ∈ (fs.foldl State.offer s).air.txq := by
  induction fs using List.reverseRecOn with
  | nil => exact ⟨.refl, nofun⟩
  | append_singleton fs g ih =>
    rw [List.map_append, List.nodup_append] at hkeys
    obtain ⟨hkeys, -, hne⟩ := hkeys
    rw [List.length_append, List.length_singleton] at hroom
    obtain ⟨hoffers, hmem⟩ := ih hkeys (fun f hf => hkind f (List.mem_append_left _ hf)) (by omega)
    obtain ⟨hu, hr⟩ := hkind g (by simp)
    rw [List.foldl_append]
    have hwide : s.Offers (fun f => f ∈ fs ++ [g]) fs.length (fs.foldl State.offer s) :=
      hoffers.weaken fun f hf => List.mem_append_left _ hf
    refine ⟨by simpa using hwide.offer g (by simp), fun f hf => ?_⟩
    rcases List.mem_append.mp hf with hf | hf
    · refine (State.mem_offer_of_mem g (hmem f hf)).resolve_right fun ⟨hk, _⟩ => ?_
      exact hne _ (List.mem_map_of_mem hf) _ (by simp) hk.symm
    · rw [List.mem_singleton.mp hf]
      exact State.mem_offer_self (hoffers.accepts ha hu hr) (.inl (by have := hoffers.length_le; omega))

/-! ## MANIFEST parts (R123) -/

theorem partCount_le {m : List ManifestEntry} (h : m.length ≤ 32) : partCount m.length ≤ 4 := by
  unfold partCount ceilDiv; omega

/-- Parts of different indices have different keys. -/
theorem manifestFrame_key {id : RunId} {m : List ManifestEntry} (h : m.length ≤ 32) {i j : Nat}
    (hi : i < partCount m.length) (hj : j < partCount m.length)
    (hk : (manifestFrame id m i).key = (manifestFrame id m j).key) : i = j := by
  have hcount := partCount_le h
  generalize hc : partCount m.length = c at *
  have hbyte : byte (i * 16 + c) >>> 4 = byte (j * 16 + c) >>> 4 := by
    have hpair := congrArg (fun p : FrameKind × List Byte => p.2.getD 2 0) hk
    simpa [manifestFrame, TxFrame.key, writePart, bytes2, hc] using hpair
  have hnat := congrArg BitVec.toNat hbyte
  rw [BitVec.toNat_ushiftRight, BitVec.toNat_ushiftRight, byte, byte, BitVec.toNat_ofNat, BitVec.toNat_ofNat,
    Nat.shiftRight_eq_div_pow, Nat.shiftRight_eq_div_pow] at hnat
  omega

theorem State.queueParts_eq {s : State} (h : s.announces = true) (r : Run) :
    s.queueParts r = ((List.range (partCount s.planner.manifest.length)).map
      (manifestFrame r.id s.planner.manifest)).foldl State.offer s := by
  rw [State.queueParts, if_pos h, List.foldl_map]

theorem State.isActive_of_announces {s : State} (h : s.announces = true) : s.isActive = true := by
  rw [State.announces, Bool.and_eq_true] at h
  exact h.1

/-- With room for all of them every part of the manifest waits in the queue. -/
theorem State.queueParts_mem {s : State} (h : s.announces = true) (r : Run) (hm : s.planner.manifest.length ≤ 32)
    (hroom : s.air.txq.length + partCount s.planner.manifest.length ≤ 8) {i : Nat}
    (hi : i < partCount s.planner.manifest.length) :
    manifestFrame r.id s.planner.manifest i ∈ (s.queueParts r).air.txq := by
  rw [State.queueParts_eq h]
  refine (State.offers_mem (State.isActive_of_announces h) _ ?_ (fun f hf => ?_) (by simpa using hroom)).2 _
    (List.mem_map_of_mem (List.mem_range.mpr hi))
  · rw [List.map_map]
    refine List.Nodup.map_on (fun a ha b hb hk => ?_) List.nodup_range
    exact manifestFrame_key hm (List.mem_range.mp ha) (List.mem_range.mp hb) hk
  · obtain ⟨j, -, rfl⟩ := List.mem_map.mp hf
    exact ⟨nofun, nofun⟩

theorem manifestFrame_eq (id : RunId) (m : List ManifestEntry) (i : Nat) :
    manifestFrame id m i =
      ⟨.manifest, bytes2 id ++ [byte (i * 16 + partCount m.length), byte ((m.drop (8 * i)).take 8).length] ++
        ((m.drop (8 * i)).take 8).flatMap fun e => [byte e.station, byte e.lane.val, byte e.stop, byte e.bins]⟩ := by
  simp only [manifestFrame, writePart, List.length_map, List.flatMap_map]
  rfl

theorem State.announces_congr {s t : State} (hs : t.start = s.start) (hl : t.line = s.line) :
    t.announces = s.announces := by
  simp [State.announces, State.isActive, State.synced, hs, hl]

/-- A RUN notice of a run stays, or another of the same run has its place, where RUN notices are offered. -/
theorem State.Offers.run_mem {s t : State} {n : Nat} (h : s.Offers (ofKind .run) n t) {id : RunId}
    (hs : ∃ f ∈ s.air.txq, f.kind = .run ∧ f.payload.take 2 = bytes2 id) :
    ∃ f ∈ t.air.txq, f.kind = .run ∧ f.payload.take 2 = bytes2 id := by
  obtain ⟨f, hf, hk, hp⟩ := hs
  rcases h.mem_of_mem hf with hf | ⟨g, hg, hgk, hkey⟩
  · exact ⟨f, hf, hk, hp⟩
  · have hgk' : g.kind = .run := hgk
    refine ⟨g, hg, hgk', ?_⟩
    rw [← hp]
    simpa [TxFrame.key, hk, hgk'] using congrArg Prod.snd hkey

theorem State.runFrame_id (s : State) (r : Run) : (s.runFrame r false).payload.take 2 = bytes2 r.id := rfl

/-! ## The planner's refresh (R122) -/

/-- The current run's notice and MANIFEST parts (R122, R123). -/
def State.currentAnnounced (s : State) : State :=
  match s.planner.current with
  | some r => (s.announce r false).queueParts r
  | none => s

theorem State.plannerRefresh_of_due {s : State} (h : s.due s.planner.refresh = true) :
    s.plannerRefresh = (State.currentAnnounced
      { s with planner.refresh := some (s.deadline s.prof.tRefresh) }).announceSlot s.planner.planning := by
  unfold State.plannerRefresh
  rw [if_pos h]
  rfl

theorem State.announces_of_offers {s t : State} {P : TxFrame → Prop} {n : Nat} (h : s.Offers P n t) (hl : t.line = s.line) :
    t.announces = s.announces := State.announces_congr h.start_eq hl

/-- What the current run's notice and parts leave in the queue. -/
theorem State.currentAnnounced_offers (s : State) :
    s.Offers (ofKinds .run .manifest)
      (if s.planner.current.isSome then 1 + partCount s.planner.manifest.length else 0) s.currentAnnounced := by
  unfold State.currentAnnounced
  cases hr : s.planner.current with
  | none => exact .refl
  | some r =>
    have h := (s.announce r false).queueParts_offers r
    rw [show (s.announce r false).planner = s.planner by simp] at h
    exact ((s.announce_offers_run r false).weaken fun f hf => .inl hf).trans (h.weaken fun f hf => .inr hf)

theorem State.currentAnnounced_frame (s : State) :
    s.currentAnnounced.planner = s.planner ∧ s.currentAnnounced.panel = s.panel ∧ s.currentAnnounced.line = s.line ∧
      s.currentAnnounced.start = s.start ∧ s.currentAnnounced.prof = s.prof ∧ s.currentAnnounced.book = s.book := by
  unfold State.currentAnnounced
  split <;> simp

theorem State.currentAnnounced_run {s : State} {r : Run} (ha : s.announces = true) (hr : s.planner.current = some r)
    (hroom : s.air.txq.length < 8) :
    ∃ f ∈ s.currentAnnounced.air.txq, f.kind = .run ∧ f.payload.take 2 = bytes2 r.id := by
  rw [State.currentAnnounced, hr]
  refine ⟨s.runFrame r false, ?_, rfl, s.runFrame_id r⟩
  exact ((s.announce r false).queueParts_offers r).mem_of_ne (State.announce_mem ha hroom r) fun g hg =>
    TxFrame.key_ne_of_kind (by rw [hg]; exact nofun)

theorem State.currentAnnounced_part {s : State} {r : Run} (ha : s.announces = true) (hr : s.planner.current = some r)
    (hm : s.planner.manifest.length ≤ 32) (hroom : s.air.txq.length + 1 + partCount s.planner.manifest.length ≤ 8) {i : Nat}
    (hi : i < partCount s.planner.manifest.length) :
    manifestFrame r.id s.planner.manifest i ∈ s.currentAnnounced.air.txq := by
  rw [State.currentAnnounced, hr]
  have hplanner : (s.announce r false).planner = s.planner := by simp
  have hann : (s.announce r false).announces = true := by
    rw [State.announces_congr (s := s) (by simp) (by simp), ha]
  have hlen := (s.announce_offers_run r false).length_le
  have h := State.queueParts_mem hann r (by rw [hplanner]; exact hm) (by rw [hplanner]; omega) (i := i)
    (by rw [hplanner]; exact hi)
  rwa [hplanner] at h

/-- Without a followed pacer or outside ACTIVE nothing is announced. -/
theorem State.announceSlot_silent {s : State} (h : s.announces = false) (slot : Option Run) : s.announceSlot slot = s := by
  cases slot <;> simp [State.announceSlot, State.announce, h]

theorem State.currentAnnounced_silent {s : State} (h : s.announces = false) : s.currentAnnounced = s := by
  unfold State.currentAnnounced
  split
  · simp [State.announce, State.queueParts, h]
  · rfl

theorem State.announceSlot_run {s : State} {r : Run} (ha : s.announces = true) (hroom : s.air.txq.length < 8) :
    ∃ f ∈ (s.announceSlot (some r)).air.txq, f.kind = .run ∧ f.payload.take 2 = bytes2 r.id :=
  ⟨s.runFrame r false, State.announce_mem ha hroom r, rfl, s.runFrame_id r⟩

theorem partCount_eq (n : Nat) : partCount n = max 1 ((n + 7) / 8) := rfl

/-- Settles O42. -/
theorem trainRefreshAnnouncesRuns : Obligations.TrainRefreshAnnouncesRuns := by
  intro s hw hdue m count
  let u : State := { s with planner.refresh := some (s.deadline s.prof.tRefresh) }
  have hexec : exec .trainRefreshExpiry s = .next ((u.currentAnnounced.announceSlot s.planner.planning).endEvent) := by
    have hguard : exec .trainRefreshExpiry s = .next s.plannerRefresh.endEvent := congrArg _ (if_pos hw)
    rw [hguard, State.plannerRefresh_of_due hdue]
  have hcount : partCount u.planner.manifest.length = count := rfl
  obtain ⟨hplanner, hpanel, hline, hstart, hprof, hbook⟩ := u.currentAnnounced_frame
  have hcur := u.currentAnnounced_offers
  have hslot := u.currentAnnounced.announceSlot_offers s.planner.planning
  have hair : (u.currentAnnounced.announceSlot s.planner.planning).endEvent.air =
      (u.currentAnnounced.announceSlot s.planner.planning).air := (State.endEvent_frame _).2.2.2.1
  have hann : u.currentAnnounced.announces = s.announces := State.announces_congr hstart hline
  refine ⟨_, hexec, ?_, fun ha => ?_, fun r ha hr hroom => ?_, fun r ha hr hroom hm i hi => ?_, fun r ha hr hp hroom => ?_,
    fun r x ha hr hp hroom => ?_, fun f hf => ?_, ?_, ?_, ?_, ?_, ?_⟩
  · simp [hplanner]; rfl
  · rw [State.currentAnnounced_silent (s := u) ha, State.announceSlot_silent (s := u) ha]
    simp [u]
  · rw [hair]
    exact hslot.run_mem (State.currentAnnounced_run (s := u) ha hr (by simpa [State.txRoom] using hroom))
  · rw [hair]
    have hpart := State.currentAnnounced_part (s := u) ha hr hm hroom hi
    rw [manifestFrame_eq] at hpart
    exact hslot.mem_of_ne hpart fun g hg => TxFrame.key_ne_of_kind (by rw [hg]; exact nofun)
  · rw [hair, hp]
    have hlen := hcur.length_le
    have hnone : u.planner.current = none := hr
    rw [hnone] at hlen
    exact State.announceSlot_run (by rw [hann, ha]) (hlen.trans_lt (by simpa [State.txRoom] using hroom))
  · rw [hair, hp]
    have hlen := hcur.length_le
    have hsome : u.planner.current = some r := hr
    rw [hsome, hcount] at hlen
    refine State.announceSlot_run (by rw [hann, ha]) (hlen.trans_lt ?_)
    have hq : u.air.txq.length = s.air.txq.length := rfl
    simp only [Option.isSome_some, if_true]
    omega
  · rw [hair] at hf
    rcases hslot.mem_or hf with hf | hf
    · rcases hcur.mem_or hf with hf | hf
      · exact .inl hf
      · exact .inr hf
    · exact .inr (.inl hf)
  · rw [(State.endEvent_book _).1]; simp [hbook, u]
  · simp [hpanel, u]
  · simp [hline, u]
  · simp [hstart, u]
  · simp [hprof, u]

/-! ## Load lock (R105, R117) -/

theorem State.pressLoad_planning {s : State} {r : Run} (hc : s.planner.current = none)
    (hp : s.planner.planning = some r) (hst : r.state = .planning) : s.pressLoad = s.loadLock r := by
  have hlead : s.planner.lead = some r := by rw [Planner.lead, hc, hp]; rfl
  simp [State.pressLoad, hlead, hst]

theorem sortEntries_pairwise (n : LineCount) (es : List Entry) :
    (sortEntries n es).Pairwise (fun a b => keyLe (a.key n) (b.key n) = true) := by
  have htotal : Std.Total (entryOrder n) := ⟨fun a b => keyLe_total (a.key n) (b.key n)⟩
  have htrans : IsTrans Entry (entryOrder n) := ⟨fun a b c => keyLe_trans⟩
  exact List.pairwise_insertionSort (entryOrder n) es

/-- The admitted claims of a run for stops of the route, in key order (R117). -/
def State.lockedClaims (s : State) (run : RunId) : List Entry :=
  (sortEntries s.line.n (s.book.entries.filter fun e => e.run == run && e.admitted)).filter fun e => (s.routeIx e.stop).isSome

theorem State.buildManifest_eq (s : State) (run : RunId) :
    s.buildManifest run = ((s.lockedClaims run).take 32).map Entry.manifestEntry := rfl

theorem State.lockedClaims_perm (s : State) (run : RunId) :
    (s.lockedClaims run).Perm (s.book.entries.filter fun e =>
      e.run == run && e.admitted && s.prof.route.any fun x => x.stop == e.stop) := by
  have hperm := (sortEntries_perm s.line.n (s.book.entries.filter fun e => e.run == run && e.admitted)).filter
    fun e => (s.routeIx e.stop).isSome
  rw [List.filter_filter] at hperm
  refine hperm.trans (List.Perm.of_eq (List.filter_congr fun e _ => ?_))
  rw [State.routeIx, List.findIdx?_isSome, Bool.and_comm]

theorem State.lockedClaims_pairwise (s : State) (run : RunId) :
    (s.lockedClaims run).Pairwise fun a b => keyLe (a.key s.line.n) (b.key s.line.n) = true :=
  (sortEntries_pairwise ..).filter _

/-- The LATE notices raised for the LATE entries of a list (R105). -/
theorem State.raiseLate_panel (ms : List ManifestEntry) (s : State) :
    (ms.foldl (fun t e => if e.late then t.raise .late e.station e.lane.val else t) s).panel =
      (ms.filter fun e => e.late).foldl (fun p e => p.raise s.start.clock .late e.station e.lane.val) s.panel := by
  induction ms generalizing s with
  | nil => rfl
  | cons m ms ih =>
    rw [List.foldl_cons, ih]
    cases hm : m.late
    · simp [hm]
    · simp [hm, State.raise]

theorem State.locked_announces (s : State) (r : Run) :
    (s.locked r).raiseLate.announces = s.announces ∧ (s.locked r).raiseLate.air = s.air ∧
      (s.locked r).raiseLate.planner = (s.locked r).planner :=
  ⟨State.announces_congr (by simp [State.locked]) (by simp [State.locked]), by simp [State.locked], by simp⟩

/-- Notices raised leave the indices of the panel. -/
theorem Panel.raiseAll_pick (clock : Nat) (ms : List ManifestEntry) (p : Panel) :
    (ms.foldl (fun p e => p.raise clock .late e.station e.lane.val) p).pick = p.pick :=
  foldl_keeps (f := fun (p : Panel) (e : ManifestEntry) => p.raise clock .late e.station e.lane.val) (g := Panel.pick)
    (fun p e => (p.raise_frame clock .late e.station e.lane.val).2.2.2.1) ms p

/-- The MANIFEST parts and the RUN notice of a run locked (R122, R123). -/
theorem State.loadLock_frames {s : State} (ha : s.announces = true) (hroom : s.air.txq.length + 5 ≤ 8) (r : Run) :
    (∀ i, i < partCount (s.buildManifest r.id).length →
      manifestFrame r.id (s.buildManifest r.id) i ∈ (s.loadLock r).air.txq) ∧
      ∃ f ∈ (s.loadLock r).air.txq, f.kind = .run ∧ f.payload.take 3 = bytes2 r.id ++ [1] := by
  obtain ⟨hann, hair, hplanner⟩ := s.locked_announces r
  have hman : (s.locked r).raiseLate.planner.manifest = s.buildManifest r.id := by rw [hplanner]; rfl
  have hcount := partCount_le (s.buildManifest_length r.id)
  let run : Run := { r with state := .loading, loadMark := s.start.clock }
  have hparts : ∀ i, i < partCount (s.buildManifest r.id).length →
      manifestFrame r.id (s.buildManifest r.id) i ∈ ((s.locked r).raiseLate.queueParts run).air.txq := fun i hi => by
    have h := State.queueParts_mem (hann.trans ha) run (by rw [hman]; exact s.buildManifest_length r.id)
      (by rw [hman, hair]; omega) (i := i) (by rw [hman]; exact hi)
    rwa [hman] at h
  have hlen := ((s.locked r).raiseLate.queueParts_offers run).length_le
  rw [hman, hair] at hlen
  have hann' : ((s.locked r).raiseLate.queueParts run).announces = true := by
    rw [State.announces_congr (s := (s.locked r).raiseLate) (by simp) (by simp), hann, ha]
  rw [State.loadLock_eq]
  refine ⟨fun i hi => ?_, _, State.announce_mem hann' (by omega) run, State.runFrame_head ..⟩
  exact (State.announce_offers_run _ run false).mem_of_ne (hparts i hi) fun g hg =>
    TxFrame.key_ne_of_kind (by rw [hg]; exact nofun)

theorem State.loadLock_silent {s : State} (ha : s.announces = false) (r : Run) : (s.loadLock r).air = s.air := by
  obtain ⟨hann, hair, -⟩ := s.locked_announces r
  have hsilent : (s.locked r).raiseLate.announces = false := hann.trans ha
  have hparts : ∀ run, (s.locked r).raiseLate.queueParts run = (s.locked r).raiseLate := fun run =>
    if_neg (by rw [hsilent]; decide)
  rw [State.loadLock_eq, hparts, State.announce, if_neg (by rw [hsilent]; decide), hair]

theorem State.loadLock_rest (s : State) (r : Run) :
    (s.loadLock r).planner = (s.locked r).planner ∧ (s.loadLock r).book = (s.locked r).book ∧
      (s.loadLock r).panel = (s.locked r).raiseLate.panel := by
  rw [State.loadLock_eq]
  simp

/-- Settles O38. -/
theorem loadLockFixesManifest : Obligations.LoadLockFixesManifest := by
  intro s r hw hc hp hst
  let u : State := { s with planner.loadIn := .accept true }
  have hexec : exec .loadPress s = .next u.pressLoad.endEvent := congrArg _ (if_pos hw)
  rw [State.pressLoad_planning (s := u) hc hp hst] at hexec
  obtain ⟨hplanner, hbook, hpanel⟩ := u.loadLock_rest r
  obtain ⟨-, -, -, hair, -, -, -, -, -, hplanner', hpanel', -⟩ := (u.loadLock r).endEvent_frame
  rw [hplanner] at hplanner'
  rw [hpanel] at hpanel'
  have hlate := State.raiseLate_panel (u.locked r).planner.manifest (u.locked r)
  have hlate' : (u.locked r).raiseLate.panel = _ := hlate
  refine ⟨_, hexec, by rw [hplanner']; rfl, by rw [hplanner']; rfl, by rw [hplanner']; rfl, ?_, ?_, ?_, ?_, ?_, ?_, ?_,
    by rw [hplanner']; rfl, by rw [hplanner']; rfl, by simp [u], by simp [u], by simp [u], by simp [u]⟩
  · rw [(State.endEvent_book _).1, hbook]; rfl
  · rw [hpanel', hlate', Panel.raiseAll_pick]; rfl
  · rw [hplanner']; exact u.buildManifest_length r.id
  · exact ⟨u.lockedClaims r.id, u.lockedClaims_perm r.id, u.lockedClaims_pairwise r.id, by rw [hplanner']; rfl⟩
  · rw [hpanel', hplanner', hlate']; rfl
  · intro m count ha hs hroom
    have hann : u.announces = true := Bool.and_eq_true_iff.mpr ⟨ha, hs⟩
    have hm : m = u.buildManifest r.id := congrArg Planner.manifest hplanner'
    obtain ⟨hparts, hrun⟩ := State.loadLock_frames (s := u) hann hroom r
    rw [hair]
    refine ⟨fun i hi => ?_, hrun⟩
    have hi' : i < partCount m.length := hi
    rw [hm] at hi'
    have hpart := hparts i hi'
    rwa [manifestFrame_eq, ← hm] at hpart
  · intro hn
    rw [hair]
    exact State.loadLock_silent (s := u) (by
      rw [State.announces, Bool.and_eq_false_iff]; exact hn) r

end Sys2Proof.Machine
end

section
/-! PROOFS. The arrival strobe (R103, R108 to R116, R124). -/

namespace Sys2Proof.Machine

/-! ## An arrival at a stop (R108, R109, R114) -/

theorem State.arriveAt_rest (s : State) (r : Run) (stop : Nat) (kind : VisitKind) (revisit : Bool) :
    (s.arriveAt r stop kind revisit).planner = (s.arrived r stop kind revisit).planner ∧
      (s.arriveAt r stop kind revisit).panel = (s.arrived r stop kind revisit).panel := by
  rw [State.arriveAt_eq]
  simp

/-- With room the ARRIVE waits in the queue. -/
theorem State.arriveAt_mem {s : State} (ha : s.isActive = true) (hroom : s.air.txq.length < 8) (r : Run) (stop : Nat)
    (kind : VisitKind) (revisit : Bool) :
    arriveFrame r stop kind revisit ∈ (s.arriveAt r stop kind revisit).air.txq := by
  rw [State.arriveAt_eq]
  exact State.announceAll_mem (State.mem_offer_self (s := s.arrived r stop kind revisit) ha (.inl hroom)) nofun

/-- The log entry of an arrival (R124). -/
def State.arrivalEntry (s : State) (r : Run) (stop : Nat) (kind : VisitKind) : LogEntry :=
  { runNumber := loByte r.id, stop, kind, departed := none, expected := s.expectedAt stop, heard := [], timer := .stopped }

theorem State.logArrival_getLast (s : State) (r : Run) (stop : Nat) (kind : VisitKind) :
    (s.logArrival r stop kind).getLast? = some (s.arrivalEntry r stop kind) := by
  unfold State.logArrival
  dsimp only
  split
  next h =>
    rw [List.getLast?_drop, if_neg (by omega), List.getLast?_concat]
    rfl
  · exact List.getLast?_concat

theorem ManifestEntry.outstanding_iff (e : ManifestEntry) : e.outstanding = true ↔ e.status ≠ .done := by
  simp [ManifestEntry.outstanding]

theorem State.mem_expectedAt (s : State) (stop a : Nat) :
    a ∈ s.expectedAt stop ↔
      a < 256 ∧ ∃ m ∈ s.planner.manifest, m.station = a ∧ m.stop = stop ∧ m.status ≠ .done := by
  simp [State.expectedAt, ManifestEntry.outstanding_iff, and_assoc]

/-! ## The close at the supermarket (R106, R110) -/

/-- The conditions for opening a run at a close (R106). -/
def State.opensAtClose (s : State) : Prop := s.isActive = true ∧ s.synced = true ∧ s.planner.planning = none

theorem State.closed_planner (s : State) (r : Run) :
    (s.closed r).planner = { s.planner with current := none, e := 0, closeTime := some s.start.clock } := by
  simp [State.closed]

theorem State.closed_rest (s : State) (r : Run) :
    (s.closed r).start = s.start ∧ (s.closed r).line = s.line ∧ (s.closed r).prof = s.prof ∧ (s.closed r).book = s.book := by
  simp [State.closed]

theorem State.closed_mayOpen {s : State} (hr : s.start.role = .train) (r : Run) :
    (s.closed r).mayOpen = true ↔ s.opensAtClose := by
  obtain ⟨hstart, hline, -, -⟩ := s.closed_rest r
  rw [State.mayOpen_iff, State.closed_planner, hstart, (State.guards_congr hstart).2.2.2.2.2, State.synced, hline]
  exact ⟨fun ⟨_, h1, h2, h3, _⟩ => ⟨h1, h2, h3⟩, fun ⟨h1, h2, h3⟩ => ⟨hr, h1, h2, h3, nofun⟩⟩

/-- What a close leaves of the planner and the book: a run opened where the conditions hold, and the rest. -/
theorem State.closeRun_planner {s : State} (hr : s.start.role = .train) (r : Run) :
    (s.opensAtClose → (s.closeRun r).planner =
        { s.planner with current := none, e := 0, closeTime := some s.start.clock,
                         planning := some s.openedRun, nextRun := s.planner.nextRun + 1 } ∧
        (s.closeRun r).book = { s.book with asked := true }) ∧
      (¬s.opensAtClose → (s.closeRun r).planner =
          { s.planner with current := none, e := 0, closeTime := some s.start.clock } ∧
        (s.closeRun r).book = s.book) := by
  have hopened : (s.closed r).openedRun = s.openedRun := by
    obtain ⟨hstart, -, hprof, -⟩ := s.closed_rest r
    simp only [State.openedRun, State.ownByte, hstart, hprof, State.closed_planner]
  rw [State.closeRun_eq]
  refine ⟨fun h => ?_, fun h => ?_⟩
  · rw [State.openRun_of_may ((State.closed_mayOpen hr r).mpr h)]
    simp only [State.announceAll_frame, State.opened, State.closed_planner, (s.closed_rest r).2.2.2, hopened, and_self]
  · have hnot : (s.closed r).mayOpen = false := by
      rw [Bool.eq_false_iff]; exact fun hm => h ((State.closed_mayOpen hr r).mp hm)
    rw [State.openRun_of_not hnot]
    simp only [State.announceAll_frame, State.closed_planner, (s.closed_rest r).2.2.2, and_self]

theorem State.closed_air (s : State) (r : Run) : (s.closed r).air = (s.announce r true).air := rfl

/-- At a close only the planning slot is left to announce. -/
theorem State.closeRun_announce (s : State) (r : Run) :
    s.closeRun r = (s.closed r).openRun.announceSlot (s.closeRun r).planner.planning := by
  have hplanner : (s.closeRun r).planner = (s.closed r).openRun.planner := by rw [State.closeRun_eq]; simp
  have hnone : (s.closed r).openRun.planner.current = none := by
    cases hm : (s.closed r).mayOpen
    · rw [State.openRun_of_not hm, State.closed_planner]
    · rw [State.openRun_of_may hm]
      exact congrArg Planner.current (s.closed_planner r)
  rw [hplanner, State.closeRun_eq, State.announceAll, hnone]
  rfl

theorem State.openRun_air (s : State) : s.openRun.air = s.air := by simp

theorem State.openRun_announces (s : State) : s.openRun.announces = s.announces :=
  State.announces_congr (by simp) (by simp)

theorem State.closed_announces (s : State) (r : Run) : (s.closed r).announces = s.announces :=
  State.announces_congr (s.closed_rest r).1 (s.closed_rest r).2.1

theorem bytes2_injective {v w : BitVec 16} (h : bytes2 v = bytes2 w) : v = w := by
  simp only [bytes2, List.cons.injEq, and_true] at h
  obtain ⟨hlo, hhi⟩ := h
  rw [← word_loByte_hiByte v, hlo, hhi, word_loByte_hiByte]

/-- With room the CLOSED notice waits in the queue, where the run of the planning slot is another. -/
theorem State.closeRun_mem_closed {s : State} (ha : s.announces = true)
    (hroom : s.air.txq.length < 8) {r : Run} (hother : ∀ x, (s.closeRun r).planner.planning = some x → x.id ≠ r.id) :
    ∃ f ∈ (s.closeRun r).air.txq, f.kind = .run ∧ f.payload.take 3 = bytes2 r.id ++ [6] := by
  have hmem : s.runFrame r true ∈ (s.closed r).openRun.air.txq := by
    rw [State.openRun_air, State.closed_air, State.announce, if_pos ha]
    exact State.mem_offer_self (State.isActive_of_announces ha) (.inl hroom)
  refine ⟨s.runFrame r true, ?_, rfl, rfl⟩
  rw [State.closeRun_announce s r]
  cases hp : (s.closeRun r).planner.planning with
  | none => exact hmem
  | some x =>
    refine ((s.closed r).openRun.announce_offers x false).mem_of_ne hmem fun g hg hk => ?_
    rw [hg] at hk
    have hid : bytes2 x.id = bytes2 r.id := by
      simpa [TxFrame.key, State.runFrame, writeRun, bytes2] using congrArg Prod.snd hk
    exact hother x hp (bytes2_injective hid)

/-- With room the run of the planning slot is announced at a close. -/
theorem State.closeRun_mem_planning {s : State} (ha : s.announces = true)
    (hroom : s.air.txq.length + 1 < 8) {r x : Run} (hx : (s.closeRun r).planner.planning = some x) :
    ∃ f ∈ (s.closeRun r).air.txq, f.kind = .run ∧ f.payload.take 2 = bytes2 x.id := by
  have hlen : (s.closed r).openRun.air.txq.length < 8 := by
    have h := (s.announce_offers_run r true).length_le
    rw [State.openRun_air, State.closed_air]
    omega
  rw [State.closeRun_announce s r, hx]
  exact State.announceSlot_run (by rw [State.openRun_announces, State.closed_announces, ha]) hlen

/-- A run opened by an event, or the planning slot as it stood, with the request to the book (R106). -/
structure State.runOpened (s t : State) : Prop where
  opens : s.opensAtClose → ∃ x, t.planner.planning = some x ∧ x.id = s.ownByte ++ s.planner.nextRun ∧
    x.state = .planning ∧ x.served = (s.prof.route.map fun _ => false) ∧ x.present = none ∧ x.opened = s.start.clock ∧
    t.planner.nextRun = s.planner.nextRun + 1
  stands : ¬s.opensAtClose → t.planner.planning = s.planner.planning ∧ t.planner.nextRun = s.planner.nextRun
  book : s.bookSettled = true → s.bookTakes t s.opensAtClose

/-- What a close reads of the state from which a departure may have led (R116). -/
structure State.closesAs (s w : State) : Prop where
  start : w.start = s.start
  line : w.line = s.line
  prof : w.prof = s.prof
  book : w.book = s.book
  planning : w.planner.planning = s.planner.planning
  nextRun : w.planner.nextRun = s.planner.nextRun

theorem State.closesAs.opens_iff {s w : State} (h : s.closesAs w) : w.opensAtClose ↔ s.opensAtClose := by
  simp only [State.opensAtClose, (State.guards_congr h.start).2.2.2.2.2, State.synced, h.line, h.planning]

theorem State.closesAs.openedRun {s w : State} (h : s.closesAs w) : w.openedRun = s.openedRun := by
  simp only [State.openedRun, State.ownByte, h.start, h.prof, h.nextRun]

theorem State.closeRun_runOpened {s w : State} (h : s.closesAs w) (hr : s.start.role = .train) (g : Run) :
    s.runOpened (w.closeRun g).endEvent := by
  obtain ⟨hopens, hstands⟩ := State.closeRun_planner (s := w) (h.start ▸ hr) g
  rw [h.opens_iff] at hopens hstands
  have hplanner : (w.closeRun g).endEvent.planner = (w.closeRun g).planner := by simp
  refine ⟨fun ho => ⟨s.openedRun, ?_⟩, fun ho => ?_, fun hb => State.bookTakes_endEvent hb ?_⟩
  · rw [hplanner, (hopens ho).1]
    exact ⟨congrArg some h.openedRun, rfl, rfl, rfl, rfl, rfl, congrArg (· + 1) h.nextRun⟩
  · rw [hplanner, (hstands ho).1]
    exact ⟨h.planning, h.nextRun⟩
  · obtain ⟨hasked, -⟩ := (s.bookSettled_iff).mp hb
    by_cases ho : s.opensAtClose
    · refine ⟨?_, ?_⟩ <;> rw [(hopens ho).2, h.book]
      · exact iff_of_true rfl ho
      · rw [← hasked]
    · exact State.requests.none hb ((hstands ho).2.trans h.book) ho

/-- The run of the planning slot after a close is another than the run closed. -/
theorem State.closeRun_other {s w : State} (h : s.closesAs w) (hr : s.start.role = .train) {g : Run}
    (hother : (∀ x, s.planner.planning = some x → x.id ≠ g.id) ∧ s.ownByte ++ s.planner.nextRun ≠ g.id) :
    ∀ x, (w.closeRun g).planner.planning = some x → x.id ≠ g.id := by
  obtain ⟨hopens, hstands⟩ := State.closeRun_planner (s := w) (h.start ▸ hr) g
  rw [h.opens_iff] at hopens hstands
  intro x hx
  by_cases ho : s.opensAtClose
  · rw [(hopens ho).1, h.openedRun] at hx
    cases hx
    exact hother.2
  · rw [(hstands ho).1] at hx
    exact hother.1 x (h.planning ▸ hx)

/-! ## The strobe, by the lead run's state (R103) -/

theorem State.strobeEnroute_close (s : State) (r : Run) : s.strobeEnroute r 0 = s.closeRun r := if_pos rfl

theorem State.strobeEnroute_arrives {s : State} {r : Run} {stop : Nat} (hstop : stop ≠ 0)
    (h : s.routeServed r stop = some false ∨ s.routeServed r stop = some true ∧ s.outstandingAt stop = true) :
    s.strobeEnroute r stop =
      s.arriveAt r stop (if s.routeServed r stop = some true then .revisit else .first)
        (s.routeServed r stop == some true) := by
  rw [State.strobeEnroute, if_neg hstop]
  rcases h with h | ⟨h, ho⟩
  · simp [h]
  · simp [h, ho]

theorem State.strobeEnroute_off {s : State} {r : Run} {stop : Nat} (hstop : stop ≠ 0)
    (h : s.routeServed r stop = none ∨ s.routeServed r stop = some true ∧ s.outstandingAt stop = false) :
    s.strobeEnroute r stop = s.offRoute stop := by
  rw [State.strobeEnroute, if_neg hstop]
  rcases h with h | ⟨h, ho⟩
  · simp [h]
  · simp [h, ho]

theorem State.strobeHeld_arrives {s : State} {stop : Nat} (ho : s.outstandingAt stop = true) (r : Run) :
    s.strobeHeld r stop = s.arriveAt r stop .detour (s.routeServed r stop == some true) := by
  have hserved : (s.routeServed r stop).getD false = (s.routeServed r stop == some true) := by
    rcases s.routeServed r stop with _ | _ | _ <;> rfl
  rw [State.strobeHeld, if_pos ho, hserved]

theorem State.strobeHeld_off {s : State} {stop : Nat} (ho : s.outstandingAt stop = false) (r : Run) :
    s.strobeHeld r stop = s.offRoute stop := by
  rw [State.strobeHeld, ho]
  rfl

theorem State.offRoute_panel (s : State) (stop : Nat) :
    (s.offRoute stop).panel = s.panel.raise s.start.clock .offroute stop 0 := rfl

/-- The strobe with the current run as lead. -/
theorem State.takeStrobe_current {s : State} {r : Run} (hc : s.planner.current = some r) (stop : Nat) :
    (r.state = .enroute → s.takeStrobe stop = s.strobeEnroute r stop) ∧
      (r.state = .held → s.takeStrobe stop = s.strobeHeld r stop) ∧
      (r.state = .planning ∨ r.state = .loading → s.takeStrobe stop = s) ∧
      (r.state = .atstop ∨ r.state = .detour →
        s.takeStrobe stop = (s.departPresent r r.afterStop).strobeAfterDeparture stop) := by
  rw [State.takeStrobe, Planner.lead_of_current hc]
  refine ⟨fun h => ?_, fun h => ?_, fun h => ?_, fun h => ?_⟩
  · simp [h]
  · simp [h]
  · rcases h with h | h <;> simp [h]
  · rcases h with h | h <;> simp [h, Run.afterStop]

/-- After the departure from a present stop the strobe acts on the run as the departure has left it (R116). -/
theorem State.strobeAfterDeparture_eq {s : State} {r : Run} {old : Nat} (hp : r.present = some old) (stop : Nat) :
    (r.state = .atstop → (s.departPresent r r.afterStop).strobeAfterDeparture stop =
        (s.departPresent r r.afterStop).strobeEnroute (s.departedRun r old r.afterStop) stop) ∧
      (r.state = .detour → (s.departPresent r r.afterStop).strobeAfterDeparture stop =
        (s.departPresent r r.afterStop).strobeHeld (s.departedRun r old r.afterStop) stop) := by
  have hcur : (s.departPresent r r.afterStop).planner.current = some (s.departedRun r old r.afterStop) := by
    rw [State.departPresent_planner hp]
  rw [State.strobeAfterDeparture, hcur]
  refine ⟨fun h => ?_, fun h => ?_⟩
  · have hafter : r.afterStop = .enroute := if_pos h
    rw [hafter]
    rfl
  · have hafter : r.afterStop = .held := if_neg (by rw [h]; decide)
    rw [hafter]
    rfl

theorem State.departPresent_closesAs (s : State) (r : Run) (next : RunState) :
    s.closesAs (s.departPresent r next) := by
  refine ⟨by simp, by simp, by simp, by simp, ?_, ?_⟩ <;> rcases hp : r.present with _ | old
  · rw [State.departPresent_of_none s next hp]
  · rw [State.departPresent_planner hp]
  · rw [State.departPresent_of_none s next hp]
  · rw [State.departPresent_planner hp]

end Sys2Proof.Machine
end

section
/-! PROOFS. The arrival strobe: its statement, case by case of the lead run's state (R103, R108 to R116). -/

namespace Sys2Proof.Machine

/-- The train with the accepted strobe of this event. -/
def State.strobed (s : State) : State := { s with planner.strobeIn := .accept true }

theorem State.strobe_of_code {s : State} {v : BitVec 5} (hv : s.planner.stopIn.acc = some v) :
    s.strobe = s.takeStrobe v.toNat := by
  have hcode : s.stopCode = (v, s) := by unfold State.stopCode; rw [hv]
  rw [State.strobe, hcode]

theorem exec_strobe {s : State} {v : BitVec 5} (hw : s.worksAs .train = true) (hv : s.planner.stopIn.acc = some v) :
    exec .arrivalStrobe s = .next (s.strobed.takeStrobe v.toNat).endEvent := by
  have hexec : exec .arrivalStrobe s = .next s.strobed.strobe.endEvent := congrArg _ (if_pos hw)
  rw [hexec, State.strobe_of_code (s := s.strobed) hv]

/-- An event that leaves the book of a settled station leaves it through its end. -/
theorem State.endEvent_book_of_settled {s t : State} (hb : s.bookSettled = true) (h : t.book = s.book) :
    t.endEvent.book = s.book :=
  (State.bookTakes_endEvent hb (State.requests.none hb h not_false)).2.2 not_false

/-- The frames that a strobe offers behind the DEPART are of other kinds. -/
theorem State.strobeAfterDeparture_offers (s : State) (stop : Nat) :
    s.Offers (ofKinds .arrive .run) 3 (s.strobeAfterDeparture stop) := by
  have hrun : ∀ {t : State} {n : Nat}, s.Offers (ofKind .run) n t → s.Offers (ofKinds .arrive .run) n t :=
    fun h => h.weaken fun f hf => .inr hf
  have hnone : ∀ {t : State}, t.air.txq = s.air.txq → t.start = s.start → s.Offers (ofKinds .arrive .run) 3 t :=
    fun hq hs => .none hq hs
  unfold State.strobeAfterDeparture
  split
  · split
    · unfold State.strobeEnroute
      split
      · exact hrun (s.closeRun_offers _)
      · split
        · exact s.arriveAt_offers ..
        · split
          · exact s.arriveAt_offers ..
          · exact hnone (by simp) (by simp)
        · exact hnone (by simp) (by simp)
    · unfold State.strobeHeld
      split
      · exact s.arriveAt_offers ..
      · exact hnone (by simp) (by simp)
    · exact hnone rfl rfl
  · exact hnone rfl rfl

/-- A strobe with no current run and the PLANNING run as lead, or with no run, does nothing. -/
theorem State.takeStrobe_idle {s : State} (hc : s.planner.current = none)
    (hp : ∀ x, s.planner.planning = some x → x.state = .planning) (stop : Nat) : s.takeStrobe stop = s := by
  rw [State.takeStrobe, Planner.lead, hc, Option.none_or]
  cases hx : s.planner.planning with
  | none => rfl
  | some x => simp [hp x hx]

/-- The book of a strobe that closes no run. -/
theorem State.takeStrobe_book {s : State} {r : Run} {stop : Nat} (hc : s.planner.current = some r)
    (h : ¬((r.state = .enroute ∨ r.state = .atstop) ∧ stop = 0)) : (s.takeStrobe stop).book = s.book := by
  have henroute : ∀ (t : State) (g : Run), stop ≠ 0 → (t.strobeEnroute g stop).book = t.book := fun t g hs => by
    rw [State.strobeEnroute, if_neg hs]
    split
    · simp
    · split <;> simp
    · simp
  obtain ⟨he, hh, hl, hd⟩ := State.takeStrobe_current hc stop
  cases hst : r.state
  case enroute => rw [he hst]; exact henroute s r fun h0 => h ⟨.inl hst, h0⟩
  case held => rw [hh hst]; simp
  case planning => rw [hl (.inl hst)]
  case loading => rw [hl (.inr hst)]
  case atstop =>
    have hdep := (s.departPresent_closesAs r r.afterStop).book
    rw [hd (.inl hst)]
    have h0 : stop ≠ 0 := fun h0 => h ⟨.inr hst, h0⟩
    unfold State.strobeAfterDeparture
    split
    · split
      · rw [henroute _ _ h0, hdep]
      · rw [← hdep]; simp
      · exact hdep
    · exact hdep
  case detour =>
    have hdep := (s.departPresent_closesAs r r.afterStop).book
    rw [hd (.inr hst)]
    rcases hp : r.present with _ | old
    · rw [State.departPresent_of_none s _ hp, State.strobeAfterDeparture, hc]
      simp [hst]
    · rw [(State.strobeAfterDeparture_eq hp stop).2 hst, ← hdep]
      simp

/-! ## Arrivals by their fields -/

/-- An arrival on the route: the run is ATSTOP, E is at least the travel time, the log has its entry, and the ARRIVE is
queued. -/
theorem State.strobeEnroute_arrival {s : State} {g : Run} {stop : Nat} (hstop : stop ≠ 0)
    (h : s.routeServed g stop = some false ∨ s.routeServed g stop = some true ∧ s.outstandingAt stop = true) :
    (s.strobeEnroute g stop).planner = { s.planner with
        current := some { g with state := .atstop, present := some stop, revisit := s.routeServed g stop == some true }
        e := max s.planner.e (s.travelTo stop)
        log := s.logArrival g stop (if s.routeServed g stop = some true then .revisit else .first) } ∧
      (s.strobeEnroute g stop).panel.stopIx = 1 ∧
      (s.isActive = true → s.air.txq.length < 8 →
        ⟨.arrive, writeArrive ⟨g.id, stop, false, s.routeServed g stop == some true⟩⟩ ∈
          (s.strobeEnroute g stop).air.txq) := by
  rw [State.strobeEnroute_arrives hstop h]
  generalize hk : (if s.routeServed g stop = some true then VisitKind.revisit else .first) = kind
  have hkind : kind ≠ .detour := by rw [← hk]; split <;> decide
  obtain ⟨hplanner, hpanel⟩ := s.arriveAt_rest g stop kind (s.routeServed g stop == some true)
  refine ⟨?_, by rw [hpanel]; rfl, fun ha hroom => ?_⟩
  · rw [hplanner]
    simp only [State.arrived, hkind, if_false]
  · have hmem := State.arriveAt_mem ha hroom g stop kind (s.routeServed g stop == some true)
    simpa only [arriveFrame, hkind, decide_false] using hmem

/-- An arrival on a detour: the run is at DETOUR with E kept, the log has its entry, and the ARRIVE is queued. -/
theorem State.strobeHeld_arrival {s : State} {stop : Nat} (ho : s.outstandingAt stop = true) (g : Run) :
    (s.strobeHeld g stop).planner = { s.planner with
        current := some { g with state := .detour, present := some stop, revisit := s.routeServed g stop == some true }
        log := s.logArrival g stop .detour } ∧
      (s.strobeHeld g stop).panel.stopIx = 1 ∧
      (s.isActive = true → s.air.txq.length < 8 →
        ⟨.arrive, writeArrive ⟨g.id, stop, true, s.routeServed g stop == some true⟩⟩ ∈ (s.strobeHeld g stop).air.txq) := by
  rw [State.strobeHeld_arrives ho]
  obtain ⟨hplanner, hpanel⟩ := s.arriveAt_rest g stop .detour (s.routeServed g stop == some true)
  exact ⟨hplanner, by rw [hpanel]; rfl, fun ha hroom =>
    State.arriveAt_mem ha hroom g stop .detour (s.routeServed g stop == some true)⟩

/-- A close: the slot is empty, E is 0 and the close is timed. -/
theorem State.closeRun_fields {s : State} (hr : s.start.role = .train) (g : Run) :
    (s.closeRun g).planner.current = none ∧ (s.closeRun g).planner.e = 0 ∧
      (s.closeRun g).planner.closeTime = some s.start.clock ∧ (s.closeRun g).planner.manifest = s.planner.manifest ∧
      (s.closeRun g).planner.log = s.planner.log := by
  obtain ⟨hopens, hstands⟩ := State.closeRun_planner hr g
  by_cases ho : s.opensAtClose
  · rw [(hopens ho).1]; exact ⟨rfl, rfl, rfl, rfl, rfl⟩
  · rw [(hstands ho).1]; exact ⟨rfl, rfl, rfl, rfl, rfl⟩

/-! ## At a present stop (R116) -/

theorem State.departPresent_length {s : State} {r : Run} {old : Nat} (hp : r.present = some old) (next : RunState) :
    (s.departPresent r next).air.txq.length ≤ s.air.txq.length + 3 ∧
      (s.planner.planning = none → (s.departPresent r next).air.txq.length ≤ s.air.txq.length + 2) := by
  refine ⟨(s.departPresent_offers r next).length_le, fun hn => ?_⟩
  rw [State.departPresent_eq hp]
  have hdep := (s.departed_offers r old next).length_le
  have hplan : (s.departed r old next).planner.planning = none := hn
  have hone : (s.departed r old next).announceAll = (s.departed r old next).announceSlot (s.departed r old next).planner.current := by
    rw [State.announceAll, hplan]; rfl
  have hslot := ((s.departed r old next).announceSlot_offers (s.departed r old next).planner.current).length_le
  rw [hone]
  omega

/-- What a strobe reads of the profile and the manifest stands in a departure. -/
theorem State.departPresent_reads {s : State} {r : Run} {old : Nat} (hp : r.present = some old) (next : RunState) :
    (∀ g stop, (s.departPresent r next).routeServed g stop = s.routeServed g stop) ∧
      (∀ stop, (s.departPresent r next).outstandingAt stop = s.outstandingAt stop) ∧
      (∀ stop, (s.departPresent r next).travelTo stop = s.travelTo stop) := by
  have hprof := (s.departPresent_closesAs r next).prof
  refine ⟨fun g stop => by simp only [State.routeServed, State.routeIx, hprof], fun stop => ?_,
    fun stop => by simp only [State.travelTo, hprof]⟩
  rw [State.outstandingAt, State.departPresent_planner hp]
  rfl

/-- With room the DEPART waits in the queue after the strobe. -/
theorem State.takeStrobe_mem_depart {s : State} {r : Run} {old : Nat} (hc : s.planner.current = some r)
    (hst : r.state = .atstop ∨ r.state = .detour) (hp : r.present = some old) (ha : s.isActive = true)
    (hroom : s.air.txq.length < 8) (stop : Nat) : departFrame r old ∈ (s.takeStrobe stop).air.txq := by
  rw [(State.takeStrobe_current hc stop).2.2.2 hst]
  have hdep : departFrame r old ∈ (s.departPresent r r.afterStop).air.txq := by
    rw [State.departPresent_eq hp]
    exact State.announceAll_mem (State.departed_mem ha hroom r old _) nofun
  refine (State.strobeAfterDeparture_offers _ stop).mem_of_ne hdep fun f hf => TxFrame.key_ne_of_kind ?_
  rcases hf with hf | hf <;> rw [hf] <;> exact nofun

/-- At the close after a departure the run of the planning slot is announced, with room for four frames. -/
theorem State.closeAfterDeparture_mem_planning {s : State} {r g x : Run} {old : Nat} {next : RunState}
    (hp : r.present = some old) (hr : s.start.role = .train) (ha : s.announces = true) (hroom : s.air.txq.length + 4 ≤ 8)
    (hx : ((s.departPresent r next).closeRun g).planner.planning = some x) :
    ∃ f ∈ ((s.departPresent r next).closeRun g).air.txq, f.kind = .run ∧ f.payload.take 2 = bytes2 x.id := by
  have hcl := s.departPresent_closesAs r next
  have hann : (s.departPresent r next).announces = true := (State.announces_congr hcl.start hcl.line).trans ha
  obtain ⟨-, hshort⟩ := State.departPresent_length (s := s) hp next
  cases hplan : s.planner.planning with
  | none => exact State.closeRun_mem_planning hann (by have := hshort hplan; omega) hx
  | some y =>
    have hy : y = x := by
      have hnot : ¬(s.departPresent r next).opensAtClose := fun h => by
        have hnone := h.2.2
        rw [hcl.planning, hplan] at hnone
        cases hnone
      rw [((State.closeRun_planner (hcl.start ▸ hr) g).2 hnot).1] at hx
      exact Option.some.inj ((hcl.planning.trans hplan).symm.trans hx)
    subst hy
    refine ((s.departPresent r next).closeRun_offers g).run_mem ?_
    rw [State.departPresent_eq hp]
    have hlen := (s.departed_offers r old next).length_le
    obtain ⟨f, hf, hk, hid⟩ := State.announceAll_mem_planning (s := s.departed r old next) (r := y)
      ((State.announces_congr (s := s) (by simp [State.departed]) (by simp [State.departed])).trans ha) hplan (by
        rw [show (s.departed r old next).planner.current.toList.length = 1 from rfl]; omega)
    refine ⟨f, hf, hk, ?_⟩
    have htwo := congrArg (List.take 2) hid
    simpa [List.take_take, bytes2] using htwo

/-- Settles O41: the strobe by the lead run's state; at a present stop the departure first, then the strobe as it acts in
the state that the departure leaves. -/
theorem strobeArrivesAtStop : Obligations.StrobeArrivesAtStop := by
  refine ⟨fun s v hw hv hc hp => ?_, fun s r v hw hv hc => ?_⟩
  · have hexec := exec_strobe hw hv
    rw [State.takeStrobe_idle (s := s.strobed) hc hp] at hexec
    refine ⟨_, hexec, by simp [State.strobed]; rfl, by simp [State.strobed], by simp [State.strobed], by simp [State.strobed],
      fun hb => State.endEvent_book_of_settled hb rfl, by simp [State.strobed], by simp [State.strobed], by simp [State.strobed]⟩
  · have hexec := exec_strobe hw hv
    have hrole : s.start.role = .train := State.role_of_worksAs hw
    obtain ⟨henroute, hheld, hidle, hdeparts⟩ := State.takeStrobe_current (s := s.strobed) hc v.toNat
    have hbook := State.takeStrobe_book (s := s.strobed) (stop := v.toNat) hc
    have hframe := (s.strobed.takeStrobe v.toNat).endEvent_frame
    have hentries : (s.strobed.takeStrobe v.toNat).endEvent.book.entries = s.book.entries := by
      have hone := s.strobed.strobe_entries
      rw [(State.endEvent_book _).1, ← State.strobe_of_code (s := s.strobed) hv, hone]
      rfl
    intro stop off arrive room opens opened other
    obtain ⟨hstart, hprof, -, hair, hline, -, -, -, -, hplanner, hpanel, -, -⟩ := hframe
    have hann : ∀ {n}, room n → s.synced = true → s.strobed.announces = true := fun hr hs =>
      Bool.and_eq_true_iff.mpr ⟨hr.1, hs⟩
    refine ⟨_, hexec, fun hst h0 hserved => ?_, fun hst h0 hserved => ?_, fun hst h0 => ?_, fun hst ho => ?_, fun hst ho => ?_,
      fun hst => ?_, fun hb hno => State.endEvent_book_of_settled hb (hbook hno), fun old hst hp => ?_, ?_, ?_, ?_, hentries⟩
    · obtain ⟨hplan, hpan, hmem⟩ := State.strobeEnroute_arrival (s := s.strobed) h0 hserved
      rw [hplanner, hpanel, hair, henroute hst, hplan]
      exact ⟨rfl, rfl, hpan, fun hroom => hmem hroom.1 hroom.2, s.strobed.arrivalEntry r stop _,
        State.logArrival_getLast .., rfl, rfl, rfl, rfl, fun a => s.strobed.mem_expectedAt stop a⟩
    · rw [hplanner, hpanel, hair, henroute hst, State.strobeEnroute_off (s := s.strobed) h0 hserved]
      exact ⟨⟨rfl, rfl⟩, rfl⟩
    · have htake : s.strobed.takeStrobe stop = s.strobed.closeRun r := by
        rw [henroute hst, show v.toNat = 0 from h0, State.strobeEnroute_close]
      have hcl : s.closesAs s.strobed := ⟨rfl, rfl, rfl, rfl, rfl, rfl⟩
      obtain ⟨hcur, he, htime, hman, hlog⟩ := State.closeRun_fields (s := s.strobed) hrole r
      have hopen := State.closeRun_runOpened hcl hrole r
      rw [hplanner, hair, htake]
      refine ⟨hcur, he, htime, hman, hlog, ⟨hopen.opens, hopen.stands, hopen.book, fun hr4 hs x hx => ?_⟩, fun hr1 hs ho => ?_⟩
      · rw [(State.endEvent_frame _).2.2.2.2.2.2.2.2.2.1] at hx
        rw [(State.endEvent_frame _).2.2.2.1]
        exact State.closeRun_mem_planning (hann hr4 hs) (by have := hr4.2; exact (by omega : s.air.txq.length + 1 < 8)) hx
      · exact State.closeRun_mem_closed (hann hr1 hs) hr1.2 (State.closeRun_other hcl hrole ho)
    · obtain ⟨hplan, hpan, hmem⟩ := State.strobeHeld_arrival (s := s.strobed) ho r
      rw [hplanner, hpanel, hair, hheld hst, hplan]
      exact ⟨rfl, rfl, hpan, fun hroom => hmem hroom.1 hroom.2, s.strobed.arrivalEntry r stop _,
        State.logArrival_getLast .., rfl, rfl, rfl⟩
    · rw [hplanner, hpanel, hair, hheld hst, State.strobeHeld_off (s := s.strobed) ho]
      exact ⟨⟨rfl, rfl⟩, rfl⟩
    · rw [hplanner, hpanel, hair, hidle hst]
      exact ⟨rfl, rfl, rfl⟩
    · intro gone here
      have hgone : s.strobed.departedRun r old r.afterStop = gone := by
        have hix : s.strobed.routeIx old = s.routeIx old := rfl
        rcases hst with h | h <;> cases hi : s.routeIx old <;>
          simp [State.departedRun, State.setServed, Run.afterStop, gone, h, hix, hi]
      obtain ⟨hat, hdet⟩ := State.strobeAfterDeparture_eq (s := s.strobed) hp stop
      have hcl : s.closesAs (s.strobed.departPresent r r.afterStop) := by
        obtain ⟨h1, h2, h3, h4, h5, h6⟩ := s.strobed.departPresent_closesAs r r.afterStop
        exact ⟨h1, h2, h3, h4, h5, h6⟩
      have hwplan := State.departPresent_planner (s := s.strobed) (next := r.afterStop) hp
      have hwpanel : (s.strobed.departPresent r r.afterStop).panel = s.panel := by simp [State.strobed]
      obtain ⟨hserved, hout, htravel⟩ := State.departPresent_reads (s := s.strobed) hp r.afterStop
      obtain ⟨hlen, -⟩ := State.departPresent_length (s := s.strobed) hp r.afterStop
      rw [hgone] at hat hdet hwplan
      have htake := hdeparts hst
      have hid : gone.id = r.id := rfl
      have hact : (s.strobed.departPresent r r.afterStop).isActive = s.isActive := (State.guards_congr hcl.start).2.2.2.2.2
      clear_value gone
      generalize hw' : s.strobed.departPresent r r.afterStop = w at *
      refine ⟨fun hr1 => ?_, fun h h0 hs => ?_, fun h h0 hs => ?_, fun h h0 => ?_, fun h ho => ?_, fun h ho => ?_⟩
      · rw [hair]
        exact State.takeStrobe_mem_depart (s := s.strobed) hc hst hp hr1.1 hr1.2 stop
      · have hs' : w.routeServed gone stop = some false ∨ w.routeServed gone stop = some true ∧ w.outstandingAt stop = true := by
          rw [hserved, hout]; exact hs
        obtain ⟨hplan, hpan, hmem⟩ := State.strobeEnroute_arrival h0 hs'
        rw [hplanner, hpanel, hair, htake, hat h, hplan, hserved, htravel, hwplan]
        refine ⟨rfl, rfl, hpan, fun hr4 => ?_⟩
        have harr := hmem (hact.trans hr4.1) (hlen.trans_lt hr4.2)
        rw [hserved, hid] at harr
        exact harr
      · have hs' : w.routeServed gone stop = none ∨ w.routeServed gone stop = some true ∧ w.outstandingAt stop = false := by
          rw [hserved, hout]; exact hs
        rw [hplanner, hpanel, htake, hat h, State.strobeEnroute_off h0 hs', State.offRoute_panel, hwpanel, hcl.start,
          (w.offRoute_frame stop).2.2.2.2.2.2.2.2.2.2.2.1, hwplan]
        exact ⟨rfl, rfl, rfl⟩
      · have hclose : w.strobeEnroute gone stop = w.closeRun gone := by
          rw [show stop = 0 from h0, State.strobeEnroute_close]
        obtain ⟨hcur, he, htime, -, -⟩ := State.closeRun_fields (s := w) (hcl.start ▸ hrole) gone
        have hopen := State.closeRun_runOpened hcl hrole gone
        rw [hplanner, hair, htake, hat h, hclose]
        refine ⟨hcur, he, by rw [htime, hcl.start], ⟨hopen.opens, hopen.stands, hopen.book, fun hr4 hs x hx => ?_⟩,
          fun hr4 hs ho => ?_⟩
        · rw [(State.endEvent_frame _).2.2.2.2.2.2.2.2.2.1] at hx
          rw [(State.endEvent_frame _).2.2.2.1]
          subst hw'
          exact State.closeAfterDeparture_mem_planning hp hrole (hann hr4 hs) hr4.2 hx
        · have hwann : w.announces = true := (State.announces_congr hcl.start hcl.line).trans (hann hr4 hs)
          have hmem := State.closeRun_mem_closed (r := gone) hwann (hlen.trans_lt hr4.2)
            (State.closeRun_other hcl hrole (by rw [hid]; exact ho))
          rwa [hid] at hmem
      · obtain ⟨hplan, hpan, hmem⟩ := State.strobeHeld_arrival (s := w) (by rw [hout]; exact ho) gone
        rw [hplanner, hpanel, hair, htake, hdet h, hplan, hserved, hwplan]
        refine ⟨rfl, rfl, hpan, fun hr4 => ?_⟩
        have harr := hmem (hact.trans hr4.1) (hlen.trans_lt hr4.2)
        rw [hserved, hid] at harr
        exact harr
      · rw [hplanner, hpanel, htake, hdet h, State.strobeHeld_off (s := w) (by rw [hout]; exact ho), State.offRoute_panel,
          hwpanel, hcl.start, (w.offRoute_frame stop).2.2.2.2.2.2.2.2.2.2.2.1, hwplan]
        exact ⟨rfl, rfl, rfl⟩
    · rw [hline]; simp [State.strobed]
    · rw [hstart]; simp [State.strobed]
    · rw [hprof]; simp [State.strobed]

end Sys2Proof.Machine
end

section
/-! PROOFS. The work of a book operation, step by step: replacement, insertion and eviction, the choice of a run, refresh and
migration (R83 to R96). -/

namespace Sys2Proof.Machine

/-! ## The first valid item for each lane (R83) -/

theorem exists_mem_firstPerLane (items : List ClaimItem) (k : Nat) :
    (∃ x ∈ firstPerLane items, x.lane = k) ↔ ∃ x ∈ items, x.lane = k := by
  induction items using List.reverseRecOn with
  | nil => exact Iff.rfl
  | append_singleton items d ih =>
    rw [firstPerLane_append]
    split
    next hany =>
      obtain ⟨y, hy, hyd⟩ := List.any_eq_true.mp hany
      rw [ih]
      constructor
      · rintro ⟨x, hx, hk⟩
        exact ⟨x, List.mem_append_left _ hx, hk⟩
      · rintro ⟨x, hx, hk⟩
        rcases List.mem_append.mp hx with hx | hx
        · exact ⟨x, hx, hk⟩
        · rw [List.mem_singleton.mp hx] at hk
          exact ih.mp ⟨y, hy, (by simpa using hyd : y.lane = d.lane).trans hk⟩
    · simp only [List.mem_append, List.mem_singleton, or_and_right, exists_or, ih]

theorem mem_firstPerLane (items : List ClaimItem) (c : ClaimItem) :
    c ∈ firstPerLane items ↔ (items.find? fun x => x.lane == c.lane) = some c := by
  induction items using List.reverseRecOn with
  | nil => simp [firstPerLane]
  | append_singleton items d ih =>
    have hfound : (items.find? fun x => x.lane == c.lane).isSome = true ↔ ∃ x ∈ items, x.lane = c.lane := by
      simp
    rw [firstPerLane_append, List.find?_append]
    by_cases hany : (firstPerLane items).any (fun x => x.lane == d.lane) = true
    · rw [if_pos hany, ih]
      cases hf : items.find? fun x => x.lane == c.lane with
      | some y => rfl
      | none =>
        rw [hf] at hfound
        have hd : d.lane ≠ c.lane := fun hd => by
          obtain ⟨y, hy, hyd⟩ := List.any_eq_true.mp hany
          have := hfound.mpr ((exists_mem_firstPerLane items c.lane).mp ⟨y, hy, (by simpa using hyd : y.lane = d.lane).trans hd⟩)
          cases this
        simp [hd]
    · rw [if_neg hany, List.mem_append, List.mem_singleton, ih]
      cases hf : items.find? fun x => x.lane == c.lane with
      | some y =>
        have hy := List.find?_some hf
        have hmem := List.mem_of_find?_eq_some hf
        simp only [Option.some_or, Option.some.injEq, or_iff_left_iff_imp]
        rintro rfl
        exfalso
        obtain ⟨x, hx, hk⟩ := (exists_mem_firstPerLane items c.lane).mpr ⟨y, hmem, by simpa using hy⟩
        exact hany (List.any_eq_true.mpr ⟨x, hx, by simpa using hk⟩)
      | none =>
        simp only [Option.none_or, reduceCtorEq, false_or]
        constructor
        · rintro rfl; simp
        · intro h
          exact (List.mem_singleton.mp (List.mem_of_find?_eq_some h)).symm ▸ rfl

theorem firstPerLane_length_le (items : List ClaimItem) : (firstPerLane items).length ≤ items.length := by
  induction items using List.reverseRecOn with
  | nil => exact le_rfl
  | append_singleton items d ih =>
    rw [firstPerLane_append, List.length_append, List.length_singleton]
    split
    · omega
    · rw [List.length_append, List.length_singleton]; omega

/-- A claim item that the replacement takes: the first valid one of its lane, on a run in scope. -/
def BookOp.takes (op : BookOp) (role : Role) (cs : ClaimSet) (c : ClaimItem) : Prop :=
  (cs.items.find? fun x => x.valid && x.lane == c.lane) = some c ∧ op.inScope role c.run = true

theorem BookOp.mem_takenItems (op : BookOp) (role : Role) (cs : ClaimSet) (c : ClaimItem) :
    c ∈ (firstPerLane (cs.items.filter ClaimItem.valid)).filter (fun c => op.inScope role c.run) ↔
      op.takes role cs c := by
  rw [List.mem_filter, mem_firstPerLane, List.find?_filter]
  simp only [BookOp.takes, Bool.decide_and, Bool.decide_eq_true]

theorem BookOp.mem_claimsInScope (op : BookOp) (role : Role) (cs : ClaimSet) (e : Entry) :
    e ∈ op.claimsInScope role cs ↔ ∃ c, op.takes role cs c ∧ peerEntry cs.sender c = some e := by
  have hperm := sortEntries_perm op.n
    (((firstPerLane (cs.items.filter ClaimItem.valid)).filter fun c => op.inScope role c.run).filterMap (peerEntry cs.sender))
  refine hperm.mem_iff.trans (List.mem_filterMap.trans ?_)
  simp only [BookOp.mem_takenItems]

theorem BookOp.takes.mem {op : BookOp} {role : Role} {cs : ClaimSet} {c : ClaimItem} (h : op.takes role cs c) :
    c ∈ cs.items := List.mem_of_find?_eq_some h.1

/-- An item taken is valid, so it stands for an entry. -/
theorem BookOp.takes.entry {op : BookOp} {role : Role} {cs : ClaimSet} {c : ClaimItem} (h : op.takes role cs c) :
    ∃ e, peerEntry cs.sender c = some e := by
  have hvalid := List.find?_some h.1
  simp only [Bool.and_eq_true, ClaimItem.valid, decide_eq_true_eq] at hvalid
  exact ⟨_, dif_pos hvalid.1.1⟩

theorem BookOp.claimsInScope_length_le (op : BookOp) (role : Role) (cs : ClaimSet) :
    (op.claimsInScope role cs).length ≤ cs.items.length := by
  unfold BookOp.claimsInScope
  rw [(sortEntries_perm ..).length_eq]
  exact (List.length_filterMap_le ..).trans ((List.length_filter_le ..).trans
    ((firstPerLane_length_le _).trans (List.length_filter_le ..)))

theorem insertPeers_mem {cap : Nat} {n : LineCount} (es : List Entry) {w : Work} {x : Entry}
    (h : x ∈ (es.foldl (insertPeer cap n) w).entries) : x ∈ es ∨ x ∈ w.entries := by
  induction es generalizing w with
  | nil => exact .inr h
  | cons e es ih =>
    rcases ih h with hx | hx
    · exact .inl (List.mem_cons_of_mem e hx)
    · exact (insertPeer_mem hx).imp_left fun he => by rw [he]; exact List.mem_cons_self

/-- With room for all of them the claims join the book one after another. -/
theorem insertPeers_of_room {cap : Nat} (n : LineCount) (es : List Entry) (w : Work)
    (h : w.entries.length + es.length ≤ cap) : es.foldl (insertPeer cap n) w = ⟨w.entries ++ es, w.full⟩ := by
  induction es generalizing w with
  | nil => simp
  | cons e es ih =>
    rw [List.length_cons] at h
    rw [List.foldl_cons, insertPeer_of_room (by omega), ih _ (by simp only [List.length_append, List.length_singleton]; omega)]
    simp

theorem BookOp.replaceSender_of_claimset {op : BookOp} {cs : ClaimSet} (h : op.claimset = some cs) (role : Role) (w : Work) :
    op.replaceSender role w = (op.claimsInScope role cs).foldl (insertPeer role.bookCapacity op.n)
      ⟨w.entries.filter fun e => e.station != cs.sender, w.full⟩ := by
  rw [BookOp.replaceSender, h]

/-! ## Insertion into a full book (R85) -/

theorem keyLt_eq_not (x y : Int × Nat × Nat) : keyLt x y = !keyLe y x := rfl

/-- Into a full book with a peer entry an own entry takes the place of the largest one, and a peer's claim does so too where
its key is smaller. -/
theorem insert_of_full {cap : Nat} {w : Work} (n : LineCount) (e : Entry) (h : cap ≤ w.entries.length)
    (hpeer : ∃ x ∈ w.entries, x.own = false) :
    ∃ out ∈ w.entries, out.own = false ∧ (∀ x ∈ w.entries, x.own = false → keyLe (x.key n) (out.key n) = true) ∧
      insertOwn cap n w e = ⟨removeEntry w.entries out ++ [e], w.full + 1⟩ ∧
      insertPeer cap n w e = if keyLe (out.key n) (e.key n) then ⟨w.entries, w.full + 1⟩
        else ⟨removeEntry w.entries out ++ [e], w.full + 1⟩ := by
  obtain ⟨out, hmem, hlargest, hown, hmax⟩ := largestPeer_of_peer (n := n) hpeer
  refine ⟨out, hmem, hown, hmax, insertOwn_of_full h hlargest e, ?_⟩
  rw [insertPeer_of_full h hlargest, keyLt_eq_not]
  cases keyLe (out.key n) (e.key n) <;> rfl

/-! ## The choice of a run (R53, R90, R92) -/

theorem meetsDeadline_iff (stop : Option StopEntry) (rref : Option LineCount) (safety : Nat) :
    meetsDeadline stop rref safety = true ↔
      ∃ e f, stop = some e ∧ rref = some f ∧ after e.eta (f - BitVec.ofNat 16 safety) = false := by
  cases stop <;> cases rref <;> simp [meetsDeadline]

theorem State.mem_candidates (s : State) (op : BookOp) (l : LaneIx) (r : RunRec) :
    r ∈ s.candidates op l ↔ r ∈ op.runs ∧ r.state = .planning ∧ (r.stopOf (bankOf l)).isSome = true ∧
      0 < copyOf s.book.copies r.id (s.lane l).cfg.cls := by
  unfold State.candidates
  rw [List.mem_insertionSort, List.mem_filter]
  simp only [Bool.and_eq_true, beq_iff_eq, decide_eq_true_eq, and_assoc]

theorem State.candidates_pairwise (s : State) (op : BookOp) (l : LaneIx) :
    (s.candidates op l).Pairwise (candidateOrder op (bankOf l)) := by
  have htotal : Std.Total (candidateOrder op (bankOf l)) := ⟨fun a b => keyLe_total _ _⟩
  have htrans : IsTrans RunRec (candidateOrder op (bankOf l)) := ⟨fun a b c => keyLe_trans⟩
  exact List.pairwise_insertionSort _ _

/-- The first element of an ordered list with a property comes before every other with it. -/
theorem find?_first {α : Type} {r : α → α → Prop} {p : α → Bool} {xs : List α} {x : α} (h : xs.Pairwise r)
    (hrefl : ∀ a, r a a) (hf : xs.find? p = some x) : x ∈ xs ∧ p x = true ∧ ∀ y ∈ xs, p y = true → r x y := by
  obtain ⟨hp, as, bs, rfl, has⟩ := List.find?_eq_some_iff_append.mp hf
  refine ⟨by simp, hp, fun y hy hpy => ?_⟩
  rw [List.pairwise_append, List.pairwise_cons] at h
  obtain ⟨-, ⟨hxb, -⟩, -⟩ := h
  rcases List.mem_append.mp hy with hy | hy
  · have := has y hy
    simp [hpy] at this
  · rcases List.mem_cons.mp hy with rfl | hy
    · exact hrefl y
    · exact hxb y hy

/-- The earliest candidate with a property, by the arrival at the bank, then by the run id (R90). -/
def State.earliest (s : State) (op : BookOp) (l : LaneIx) (p : RunRec → Bool) (id : RunId) : Prop :=
  ∃ r ∈ s.candidates op l, p r = true ∧ r.id = id ∧ ∀ x ∈ s.candidates op l, p x = true → candidateOrder op (bankOf l) r x

theorem State.earliest_of_find {s : State} {op : BookOp} {l : LaneIx} {p : RunRec → Bool} {r : RunRec}
    (h : (s.candidates op l).find? p = some r) : s.earliest op l p r.id := by
  obtain ⟨hmem, hp, hfirst⟩ := find?_first (s.candidates_pairwise op l) (fun a => keyLe_refl _) h
  exact ⟨r, hmem, hp, rfl, hfirst⟩

/-- A run that meets the deadline and would be admitted. -/
def State.suits (s : State) (op : BookOp) (w : Work) (l : LaneIx) (r : RunRec) : Bool :=
  s.opMeets op l r && s.wouldAdmit op w l r.id

theorem State.chooseRun_cases (s : State) (op : BookOp) (w : Work) (l : LaneIx) :
    (s.chooseRun op w l = none ↔ s.candidates op l = []) ∧
      ∀ id late, s.chooseRun op w l = some (id, late) →
        ((∃ r ∈ s.candidates op l, s.suits op w l r = true) → late = false ∧ s.earliest op l (s.suits op w l) id) ∧
        ((¬∃ r ∈ s.candidates op l, s.suits op w l r = true) → (∃ r ∈ s.candidates op l, s.opMeets op l r = true) →
          late = false ∧ s.earliest op l (s.opMeets op l) id) ∧
        ((¬∃ r ∈ s.candidates op l, s.opMeets op l r = true) → late = true ∧ s.earliest op l (fun _ => true) id) := by
  have hchoose : s.chooseRun op w l = match (s.candidates op l).find? (s.suits op w l) with
      | some r => some (r.id, false)
      | none => match (s.candidates op l).find? (s.opMeets op l) with
        | some r => some (r.id, false)
        | none => (s.candidates op l).head?.map fun r => (r.id, true) := rfl
  rw [hchoose]
  cases hsuit : (s.candidates op l).find? (s.suits op w l) with
  | some r =>
    have hmem := List.mem_of_find?_eq_some hsuit
    have hr := List.find?_some hsuit
    refine ⟨iff_of_false nofun (List.ne_nil_of_mem hmem), ?_⟩
    rintro id late ⟨⟩
    have hmeets : s.opMeets op l r = true := (Bool.and_eq_true_iff.mp hr).1
    exact ⟨fun _ => ⟨rfl, State.earliest_of_find hsuit⟩, fun hn => absurd ⟨r, hmem, hr⟩ hn, fun hn => absurd ⟨r, hmem, hmeets⟩ hn⟩
  | none =>
    have hnone : ¬∃ r ∈ s.candidates op l, s.suits op w l r = true := fun ⟨r, hr, h⟩ =>
      List.find?_eq_none.mp hsuit r hr h
    dsimp only
    cases hmeet : (s.candidates op l).find? (s.opMeets op l) with
    | some r =>
      have hmem := List.mem_of_find?_eq_some hmeet
      refine ⟨iff_of_false nofun (List.ne_nil_of_mem hmem), ?_⟩
      rintro id late ⟨⟩
      exact ⟨fun h => absurd h hnone, fun _ _ => ⟨rfl, State.earliest_of_find hmeet⟩,
        fun hn => absurd ⟨r, hmem, List.find?_some hmeet⟩ hn⟩
    | none =>
      have hnone' : ¬∃ r ∈ s.candidates op l, s.opMeets op l r = true := fun ⟨r, hr, h⟩ =>
        List.find?_eq_none.mp hmeet r hr h
      refine ⟨by simp, fun id late h => ⟨fun hn => absurd hn hnone, fun _ hn => absurd hn hnone', fun _ => ?_⟩⟩
      obtain ⟨r, hr, heq⟩ := Option.map_eq_some_iff.mp h
      cases heq
      have hfind : (s.candidates op l).find? (fun _ => true) = some r := by
        cases hc : s.candidates op l with
        | nil => rw [hc] at hr; cases hr
        | cons a as => rw [hc] at hr; cases hr; rfl
      exact ⟨rfl, State.earliest_of_find hfind⟩

theorem candidateOrder_iff (op : BookOp) (k : Bank) (a b : RunRec) :
    candidateOrder op k a b ↔
      op.etaOffset k a < op.etaOffset k b ∨ op.etaOffset k a = op.etaOffset k b ∧ a.id.toNat ≤ b.id.toNat := by
  rw [candidateOrder, keyLe_iff]
  dsimp only
  omega

/-! ## Refresh and migration (R94, R96) -/

/-- The LATE result of a refresh (R94). -/
def State.refreshedLate (s : State) (op : BookOp) (e : Entry) : Bool :=
  !meetsDeadline ((op.runRec e.run).bind fun r => r.stopOf (bankOf e.lane)) op.lanes[e.lane].rref (s.lane e.lane).cfg.safety

theorem State.refreshEntry_of_own {s : State} {op : BookOp} {e : Entry} (h : e.own = true) :
    s.refreshEntry op e = { e with
      bins := op.lanes[e.lane].need, size := op.lanes[e.lane].need * (s.lane e.lane).cfg.slot,
      rref := op.lanes[e.lane].rref.getD e.rref, late := s.refreshedLate op e } := if_pos h

theorem State.refreshedLate_iff (s : State) (op : BookOp) (e : Entry) :
    s.refreshedLate op e = false ↔ ∃ r x f, (op.runs.find? fun y => y.id == e.run) = some r ∧
      r.stopOf (bankOf e.lane) = some x ∧ op.lanes[e.lane].rref = some f ∧
      after x.eta (f - BitVec.ofNat 16 (s.lane e.lane).cfg.safety) = false := by
  rw [State.refreshedLate, Bool.not_eq_false', meetsDeadline_iff]
  simp only [Option.bind_eq_some_iff, BookOp.runRec]
  constructor
  · rintro ⟨x, f, ⟨r, hr, hx⟩, hf, ha⟩
    exact ⟨r, x, f, hr, hx, hf, ha⟩
  · rintro ⟨r, x, f, hr, hx, hf, ha⟩
    exact ⟨x, f, ⟨r, hr, hx⟩, hf, ha⟩

theorem State.rechoose_of_entry {s : State} {op : BookOp} {w : Work} {l : LaneIx} {e : Entry} (h : w.ownEntry l = some e) :
    (s.chooseRun op (w.withoutOwn l) l = none → s.rechoose op w l = w) ∧
      ∀ id late, s.chooseRun op (w.withoutOwn l) l = some (id, late) →
        (id = e.run → s.rechoose op w l = w) ∧
        (id ≠ e.run → s.rechoose op w l = insertOwn s.start.role.bookCapacity op.n (w.withoutOwn l)
          { e with run := id, late := late, heard := s.start.clock }) := by
  refine ⟨fun hn => ?_, fun id late hc => ⟨fun he => ?_, fun he => ?_⟩⟩
  · simp only [State.rechoose, h, hn]
  · simp only [State.rechoose, h, hc, if_pos he]
  · simp only [State.rechoose, h, hc, if_neg he]

/-! ## The statement -/

/-- Settles O30, clause by clause of the steps of the work. -/
theorem bookWorkReplacesEvictsAndChooses : Obligations.BookWorkReplacesEvictsAndChooses := by
  refine ⟨fun op role cs w hcs => ?_, fun cap n w e => ⟨fun h => ?_, fun h hpeer => ?_⟩, fun s op w l => ?_,
    fun s op w l id => ?_, fun s op e ho => ?_, fun s op w l e he => ?_⟩
  · intro t first stands
    have ht : t = (op.claimsInScope role cs).foldl (insertPeer role.bookCapacity op.n)
      ⟨w.entries.filter fun e => e.station != cs.sender, w.full⟩ := BookOp.replaceSender_of_claimset hcs role w
    refine ⟨fun e he hst => ?_, fun e he hst => ?_, fun hroom => ?_⟩
    · rw [ht] at he
      rcases insertPeers_mem _ he with he | he
      · obtain ⟨c, hc, hentry⟩ := (op.mem_claimsInScope role cs e).mp he
        exact ⟨c, hc.mem, hc, peerEntry_some hentry⟩
      · have hne := List.of_mem_filter he
        simp [hst] at hne
    · rw [ht] at he
      rcases insertPeers_mem _ he with he | he
      · exact absurd ((op.claimsInScope_spec role cs).1 e he).1 hst
      · exact List.mem_of_mem_filter he
    · have hlen := op.claimsInScope_length_le role cs
      have hfilter := List.length_filter_le (fun e : Entry => e.station != cs.sender) w.entries
      rw [insertPeers_of_room _ _ _ (by dsimp only; omega)] at ht
      rw [ht]
      refine ⟨rfl, fun e he hst => List.mem_append_left _ (List.mem_filter.mpr ⟨he, by simpa using hst⟩), fun c _ hc => ?_⟩
      obtain ⟨e, hentry⟩ := BookOp.takes.entry hc
      exact ⟨e, List.mem_append_right _ ((op.mem_claimsInScope role cs e).mpr ⟨c, hc, hentry⟩), peerEntry_some hentry⟩
  · exact ⟨insertPeer_of_room h n e, insertOwn_of_room h n e⟩
  · exact insert_of_full n e h hpeer
  · intro k candidate eta meets fits earliest
    have hcand : ∀ r, r ∈ s.candidates op l ↔ candidate r := s.mem_candidates op l
    have hmeets : ∀ r, s.opMeets op l r = true ↔ meets r := fun r => meetsDeadline_iff _ _ _
    have hsuits : ∀ r, s.suits op w l r = true ↔ meets r ∧ fits r := fun r => by
      rw [State.suits, Bool.and_eq_true, hmeets]
    have hfirst : ∀ (p : RunRec → Bool) (q : RunRec → Prop) (id : RunId), (∀ r, p r = true ↔ q r) →
        s.earliest op l p id → earliest q id := fun p q id hpq ⟨r, hr, hp, hid, hmin⟩ =>
      ⟨r, (hcand r).mp hr, (hpq r).mp hp, hid, fun x hx hqx =>
        (candidateOrder_iff ..).mp (hmin x ((hcand x).mpr hx) ((hpq x).mpr hqx))⟩
    have hexists : ∀ (p : RunRec → Bool) (q : RunRec → Prop), (∀ r, p r = true ↔ q r) →
        ((∃ r ∈ s.candidates op l, p r = true) ↔ ∃ r, candidate r ∧ q r) := fun p q hpq =>
      exists_congr fun r => and_congr (hcand r) (hpq r)
    obtain ⟨hnone, hsome⟩ := s.chooseRun_cases op w l
    refine ⟨hnone.trans ?_, fun id late h => ?_⟩
    · rw [List.eq_nil_iff_forall_not_mem, not_exists]
      exact forall_congr' fun r => not_congr (hcand r)
    · obtain ⟨h1, h2, h3⟩ := hsome id late h
      rw [hexists _ _ hsuits] at h1 h2
      rw [hexists _ _ hmeets] at h2 h3
      exact ⟨fun h => (h1 h).imp_right (hfirst _ _ id hsuits), fun h h' => (h2 h h').imp_right (hfirst _ _ id hmeets),
        fun h => (h3 h).imp_right (hfirst _ _ id fun _ => by simp)⟩
  · intro e room
    rw [State.wouldAdmit, admits, decide_eq_true_eq]
    exact Iff.rfl
  · exact ⟨_, State.refreshEntry_of_own ho, s.refreshedLate_iff op e⟩
  · exact State.rechoose_of_entry he

end Sys2Proof.Machine
end

section
/-! PROOFS. The completion of a book operation (R78, R81, R88, R89, R93, R97). -/

namespace Sys2Proof.Machine

/-! ## Waiting CLAIMSETs dealt with (R78, R175) -/

/-- What dealing with CLAIMSETs alone leaves: everything but the operation, its marks and copies, the receive queue, AT-RISK
and the moved marks. -/
structure State.bookOnly (s t : State) : Prop where
  start : t.start = s.start
  prof : t.prof = s.prof
  cnt : t.cnt = s.cnt
  line : t.line = s.line
  runs : t.runs = s.runs
  bankA : t.bankA = s.bankA
  bankB : t.bankB = s.bankB
  txq : t.air.txq = s.air.txq
  lane : ∀ l, (t.lane l).steady = (s.lane l).steady
  entries : t.book.entries = s.book.entries
  lastSet : t.book.lastSet = s.book.lastSet

theorem State.bookOnly.refl (s : State) : s.bookOnly s :=
  ⟨rfl, rfl, rfl, rfl, rfl, rfl, rfl, rfl, fun _ => rfl, rfl, rfl⟩

theorem State.bookOnly.trans {s t u : State} (h : s.bookOnly t) (h' : t.bookOnly u) : s.bookOnly u :=
  ⟨h'.start.trans h.start, h'.prof.trans h.prof, h'.cnt.trans h.cnt, h'.line.trans h.line, h'.runs.trans h.runs,
    h'.bankA.trans h.bankA, h'.bankB.trans h.bankB, h'.txq.trans h.txq, fun l => (h'.lane l).trans (h.lane l),
    h'.entries.trans h.entries, h'.lastSet.trans h.lastSet⟩

theorem State.startOp_bookOnly (s : State) (cs : Option ClaimSet) : s.bookOnly (s.startOp cs) := by
  obtain ⟨hstart, hprof, hcnt, hair, hline, -, hbankA, hbankB, hruns, -⟩ := s.startOp_frame cs
  obtain ⟨op, hbook, -⟩ := s.startOp_book cs
  exact ⟨hstart, hprof, hcnt, hline, hruns, hbankA, hbankB, by rw [hair], fun l => by rw [State.startOp_lane]; rfl,
    by rw [hbook], by rw [hbook]⟩

theorem State.endEvent_bookOnly (s : State) : s.bookOnly s.endEvent := by
  obtain ⟨h1, h2, h3, h4, h5, -, h6, h7, h8, -⟩ := s.endEvent_frame
  obtain ⟨he, -, hl⟩ := s.endEvent_book
  exact ⟨h1, h2, h3, h5, h8, h6, h7, by rw [h4], s.endEvent_steady, he, hl⟩

theorem State.startIfMarked_bookOnly (s : State) : s.bookOnly s.startIfMarked := by
  unfold State.startIfMarked
  split
  · exact s.startOp_bookOnly none
  · exact .refl s

theorem State.setRxq_bookOnly (s : State) (q : List RxFrame) : s.bookOnly { s with air.rxq := q } :=
  ⟨rfl, rfl, rfl, rfl, rfl, rfl, rfl, rfl, fun _ => rfl, rfl, rfl⟩

theorem State.refreshRisk_bookOnly (s : State) : s.bookOnly s.refreshRisk := by
  obtain ⟨hstart, hprof, hcnt, hair, hline, -, hbankA, hbankB, hruns, hbook, -⟩ := s.refreshRisk_frame
  exact ⟨hstart, hprof, hcnt, hline, hruns, hbankA, hbankB, by rw [hair],
    fun l => by rw [State.refreshRisk, State.lane_mapLanes]; rfl, by rw [hbook], by rw [hbook]⟩

theorem State.takeClaimset_bookOnly (s : State) (src : Byte) (p : List Byte) : s.bookOnly (s.takeClaimset src p) := by
  unfold State.takeClaimset
  split
  · exact s.startOp_bookOnly _
  · exact .refl s

theorem State.handOver_bookOnly (s : State) {f : RxFrame} (hf : f.kind = .claimset) : s.bookOnly (s.handOver f) := by
  unfold State.handOver
  rw [hf]
  split
  · exact .refl s
  · dsimp only
    split
    · exact s.takeClaimset_bookOnly ..
    · exact .refl s

theorem State.drain_bookOnly (s : State) (fs : List RxFrame) (hfs : ∀ f ∈ fs, f.kind = .claimset) :
    s.bookOnly (s.drain fs) := by
  induction fs generalizing s with
  | nil => exact (s.setRxq_bookOnly []).trans (State.startIfMarked_bookOnly _)
  | cons f fs ih =>
    rw [List.forall_mem_cons] at hfs
    have hevent : ∀ t : State, t.bookOnly (t.event fun u => u.handOver f) := fun t =>
      (t.handOver_bookOnly hfs.1).trans (State.endEvent_bookOnly _)
    rw [State.drain]
    split
    · split
      · exact s.setRxq_bookOnly _
      · exact (hevent s).trans (ih _ hfs.2)
    · exact s.startIfMarked_bookOnly.trans ((hevent _).trans (ih _ hfs.2))

/-- With the book busy every CLAIMSET stays. -/
theorem State.drain_busy {s : State} (hb : s.busy = true) {fs : List RxFrame} (hfs : ∀ f ∈ fs, s.waitsForBook f = true) :
    s.drain fs = { s with air.rxq := fs } := by
  cases fs with
  | nil =>
    rw [State.drain, State.startIfMarked, if_neg]
    rw [show State.busy { s with air.rxq := [] } = true from hb]
    simp
  | cons f fs => rw [State.drain, if_pos (hfs f (by simp)), if_pos hb]

/-! ## Admission (R88) -/

/-- The running totals do not read the admitted marks. -/
theorem runningTotal_markAll (n m : LineCount) (copies : List (RunId × Caps)) (all es : List Entry) (e : Entry) :
    runningTotal n (es.map fun x => { x with admitted := admits m copies all x }) { e with admitted := admits m copies all e } =
      runningTotal n es e := by
  unfold runningTotal
  rw [List.filter_map, List.map_map]
  rfl

/-- R88: an entry is admitted exactly when the running total at it is within the capacity copy. -/
theorem admitted_iff_of_markAll {n : LineCount} {copies : List (RunId × Caps)} {es : List Entry} {e : Entry}
    (he : e ∈ markAll n copies es) :
    e.admitted = true ↔ runningTotal n (markAll n copies es) e ≤ copyOf copies e.run e.cls := by
  obtain ⟨x, -, rfl⟩ := List.mem_map.mp he
  rw [markAll, runningTotal_markAll]
  exact decide_eq_true_iff

theorem sum_map_le_of_sublist {α : Type} {f : α → Nat} {xs ys : List α} (h : xs.Sublist ys) :
    (xs.map f).sum ≤ (ys.map f).sum := (h.map f).sum_le_sum fun _ _ => Nat.zero_le _

/-- The running total rises with the key. -/
theorem runningTotal_mono {n : LineCount} {es : List Entry} {x y : Entry} (hrun : y.run = x.run) (hcls : y.cls = x.cls)
    (hkey : keyLe (x.key n) (y.key n) = true) : runningTotal n es x ≤ runningTotal n es y := by
  refine sum_map_le_of_sublist (List.monotone_filter_right _ fun z hz => ?_)
  simp only [Bool.and_eq_true] at hz ⊢
  rw [hrun, hcls]
  exact ⟨hz.1, keyLe_trans hz.2 hkey⟩

theorem exists_largestKey (n : LineCount) {es : List Entry} (h : es ≠ []) :
    ∃ m ∈ es, ∀ x ∈ es, keyLe (x.key n) (m.key n) = true := by
  induction es with
  | nil => exact absurd rfl h
  | cons e es ih =>
    rcases eq_or_ne es [] with rfl | hes
    · exact ⟨e, by simp, by simp [keyLe_refl]⟩
    · obtain ⟨m, hm, hmax⟩ := ih hes
      rcases keyLe_total (e.key n) (m.key n) with hle | hle
      · exact ⟨m, by simp [hm], List.forall_mem_cons.mpr ⟨hle, hmax⟩⟩
      · exact ⟨e, by simp, List.forall_mem_cons.mpr ⟨keyLe_refl _, fun x hx => keyLe_trans (hmax x hx) hle⟩⟩

/-- The admitted sizes of a run and class are within the capacity copy: all are counted in the running total at the last
admitted entry. -/
theorem admitted_sum_le {n : LineCount} {copies : List (RunId × Caps)} {es : List Entry}
    (h : ∀ e ∈ es, e.admitted = true → runningTotal n es e ≤ copyOf copies e.run e.cls) (run : RunId) (cls : Nat) :
    ((es.filter fun e => e.admitted && e.run == run && e.cls == cls).map Entry.size).sum ≤ copyOf copies run cls := by
  rcases eq_or_ne (es.filter fun e => e.admitted && e.run == run && e.cls == cls) [] with hnil | hsome
  · rw [hnil]; exact Nat.zero_le _
  · obtain ⟨m, hm, hmax⟩ := exists_largestKey n hsome
    have hm' := List.mem_filter.mp hm
    simp only [Bool.and_eq_true, beq_iff_eq] at hm'
    obtain ⟨hmem, ⟨hadm, rfl⟩, rfl⟩ := hm'
    refine le_trans ?_ (h m hmem hadm)
    have hsub : (es.filter fun e => e.admitted && e.run == m.run && e.cls == m.cls).Sublist
        (es.filter fun x => x.run == m.run && x.cls == m.cls && keyLe (x.key n) (m.key n)) := by
      rw [show (es.filter fun e => e.admitted && e.run == m.run && e.cls == m.cls) =
        (es.filter fun e => e.admitted && e.run == m.run && e.cls == m.cls).filter
          fun x => x.run == m.run && x.cls == m.cls && keyLe (x.key n) (m.key n) from ?_]
      · exact List.filter_sublist.filter _
      · refine (List.filter_eq_self.mpr fun x hx => ?_).symm
        have hx' := (List.mem_filter.mp hx).2
        simp only [Bool.and_eq_true] at hx' ⊢
        exact ⟨⟨hx'.1.2, hx'.2⟩, hmax x hx⟩
    exact sum_map_le_of_sublist hsub

/-! ## What a completion leaves before the next operation (R81) -/

theorem State.offer_bookfull (s : State) (f : TxFrame) : (s.offer f).cnt.bookfull = s.cnt.bookfull :=
  have h : (s.offer f).cnt.sansDrop.bookfull = s.cnt.sansDrop.bookfull := by rw [State.offer_sansDrop]
  h

theorem State.queueClaims_keeps (s : State) (refresh : Bool) :
    (s.queueClaims refresh).book = { s.book with lastSet := (s.queueClaims refresh).book.lastSet } ∧
      (s.queueClaims refresh).cnt.bookfull = s.cnt.bookfull := by
  unfold State.queueClaims
  dsimp only
  split
  · exact ⟨by simp, State.offer_bookfull _ _⟩
  · exact ⟨rfl, rfl⟩

/-- The state a completion has set before the claim set is queued. -/
def State.completed (s : State) (op : BookOp) : State :=
  ({ s with
      book.entries := s.finalEntries op, book.op := none,
      cnt.bookfull := sat16 (s.cnt.bookfull + if s.lockedSince op then 0 else (s.opWork op).full) } : State).mapLanes
    fun l r => if appliesTo op l r then
      r.result ((s.finalEntries op).find? fun e => e.own && e.lane == l) op.lanes[l].cond else r

theorem State.finishOp_eq (s : State) (op : BookOp) : s.finishOp op = (s.completed op).queueClaims op.refresh := rfl

theorem State.finishOp_keeps (s : State) (op : BookOp) :
    (s.finishOp op).book =
        { s.book with entries := s.finalEntries op, op := none, lastSet := (s.finishOp op).book.lastSet } ∧
      (s.finishOp op).cnt.bookfull =
        min (s.cnt.bookfull + if s.lockedSince op then 0 else (s.opWork op).full) 65535 := by
  rw [s.finishOp_eq op]
  exact (s.completed op).queueClaims_keeps op.refresh

/-! ## The completion of an operation (R81, R88) -/

theorem State.exec_completion {s : State} {op : BookOp} (hw : s.working = true) (hop : s.book.op = some op) :
    exec .bookOperationCompletion s = .next ((s.finishOp op).refreshRisk.drain s.air.rxq) := by
  have hexec : exec .bookOperationCompletion s = .next s.completeOp := congrArg _ (if_pos hw)
  rw [hexec, State.completeOp, hop]

/-- With nothing but CLAIMSETs waiting, dealing with them leaves what the completion set. -/
theorem State.completion_bookOnly {s : State} (hq : ∀ f ∈ s.air.rxq, f.kind = .claimset) (op : BookOp) :
    (s.finishOp op).bookOnly ((s.finishOp op).refreshRisk.drain s.air.rxq) :=
  (State.refreshRisk_bookOnly _).trans (State.drain_bookOnly _ _ hq)

/-- With nothing waiting a marked idle book starts an operation without a CLAIMSET, and an unmarked one stands. -/
theorem State.drain_nil_of_idle {s : State} (hb : s.busy = false) :
    ((s.book.pendingMark = true ∨ s.book.refreshDue = true) →
        s.drain [] = State.startOp { s with air.rxq := [] } none) ∧
      (¬(s.book.pendingMark = true ∨ s.book.refreshDue = true) → s.drain [] = { s with air.rxq := [] }) := by
  have hb' : State.busy { s with air.rxq := [] } = false := hb
  rw [State.drain, State.startIfMarked, hb']
  exact ⟨fun h => if_pos (by simpa using h), fun h => if_neg (by simpa using h)⟩

/-- A readable CLAIMSET at the head of a RACK or TRAIN with an idle book starts an operation, and those behind it wait. -/
theorem State.drain_claimset {s : State} {f : RxFrame} {rest : List RxFrame} {cs : ClaimSet}
    (hq : ∀ g ∈ f :: rest, g.kind = .claimset) (hr : s.start.role = .rack ∨ s.start.role = .train)
    (hf : s.start.state ≠ .fault) (hcs : readClaimset f.src f.payload = some cs) (hb : s.busy = false) :
    s.drain (f :: rest) = { (s.startOp (some cs)).endEvent with air.rxq := rest } := by
  have hwaits : ∀ u : State, u.start = s.start → ∀ g ∈ f :: rest, u.waitsForBook g = true := fun u hu g hg => by
    rw [State.waitsForBook, hu, hq g hg]
    simpa [hf] using hr
  have hover : s.handOver f = s.startOp (some cs) := by
    rw [State.handOver, if_neg hf, hq f (by simp)]
    simp only [State.takeClaimset, hcs]
    exact if_pos (by simpa using hr)
  rw [State.drain, if_pos (hwaits s rfl f (by simp)), if_neg (by simp [hb]), State.event, hover]
  have hbusy : (s.startOp (some cs)).endEvent.busy = true :=
    State.endEvent_busy (State.startOp_busy s _)
  exact State.drain_busy hbusy fun g hg => hwaits _ (by simp) g (by simp [hg])

/-- Settles O32: admission counts sizes up to an entry in key order, so it stops at one place of every run and class. -/
theorem completionAdmitsStrictPrefix : Obligations.CompletionAdmitsStrictPrefix := by
  intro s op hw hop hq marked
  obtain ⟨hstart, -, hcnt, hline, -, -, -, -, -, hentries, -⟩ := State.completion_bookOnly hq op
  obtain ⟨hbook, hfull⟩ := s.finishOp_keeps op
  have hfinal := hentries.trans (s.finishOp_book op).1
  have hadm := fun e (he : e ∈ s.finalEntries op) => admitted_iff_of_markAll he
  have hbook' : (s.finishOp op).refreshRisk.book = (s.finishOp op).book := by simp
  have hidle : (s.finishOp op).refreshRisk.busy = false := by rw [State.busy, hbook', (s.finishOp_book op).2]; rfl
  have hmarks : (s.finishOp op).refreshRisk.book.pendingMark = s.book.pendingMark ∧
      (s.finishOp op).refreshRisk.book.refreshDue = s.book.refreshDue := by
    rw [hbook', hbook]; exact ⟨rfl, rfl⟩
  refine ⟨_, State.exec_completion hw hop, hline.trans (by simp), hstart.trans (by simp), by rw [hcnt, hfull], ?_⟩
  rw [hfinal]
  refine ⟨hadm, admitted_sum_le fun e he => (hadm e he).mp, fun e he e' he' hrun hcls ha hle => ?_, fun hnil hm => ?_,
    fun hnil hm => ?_, fun f rest cs hcons hcs hr hb => ?_⟩
  · refine (hadm e' he').mpr ((runningTotal_mono hrun hcls hle).trans ?_)
    rw [← hrun, ← hcls]
    exact (hadm e he).mp ha
  · rw [hnil, (State.drain_nil_of_idle hidle).2 (by rw [hmarks.1, hmarks.2]; exact hm)]
    rw [hbook', hbook]
    exact ⟨rfl, rfl⟩
  · rw [hnil, (State.drain_nil_of_idle hidle).1 (by rw [hmarks.1, hmarks.2]; exact hm)]
    refine ⟨_, State.startOp_op _ _, rfl, hmarks.2, (s.finishOp_book op).1, rfl⟩
  · obtain ⟨hasked, -⟩ := s.bookSettled_iff.mp hb
    have hf : s.start.state ≠ .fault := State.not_fault_of_working hw
    rw [hcons, State.drain_claimset (by rwa [← hcons]) (by simpa using hr) (by simpa using hf) hcs hidle]
    obtain ⟨hkept, -⟩ := ((s.finishOp op).refreshRisk.startOp (some cs)).endEvent_op
    obtain ⟨hop', -, hmark⟩ := hkept rfl
    refine ⟨rfl, _, hop'.trans (State.startOp_op _ _), rfl, hmarks.2, (s.finishOp_book op).1, hmark.trans ?_⟩
    have : ((s.finishOp op).refreshRisk.startOp (some cs)).book.asked = (s.finishOp op).refreshRisk.book.asked := rfl
    rw [this, hbook', hbook]
    exact hasked

/-! ## The lanes and the claim set at a completion (R81, R89, R93, R97) -/

theorem LaneRec.result_stock (r : LaneRec) (own : Option Entry) (cond : Bool) : (r.result own cond).stock = r.stock := by
  unfold LaneRec.result
  split
  · rfl
  · split <;> rfl

theorem LaneRec.result_some (r : LaneRec) (e : Entry) (cond : Bool) :
    (r.result (some e) cond).call = (if e.admitted then .admitted else .waiting) ∧
      (r.result (some e) cond).claimRun = some e.run ∧ (r.result (some e) cond).requested = e.bins ∧
      (r.result (some e) cond).late = e.late := ⟨rfl, rfl, rfl, rfl⟩

theorem LaneRec.result_none (r : LaneRec) (cond : Bool) :
    (r.result none cond).call = (if cond then .calling else .quiet) ∧ (r.result none cond).claimRun = none ∧
      (r.result none cond).requested = 0 ∧ (r.result none cond).late = false := by
  cases cond <;> exact ⟨rfl, rfl, rfl, rfl⟩

/-- The parts of a delivery that an own entry stands for. -/
theorem LaneRec.claim_of_delivery {r r' : LaneRec} (h : r.delivery = r'.delivery) :
    r.call = r'.call ∧ r.claimRun = r'.claimRun ∧ r.requested = r'.requested ∧ r.late = r'.late := by
  obtain ⟨hcall, hclaim, -, hreq, -, -, hlate, -⟩ := DeliveryView.mk.inj h
  exact ⟨hcall, hclaim, hreq, hlate⟩

/-- A RACK that is not ACTIVE queues no claim set; an ACTIVE one queues a changed one and records it. -/
theorem State.queueClaims_cases {s : State} (hr : s.start.role = .rack) (refresh : Bool) :
    (s.isActive = false → s.queueClaims refresh = s) ∧
      (s.isActive = true → ownItems s.book.entries ≠ s.book.lastSet →
        s.queueClaims refresh =
          State.offer { s with book.lastSet := ownItems s.book.entries } (claimsetFrame s.line.n s.book.entries)) := by
  unfold State.queueClaims
  exact ⟨fun ha => if_neg (by simp [ha]), fun ha hne => if_pos (by simp [ha, hr, hne])⟩

/-- Settles O33: the lanes take their results before the claim set is queued, and the CLAIMSETs that wait move no lane. -/
theorem completionSetsLaneStates : Obligations.CompletionSetsLaneStates := by
  intro s op hr hop hq
  obtain ⟨hstart, -, -, hline, hruns, hbankA, hbankB, htxq, hlane, hentries, hlast⟩ := State.completion_bookOnly hq op
  have hfinal := hentries.trans (s.finishOp_book op).1
  have hdel := fun l => (LaneRec.of_steady (hlane l)).2.1
  have hcases := State.queueClaims_cases (s := s.completed op) (State.role_of_worksAs hr) op.refresh
  rw [← s.finishOp_eq op] at hcases
  refine ⟨_, State.exec_completion (State.working_of_worksAs hr) hop, fun l hp hm ho => ?_, fun l h => ?_, fun ha hne => ?_,
    fun ha => ?_, fun l => (LaneRec.of_steady (hlane l)).1.trans ?_, hline.trans (by simp), hstart.trans (by simp),
    hruns.trans (by simp), hbankA.trans (by simp), hbankB.trans (by simp)⟩
  · have hl := (s.finishOp_lane op l).trans (if_pos ((appliesTo_iff ..).mpr ⟨hp, hm, ho⟩))
    obtain ⟨hcall, hclaim, hreq, hlate⟩ := LaneRec.claim_of_delivery ((hdel l).trans (congrArg LaneRec.delivery hl))
    rw [hfinal, hcall, hclaim, hreq, hlate]
    refine ⟨fun e he => ?_, fun hnone => ?_⟩
    · rw [he]; exact LaneRec.result_some ..
    · rw [hnone]; exact LaneRec.result_none ..
  · have happ : appliesTo op l (s.lane l) = false := by
      rw [Bool.eq_false_iff, ne_eq, appliesTo_iff]
      rintro ⟨hp, hm, ho⟩
      rcases h with h | h | h
      · rw [hp] at h; cases h
      · rw [hm] at h; cases h
      · rw [ho] at h; cases h
    rw [hdel, s.finishOp_lane op l, if_neg (by simp [happ])]
  · rw [hfinal] at hne ⊢
    have hfin := hcases.2 ha hne
    rw [hlast, htxq, hfin]
    have hacc : s.accepts .claimset = true := by simp [State.accepts, ha]
    exact ⟨by simp; rfl, fun hroom => ⟨_, State.mem_offer_self hacc (.inl (of_decide_eq_true hroom)), rfl⟩⟩
  · have hfin := hcases.1 ha
    rw [hlast, htxq, hfin]
    exact ⟨rfl, rfl⟩
  · rw [s.finishOp_lane op l]
    split
    · exact LaneRec.result_stock ..
    · rfl

end Sys2Proof.Machine
end

section
/-! PROOFS. What settlement, departure and arrival do, lane by lane and bank by bank (R128 to R138). -/

namespace Sys2Proof.Machine

/-! ## Changes confined to a bank -/

/-- A change to the lanes and the record of one bank; the book loses entries at most. -/
structure State.confined (k : Bank) (s t : State) : Prop where
  prof : t.prof = s.prof
  runs : t.runs = s.runs
  entries : ∀ e ∈ t.book.entries, e ∈ s.book.entries
  lane : ∀ m, bankOf m ≠ k → t.lane m = s.lane m
  bank : ∀ j, j ≠ k → t.bank j = s.bank j

theorem State.confined.refl {k : Bank} (s : State) : s.confined k s :=
  ⟨rfl, rfl, fun _ h => h, fun _ _ => rfl, fun _ _ => rfl⟩

theorem State.confined.trans {k : Bank} {s t u : State} (h : s.confined k t) (h' : t.confined k u) : s.confined k u :=
  ⟨h'.prof.trans h.prof, h'.runs.trans h.runs, fun e he => h.entries e (h'.entries e he),
    fun m hm => (h'.lane m hm).trans (h.lane m hm), fun j hj => (h'.bank j hj).trans (h.bank j hj)⟩

theorem State.confined.foldl {k : Bank} {F : State → LaneIx → State} (hF : ∀ (s : State) l, bankOf l = k → s.confined k (F s l))
    {ls : List LaneIx} (hls : ∀ l ∈ ls, bankOf l = k) (s : State) : s.confined k (ls.foldl F s) := by
  induction ls generalizing s with
  | nil => exact .refl s
  | cons l ls ih =>
    rw [List.forall_mem_cons] at hls
    exact (hF s l hls.1).trans (ih hls.2 _)

/-- Where only bank records change, and of these one. -/
theorem State.modBank_confined (s : State) (k : Bank) (f : BankRec → BankRec) : s.confined k (s.modBank k f) :=
  ⟨by simp, by simp, fun e he => by simpa using he, fun m _ => State.lane_congr (by simp) m,
    fun j hj => by rw [State.bank_modBank, if_neg hj]⟩

theorem State.trigger_confined (s : State) (k : Bank) : s.confined k (s.trigger k) :=
  ⟨by simp, by simp, fun e he => by simpa using he, fun m hm => by rw [State.trigger_lane, if_neg hm],
    fun j hj => by rw [State.trigger_bank, if_neg hj]⟩

theorem State.closeFace_confined (s : State) (k : Bank) : s.confined k (s.closeFace k) :=
  ⟨by simp, by simp, fun e he => by simpa using he, fun m hm => by rw [State.closeFace_lane, if_neg hm],
    fun j hj => by rw [State.closeFace_bank, if_neg hj]⟩

theorem State.setLane_confined (s : State) (l : LaneIx) (r : LaneRec) : s.confined (bankOf l) (s.setLane l r) :=
  ⟨by simp, by simp, fun e he => by simpa using he,
    fun m hm => State.lane_setLane_ne s (fun e => hm (congrArg bankOf e)) _, fun j _ => State.bank_congr (by simp) (by simp) j⟩

theorem State.restage_confined (s : State) (l : LaneIx) : s.confined (bankOf l) (s.restage l) := by
  unfold State.restage
  dsimp only
  split
  · exact .refl s
  · split
    · exact s.setLane_confined ..
    · split
      · exact (s.setLane_confined ..).trans (State.trigger_confined ..)
      · exact s.setLane_confined ..

theorem State.ask_confined (s : State) (k : Bank) : s.confined k s.ask :=
  ⟨rfl, rfl, fun _ he => he, fun _ _ => rfl, fun j _ => State.bank_congr (t := s.ask) rfl rfl j⟩

theorem State.moveLane_confined (s : State) (l : LaneIx) (f : LaneRec → LaneRec) :
    s.confined (bankOf l) (s.moveLane l f) := by
  have h : s.confined (bankOf l) ((s.modLane l fun r => { f r with moved := true }).restage l) :=
    (s.setLane_confined l _).trans (State.restage_confined ..)
  unfold State.moveLane
  dsimp only
  split
  · exact h.trans (State.ask_confined ..)
  · exact h

theorem State.joinItems_confined (s : State) (l : LaneIx) : s.confined (bankOf l) (s.joinItems l) := s.modBank_confined ..

theorem State.releaseClaim_confined (s : State) (l : LaneIx) (k : Bank) : s.confined k (s.releaseClaim l) := by
  unfold State.releaseClaim
  split
  · exact ⟨rfl, rfl, fun e he => (List.mem_filter.mp he).1, fun _ _ => rfl,
      fun j _ => State.bank_congr (t := (s.dropOwnEntry l).ask) rfl rfl j⟩
  · exact .refl s

theorem State.recorded_confined (s : State) (k : Bank) (run : Option RunId) : s.confined k (s.recorded k run) := by
  unfold State.recorded
  split
  · exact s.modBank_confined ..
  · exact .refl s

theorem State.itemised_confined (s : State) (l : LaneIx) (run : Option RunId) : s.confined (bankOf l) (s.itemised l run) := by
  unfold State.itemised
  split
  · exact s.joinItems_confined l
  · exact .refl s

theorem State.settleLane_confined (run : RunId) (s : State) (l : LaneIx) : s.confined (bankOf l) (s.settleLane run l) := by
  rw [State.settleLane_eq]
  exact (s.recorded_confined ..).trans ((State.itemised_confined ..).trans ((State.moveLane_confined ..).trans
    (State.ask_confined ..)))

theorem State.listClosed_confined (s : State) (k : Bank) (run : RunId) : s.confined k (s.listClosed k run) := by
  unfold State.listClosed
  split
  · exact s.modBank_confined ..
  · exact .refl s

theorem State.visitClosed_confined (s : State) (k : Bank) (run : RunId) : s.confined k (s.visitClosed k run) := by
  unfold State.visitClosed
  split
  · exact (s.modBank_confined ..).trans (State.closeFace_confined ..)
  · exact .refl s

theorem State.closeBusiness_confined (s : State) (k : Bank) (run : RunId) : s.confined k (s.closeBusiness k run) :=
  (s.listClosed_confined k run).trans (State.visitClosed_confined ..)

theorem State.mem_owedLanes {s : State} {k : Bank} {run : RunId} {l : LaneIx} :
    l ∈ s.owedLanes k run ↔ bankOf l = k ∧ (s.lane l).present = true ∧ (s.lane l).promisedOn run = true := by
  simp [State.owedLanes, bankLanes, allLanes, and_comm]

theorem State.settleBank_confined (s : State) (k : Bank) (run : RunId) : s.confined k (s.settleBank k run) :=
  (State.confined.foldl (fun t l hl => hl ▸ t.settleLane_confined run l)
    (fun _ hl => (State.mem_owedLanes.mp hl).1) s).trans (State.closeBusiness_confined ..)

theorem State.settleDeparted_confined (s : State) (k : Bank) (run : RunId) : s.confined k (s.settleDeparted k run) :=
  (s.settleBank_confined k run).trans (State.modBank_confined ..)

/-! ## One bank after the other -/

/-- The two states agree on a bank: its record, its lanes, the profile and the run list; the book loses entries at most. -/
structure State.agreesOn (k : Bank) (s t : State) : Prop where
  prof : t.prof = s.prof
  runs : t.runs = s.runs
  entries : ∀ e ∈ t.book.entries, e ∈ s.book.entries
  lane : ∀ m, bankOf m = k → t.lane m = s.lane m
  bank : t.bank k = s.bank k

theorem State.agreesOn.refl (k : Bank) (s : State) : State.agreesOn k s s :=
  ⟨rfl, rfl, fun _ h => h, fun _ _ => rfl, rfl⟩

theorem State.agreesOn.trans {k : Bank} {s t u : State} (h : s.agreesOn k t) (h' : t.agreesOn k u) : s.agreesOn k u :=
  ⟨h'.prof.trans h.prof, h'.runs.trans h.runs, fun e he => h.entries e (h'.entries e he),
    fun m hm => (h'.lane m hm).trans (h.lane m hm), h'.bank.trans h.bank⟩

theorem State.confined.agrees {j k : Bank} {s t : State} (h : s.confined j t) (hne : k ≠ j) : s.agreesOn k t :=
  ⟨h.prof, h.runs, h.entries, fun m hm => h.lane m (hm ▸ hne), h.bank k hne⟩

/-- Banks other than this one, dealt with in turn, leave it. -/
theorem foldl_agreesOn {F : State → Bank → State} (hF : ∀ (s : State) k, s.confined k (F s k)) {ks : List Bank} {k : Bank}
    (hk : k ∉ ks) (s : State) : s.agreesOn k (ks.foldl F s) := by
  induction ks generalizing s with
  | nil => exact .refl k s
  | cons j js ih =>
    rw [List.mem_cons, not_or] at hk
    exact ((hF s j).agrees hk.1).trans (ih hk.2 _)

/-- A bank dealt with in its turn: what is done to it is done to the state as it stood, as far as that bank goes. -/
theorem foldl_bank {F : State → Bank → State} (hF : ∀ (s : State) k, s.confined k (F s k)) {ks : List Bank} (hnd : ks.Nodup)
    {k : Bank} (hk : k ∈ ks) (s : State) : ∃ u, s.agreesOn k u ∧ (F u k).agreesOn k (ks.foldl F s) := by
  induction ks generalizing s with
  | nil => cases hk
  | cons j js ih =>
    obtain ⟨hj, hjs⟩ := List.nodup_cons.mp hnd
    rcases List.mem_cons.mp hk with rfl | hk'
    · exact ⟨s, .refl _ s, foldl_agreesOn hF hj _⟩
    · obtain ⟨u, hu, ht⟩ := ih hjs hk' (F s j)
      have hne : k ≠ j := fun e => hj (e ▸ hk')
      exact ⟨u, ((hF s j).agrees hne).trans hu, ht⟩

theorem State.banksAt_nodup (s : State) (stop : Nat) : (s.banksAt stop).Nodup :=
  List.Nodup.filter _ (by decide)

theorem State.mem_banksAt {s : State} {stop : Nat} {k : Bank} : k ∈ s.banksAt stop ↔ s.prof.stopOf k = stop := by
  cases k <;> simp [State.banksAt]

/-! ## What a lane owes and is owed -/

/-- A lane record but for its face, its forecast and the marks of the model: the fields that deliveries work on. -/
def LaneRec.core (r : LaneRec) : LaneRec :=
  { r with staged := .off, fresh := false, shown := .off, overfill := false, moved := false, atRisk := false,
           forecast := none, cond := false }

theorem LaneRec.core_of_sansFace {r r' : LaneRec} (h : r.sansFace = r'.sansFace) : r.core = r'.core :=
  have hcore : r.sansFace.core = r'.sansFace.core := by rw [h]
  hcore

theorem LaneRec.core_of_steady {r r' : LaneRec} (h : r.steady = r'.steady) : r.core = r'.core :=
  have hcore : r.steady.core = r'.steady.core := by rw [h]
  hcore

theorem LaneRec.core_of_sansForecast {r r' : LaneRec} (h : r.sansForecast = r'.sansForecast) : r.core = r'.core :=
  have hcore : r.sansForecast.core = r'.sansForecast.core := by rw [h]
  hcore

/-- Records with one core have the same delivery, presence and totals. -/
theorem LaneRec.of_core {r r' : LaneRec} (h : r.core = r'.core) :
    r.delivery = r'.delivery ∧ r.present = r'.present ∧ r.surplus = r'.surplus ∧ r.shortBins = r'.shortBins ∧
      r.stock = r'.stock :=
  ⟨(congrArg LaneRec.delivery h :), (congrArg LaneRec.present h :), (congrArg LaneRec.surplus h :),
    (congrArg LaneRec.shortBins h :), (congrArg LaneRec.stock h :)⟩

theorem LaneRec.darken_core (r : LaneRec) (faceOpen : Bool) : (r.darken faceOpen).core = r.core := rfl

theorem LaneRec.commit_core (r : LaneRec) : r.commit.core = r.core := LaneRec.core_of_sansFace r.commit_sansFace

theorem State.closeFace_core (s : State) (k : Bank) (m : LaneIx) : ((s.closeFace k).lane m).core = (s.lane m).core := by
  rw [State.closeFace_lane]
  split
  · exact LaneRec.darken_core ..
  · rfl

theorem State.trigger_core (s : State) (k : Bank) (m : LaneIx) : ((s.trigger k).lane m).core = (s.lane m).core := by
  rw [State.trigger_lane]
  split
  · exact LaneRec.commit_core _
  · rfl

theorem State.forecastLane_core (s : State) (l m : LaneIx) : ((s.forecastLane l).lane m).core = (s.lane m).core := by
  rw [State.forecastLane_lane]
  split
  next h => rw [h.1]; rfl
  · rfl

theorem State.endEvent_core (s : State) (m : LaneIx) : (s.endEvent.lane m).core = (s.lane m).core :=
  LaneRec.core_of_steady (s.endEvent_steady m)

/-- This change works on the core of a record. -/
def LaneRec.coreMap (f : LaneRec → LaneRec) : Prop := ∀ r r', r.core = r'.core → (f r).core = (f r').core

theorem State.moveLane_core (s : State) (l m : LaneIx) (f : LaneRec → LaneRec) :
    ((s.moveLane l f).lane m).core = if m = l then (f (s.lane l)).core else (s.lane m).core := by
  have h := s.moveLane_sansFace l m f
  split at h
  next hm => rw [if_pos hm]; exact (LaneRec.core_of_sansFace h).trans rfl
  next hm => rw [if_neg hm]; exact LaneRec.core_of_sansFace h

/-- Lanes dealt with in turn, each once: every one of them takes the change, the others stand. -/
theorem foldl_core {F : State → LaneIx → State} {g : LaneRec → LaneRec} (hg : LaneRec.coreMap g)
    (hF : ∀ (s : State) l m, ((F s l).lane m).core = if m = l then (g (s.lane l)).core else (s.lane m).core)
    {ls : List LaneIx} (hnd : ls.Nodup) (s : State) (m : LaneIx) :
    ((ls.foldl F s).lane m).core = if m ∈ ls then (g (s.lane m)).core else (s.lane m).core := by
  induction ls generalizing s with
  | nil => simp
  | cons l ls ih =>
    obtain ⟨hl, hls⟩ := List.nodup_cons.mp hnd
    rw [List.foldl_cons, ih hls]
    have hstep := hF s l m
    by_cases hm : m = l
    · rw [if_pos hm] at hstep
      rw [if_neg (hm ▸ hl), if_pos (by simp [hm]), hstep, hm]
    · rw [if_neg hm] at hstep
      simp only [List.mem_cons, hm, false_or]
      split
      · exact hg _ _ hstep
      · exact hstep

/-! ## Settlement (R136, R138) -/

theorem LaneRec.settledShort_coreMap (run : RunId) : LaneRec.coreMap (LaneRec.settledShort run) := fun _ _ h =>
  (congrArg (fun x => (LaneRec.settledShort run x).core) h :)

theorem State.settleLane_core (run : RunId) (s : State) (l m : LaneIx) :
    ((s.settleLane run l).lane m).core =
      if m = l then ((s.lane l).settledShort run).core else (s.lane m).core := by
  have hlanes : ∀ m, ((s.recorded (bankOf l) (some run)).itemised l (some run)).lane m = s.lane m :=
    State.lane_congr (by simp)
  rw [State.settleLane_eq, State.lane_congr (State.ask_lanes _), State.moveLane_core, hlanes, hlanes]

theorem State.closeBusiness_core (s : State) (k : Bank) (run : RunId) (m : LaneIx) :
    ((s.closeBusiness k run).lane m).core = (s.lane m).core := by
  have hlist : (s.listClosed k run).lane m = s.lane m := by
    unfold State.listClosed
    split
    · exact State.lane_congr (by simp) m
    · rfl
  rw [State.closeBusiness_eq, State.visitClosed, ← hlist]
  split
  · rw [State.closeFace_core, State.lane_congr (State.modBank_lanes ..)]
  · rfl

theorem State.owedLanes_nodup (s : State) (k : Bank) (run : RunId) : (s.owedLanes k run).Nodup :=
  ((List.nodup_finRange _).filter _).filter _

/-- R136: a settlement settles the lanes owed bins short and leaves the deliveries of all others. -/
theorem State.settleBank_core (s : State) (k : Bank) (run : RunId) (m : LaneIx) :
    ((s.settleBank k run).lane m).core =
      if bankOf m = k ∧ (s.lane m).present = true ∧ (s.lane m).promisedOn run = true then
        ((s.lane m).settledShort run).core
      else (s.lane m).core := by
  rw [State.settleBank, State.closeBusiness_core,
    foldl_core (LaneRec.settledShort_coreMap run) (State.settleLane_core run) (s.owedLanes_nodup k run)]
  simp only [State.mem_owedLanes]

/-- What a settlement does to the record of its bank: the visit for the run closes, the record run is not the run any more,
and the last departed run stands. -/
structure BankRec.settledFor (run : RunId) (b b' : BankRec) : Prop where
  visit : b'.visit = if b.visit = some run then none else b.visit
  recordRun : b'.recordRun ≠ some run
  lastDeparted : b'.lastDeparted = b.lastDeparted

theorem State.moveLane_visit (s : State) (l : LaneIx) (f : LaneRec → LaneRec) (k : Bank) :
    ((s.moveLane l f).bank k).visit = (s.bank k).visit ∧
      ((s.moveLane l f).bank k).lastDeparted = (s.bank k).lastDeparted ∧
      ((s.moveLane l f).bank k).recordRun = (s.bank k).recordRun :=
  have h := s.moveLane_bank l f k
  ⟨(congrArg BankRec.visit h :), (congrArg BankRec.lastDeparted h :), (congrArg BankRec.recordRun h :)⟩

theorem State.joinItems_visit (s : State) (l : LaneIx) (k : Bank) :
    ((s.joinItems l).bank k).visit = (s.bank k).visit ∧
      ((s.joinItems l).bank k).lastDeparted = (s.bank k).lastDeparted ∧
      ((s.joinItems l).bank k).recordRun = (s.bank k).recordRun := by
  rw [State.joinItems, State.bank_modBank]
  split
  next h => rw [h]; exact ⟨rfl, rfl, rfl⟩
  · exact ⟨rfl, rfl, rfl⟩

theorem State.ask_bank (s : State) (k : Bank) : s.ask.bank k = s.bank k := State.bank_congr (by simp) (by simp) k

theorem State.settleLane_visit (run : RunId) (s : State) (l : LaneIx) (k : Bank) :
    ((s.settleLane run l).bank k).visit = (s.bank k).visit ∧
      ((s.settleLane run l).bank k).lastDeparted = (s.bank k).lastDeparted := by
  have hrec : ((s.recorded (bankOf l) (some run)).bank k).visit = (s.bank k).visit ∧
      ((s.recorded (bankOf l) (some run)).bank k).lastDeparted = (s.bank k).lastDeparted := by
    unfold State.recorded
    split
    · rw [State.bank_modBank]
      split
      next h => rw [h]; exact ⟨rfl, rfl⟩
      · exact ⟨rfl, rfl⟩
    · exact ⟨rfl, rfl⟩
  obtain ⟨hv, hd, -⟩ := (((s.recorded (bankOf l) (some run)).itemised l (some run))).moveLane_visit l
    (LaneRec.settledShort run) k
  rw [State.settleLane_eq, State.ask_bank, hv, hd, ← hrec.1, ← hrec.2, State.itemised]
  split
  · obtain ⟨hv, hd, -⟩ := (s.recorded (bankOf l) (some run)).joinItems_visit l k
    exact ⟨hv, hd⟩
  · exact ⟨rfl, rfl⟩

theorem State.listClosed_bank (s : State) (k : Bank) (run : RunId) :
    ((s.listClosed k run).bank k).visit = (s.bank k).visit ∧
      ((s.listClosed k run).bank k).lastDeparted = (s.bank k).lastDeparted ∧
      ((s.listClosed k run).bank k).recordRun ≠ some run := by
  unfold State.listClosed
  split
  · rw [State.bank_modBank, if_pos rfl]; exact ⟨rfl, rfl, nofun⟩
  next h => exact ⟨rfl, rfl, h⟩

theorem State.visitClosed_bank (s : State) (k : Bank) (run : RunId) :
    ((s.visitClosed k run).bank k).visit = (if (s.bank k).visit = some run then none else (s.bank k).visit) ∧
      ((s.visitClosed k run).bank k).lastDeparted = (s.bank k).lastDeparted ∧
      ((s.visitClosed k run).bank k).recordRun = (s.bank k).recordRun := by
  unfold State.visitClosed
  split
  · rw [State.closeFace_bank, if_pos rfl, State.bank_modBank, if_pos rfl]; exact ⟨rfl, rfl, rfl⟩
  · exact ⟨rfl, rfl, rfl⟩

theorem State.settleBank_settledFor (s : State) (k : Bank) (run : RunId) :
    (s.bank k).settledFor run ((s.settleBank k run).bank k) := by
  have hlanes : ((((s.owedLanes k run).foldl (State.settleLane run) s).bank k).visit,
      (((s.owedLanes k run).foldl (State.settleLane run) s).bank k).lastDeparted) =
      ((s.bank k).visit, (s.bank k).lastDeparted) :=
    foldl_keeps (g := fun t : State => ((t.bank k).visit, (t.bank k).lastDeparted))
      (fun t l => by rw [(t.settleLane_visit run l k).1, (t.settleLane_visit run l k).2]) _ s
  obtain ⟨hlv, hld⟩ := Prod.mk.inj hlanes
  obtain ⟨hv, hd, hr⟩ := ((s.owedLanes k run).foldl (State.settleLane run) s).listClosed_bank k run
  obtain ⟨hv', hd', hr'⟩ := (((s.owedLanes k run).foldl (State.settleLane run) s).listClosed k run).visitClosed_bank k run
  rw [State.settleBank, State.closeBusiness_eq]
  exact ⟨by rw [hv', hv, hlv], by rw [hr']; exact hr, by rw [hd', hd, hld]⟩

/-! ## Departure (R134 to R138) -/

/-- A bank settled for a departure where it acts (R135). -/
def State.bankDeparted (run : RunId) (s : State) (k : Bank) : State :=
  if s.departureActs k run then s.settleDeparted k run else s

theorem departBank_fst (run : RunId) (acc : State × List Item) (k : Bank) :
    (departBank run acc k).1 = acc.1.bankDeparted run k := by
  unfold departBank State.bankDeparted
  split <;> rfl

theorem departBanks_fst (run : RunId) (ks : List Bank) (acc : State × List Item) :
    (ks.foldl (departBank run) acc).1 = ks.foldl (State.bankDeparted run) acc.1 := by
  induction ks generalizing acc with
  | nil => rfl
  | cons k ks ih => rw [List.foldl_cons, List.foldl_cons, ih, departBank_fst]

theorem State.bankDeparted_confined (run : RunId) (s : State) (k : Bank) : s.confined k (s.bankDeparted run k) := by
  unfold State.bankDeparted
  split
  · exact s.settleDeparted_confined k run
  · exact .refl s

theorem State.agreesOn.departureActs {k : Bank} {s t : State} (h : s.agreesOn k t) (run : RunId) :
    t.departureActs k run = s.departureActs k run := by
  rw [State.departureActs, State.departureActs, h.bank]

theorem State.agreesOn.owedLanes {k : Bank} {s t : State} (h : s.agreesOn k t) (run : RunId) :
    t.owedLanes k run = s.owedLanes k run := by
  refine List.filter_congr fun l hl => ?_
  rw [h.lane l (by simpa using (List.mem_filter.mp hl).2)]

theorem State.settleDeparted_core (s : State) (k : Bank) (run : RunId) (m : LaneIx) :
    ((s.settleDeparted k run).lane m).core = ((s.settleBank k run).lane m).core := by
  rw [State.settleDeparted, State.lane_congr (State.modBank_lanes ..)]

/-- A lane that is not promised on the run keeps its delivery at a settlement. -/
theorem State.settleBank_core_of_not_promised {s : State} {run : RunId} {m : LaneIx}
    (h : (s.lane m).promisedOn run = false) (k : Bank) : ((s.settleBank k run).lane m).core = (s.lane m).core := by
  rw [State.settleBank_core, if_neg (by simp [h])]

theorem LaneRec.promisedOn_of_core {r r' : LaneRec} (h : r.core = r'.core) (run : RunId) :
    r.promisedOn run = r'.promisedOn run := (congrArg (fun x => LaneRec.promisedOn x run) h :)

theorem LaneRec.claimsOn_of_core {r r' : LaneRec} (h : r.core = r'.core) (run : RunId) :
    r.claimsOn run = r'.claimsOn run := (congrArg (fun x => LaneRec.claimsOn x run) h :)

theorem State.bankDeparted_core_of_not_promised {s : State} {run : RunId} {m : LaneIx}
    (h : (s.lane m).promisedOn run = false) (k : Bank) : ((s.bankDeparted run k).lane m).core = (s.lane m).core := by
  unfold State.bankDeparted
  split
  · rw [State.settleDeparted_core, State.settleBank_core_of_not_promised h]
  · rfl

theorem putItem_ne_nil (items : List Item) (it : Item) : putItem items it ≠ [] := by
  unfold putItem
  split
  next h => rintro he; rw [List.map_eq_nil_iff.mp he] at h; cases h
  · simp

theorem putItems_ne_nil {owed : List Item} (h : owed ≠ []) (items : List Item) : owed.foldl putItem items ≠ [] := by
  induction owed using List.reverseRecOn with
  | nil => exact absurd rfl h
  | append_singleton owed it _ => rw [List.foldl_append]; exact putItem_ne_nil _ _

theorem reportedItems_ne_nil {s : State} {k : Bank} {run : RunId} (h : s.owedLanes k run ≠ []) :
    s.reportedItems k run ≠ [] := by
  have howed : ((s.owedLanes k run).map fun l => (s.lane l).item l) ≠ [] := by simpa using h
  unfold State.reportedItems
  dsimp only
  split
  · exact putItems_ne_nil howed _
  · split
    · exact putItems_ne_nil howed _
    · exact howed

/-- A DEPART's frame carries an item as soon as a bank it acts on has a lane owed bins. -/
theorem departBanks_items {run : RunId} {ks : List Bank} {k : Bank} (hk : k ∈ ks) (hnd : ks.Nodup) (acc : State × List Item)
    (hacts : acc.1.departureActs k run = true) (howed : acc.1.owedLanes k run ≠ []) :
    (ks.foldl (departBank run) acc).2 ≠ [] := by
  have hstay : ∀ (js : List Bank) (acc : State × List Item), acc.2 ≠ [] → (js.foldl (departBank run) acc).2 ≠ [] := by
    intro js
    induction js with
    | nil => exact fun _ h => h
    | cons j js ih =>
      refine fun acc h => ih _ ?_
      unfold departBank
      split
      · exact fun he => h (List.append_eq_nil_iff.mp he).1
      · exact h
  induction ks generalizing acc with
  | nil => cases hk
  | cons j js ih =>
    obtain ⟨hj, hjs⟩ := List.nodup_cons.mp hnd
    rcases List.mem_cons.mp hk with rfl | hk'
    · refine hstay js _ ?_
      rw [departBank, if_pos hacts]
      exact fun he => reportedItems_ne_nil howed (List.append_eq_nil_iff.mp he).2
    · have hne : k ≠ j := fun e => hj (e ▸ hk')
      have hagree : acc.1.agreesOn k (departBank run acc j).1 := by
        rw [departBank_fst]; exact (acc.1.bankDeparted_confined run j).agrees hne
      exact ih hk' hjs _ ((hagree.departureActs run).trans hacts) (by rwa [hagree.owedLanes run])

/-- What a departure from a stop sets of every lane and bank: one RECEIPT is offered where a bank reports an item. -/
theorem State.departStop_cells (s : State) (run : RunId) (stop : Nat) (k : Bank) (m : LaneIx) :
    (s.departStop run stop).lane m = ((s.banksAt stop).foldl (State.bankDeparted run) s).lane m ∧
      (s.departStop run stop).bank k = ((s.banksAt stop).foldl (State.bankDeparted run) s).bank k ∧
      (s.departStop run stop).book = ((s.banksAt stop).foldl (State.bankDeparted run) s).book := by
  have hfst := departBanks_fst run (s.banksAt stop) (s, [])
  rw [← hfst]
  unfold State.departStop
  dsimp only
  split
  · exact ⟨rfl, rfl, rfl⟩
  · exact ⟨State.lane_congr (by simp) m, State.bank_congr (by simp) (by simp) k, by simp⟩

theorem State.departStop_core_of_not_promised {s : State} {run : RunId} {m : LaneIx}
    (h : (s.lane m).promisedOn run = false) (stop : Nat) :
    ((s.departStop run stop).lane m).core = (s.lane m).core := by
  rw [(s.departStop_cells run stop .a m).1]
  generalize s.banksAt stop = ks
  induction ks generalizing s with
  | nil => rfl
  | cons k ks ih =>
    have hstep := State.bankDeparted_core_of_not_promised h k
    exact (ih ((LaneRec.promisedOn_of_core hstep run).trans h)).trans hstep

/-- Banks at other stops stand. -/
theorem State.departStop_other {s : State} {stop : Nat} {k : Bank} (h : s.prof.stopOf k ≠ stop) (run : RunId) :
    s.agreesOn k (s.departStop run stop) := by
  have hagree := foldl_agreesOn (State.bankDeparted_confined run) (fun hk => h (State.mem_banksAt.mp hk)) s
  refine ⟨by simp, by simp, fun e he => hagree.entries e ?_,
    fun m hm => ((s.departStop_cells run stop k m).1).trans (hagree.lane m hm),
    ((s.departStop_cells run stop k 0).2.1).trans hagree.bank⟩
  rwa [(s.departStop_cells run stop k 0).2.2] at he

/-- What a departure does to a bank at the stop on which it acts. -/
structure State.leftBy (run : RunId) (k : Bank) (s t : State) : Prop where
  visit : (t.bank k).visit ≠ some run
  recordRun : (t.bank k).recordRun ≠ some run
  lastDeparted : (t.bank k).lastDeparted = some run
  lane : ∀ m, bankOf m = k → (s.lane m).present = true → (s.lane m).promisedOn run = true →
    (t.lane m).core = ((s.lane m).settledShort run).core

theorem BankRec.settledFor.visit_ne {run : RunId} {b b' : BankRec} (h : b.settledFor run b') : b'.visit ≠ some run := by
  rw [h.visit]
  split
  · exact nofun
  next hne => exact hne

theorem State.settleDeparted_leftBy (s : State) (k : Bank) (run : RunId) : s.leftBy run k (s.settleDeparted k run) := by
  have hset := s.settleBank_settledFor k run
  have hbank : (s.settleDeparted k run).bank k = { (s.settleBank k run).bank k with lastDeparted := some run } := by
    rw [State.settleDeparted, State.bank_modBank, if_pos rfl]
  refine ⟨by rw [hbank]; exact hset.visit_ne, by rw [hbank]; exact hset.recordRun, by rw [hbank], fun m hm hp ho => ?_⟩
  rw [State.settleDeparted_core, State.settleBank_core, if_pos ⟨hm, hp, ho⟩]

/-- A departure that acts on a bank settles it. -/
theorem State.departStop_leftBy {s : State} {run : RunId} {k : Bank} (hacts : s.departureActs k run = true) :
    s.leftBy run k (s.departStop run (s.prof.stopOf k)) := by
  obtain ⟨u, hu, ht⟩ := foldl_bank (State.bankDeparted_confined run) (s.banksAt_nodup (s.prof.stopOf k))
    (State.mem_banksAt.mpr rfl) s
  rw [State.bankDeparted, if_pos ((hu.departureActs run).trans hacts)] at ht
  obtain ⟨hv, hr, hd, hl⟩ := u.settleDeparted_leftBy k run
  have hcells := s.departStop_cells run (s.prof.stopOf k) k
  refine ⟨?_, ?_, ?_, fun m hm hp ho => ?_⟩
  · rw [(hcells 0).2.1, ht.bank]; exact hv
  · rw [(hcells 0).2.1, ht.bank]; exact hr
  · rw [(hcells 0).2.1, ht.bank]; exact hd
  · rw [(hcells m).1, ht.lane m hm, hl m hm (by rw [hu.lane m hm, hp]) (by rw [hu.lane m hm, ho]), hu.lane m hm]

/-- A departure that acts on a bank with a lane owed bins queues a RECEIPT in ACTIVE where there is room. -/
theorem State.departStop_receipt {s : State} {run : RunId} {k : Bank} (hacts : s.departureActs k run = true)
    (howed : s.owedLanes k run ≠ []) (ha : s.isActive = true) (hroom : s.air.txq.length < 8) :
    ∃ f ∈ (s.departStop run (s.prof.stopOf k)).air.txq, f.kind = .receipt ∧
      f.payload.take 3 = bytes2 run ++ [byte (s.prof.stopOf k)] := by
  have hitems := departBanks_items (State.mem_banksAt.mpr rfl) (s.banksAt_nodup (s.prof.stopOf k)) (s, []) hacts howed
  have hair : (((s.banksAt (s.prof.stopOf k)).foldl (departBank run) (s, [])).1).air = s.air := by simp
  have hstart : (((s.banksAt (s.prof.stopOf k)).foldl (departBank run) (s, [])).1).start = s.start := by simp
  rw [State.departStop, if_neg (by simpa using hitems)]
  refine ⟨_, State.mem_offer_self ?_ (.inl (by rw [hair]; exact hroom)), rfl, rfl⟩
  show State.isActive _ = true
  rw [State.isActive, hstart]
  exact ha

end Sys2Proof.Machine
end

section
/-! PROOFS. Arrivals and departures heard by a rack (R127 to R138). -/

namespace Sys2Proof.Machine

/-! ## Frames of a train (R127, R134) -/

theorem loByte_word (lo hi : Byte) : loByte (word lo hi) = lo := by
  show (hi ++ lo : BitVec (8 + 8)).setWidth 8 = lo
  ext i hi'
  rw [BitVec.getElem_setWidth, BitVec.getLsbD_append, if_pos hi', BitVec.getLsbD_eq_getElem]

theorem hiByte_word (lo hi : Byte) : hiByte (word lo hi) = hi := by
  show ((hi ++ lo : BitVec (8 + 8)) >>> 8).setWidth 8 = hi
  ext i hi'
  rw [BitVec.getElem_setWidth, BitVec.getLsbD_ushiftRight, BitVec.getLsbD_append, if_neg (by omega), Nat.add_sub_cancel_left,
    BitVec.getLsbD_eq_getElem]

theorem byte_of_toNat (b : Byte) : byte b.toNat = b := by simp [byte]

theorem bytes2_word (lo hi : Byte) : bytes2 (word lo hi) = [lo, hi] := by rw [bytes2, loByte_word, hiByte_word]

/-- A frame for the run list or the delivery unit, heard by a working RACK. -/
theorem State.arrives_rack {s : State} {k : FrameKind} {src : Byte} {p : List Byte} (hh : s.hears src = true)
    (hshape : shapeFits k p = true) (hk : k ≠ .claimset) :
    s.arrives k src p = (s.hunting.handOver ⟨k, src, p⟩).endEvent :=
  State.arrives_of_hears hh hshape (State.not_waits_of_kind hk)

/-- The owners of a rack's frames (R174). -/
theorem State.handOver_rack {s : State} (hr : s.worksAs .rack = true) (src : Byte) (p : List Byte) :
    s.handOver ⟨.run, src, p⟩ = s.takeRun src p ∧ s.handOver ⟨.manifest, src, p⟩ = s.takeManifest src p ∧
      s.handOver ⟨.arrive, src, p⟩ = s.takeArrive src p ∧ s.handOver ⟨.depart, src, p⟩ = s.takeDepart src p := by
  have hf := State.not_fault_of_working (State.working_of_worksAs hr)
  have hrole : (s.start.role == .rack) = true := beq_iff_eq.mpr (State.role_of_worksAs hr)
  simp only [State.handOver, if_neg hf, hrole, if_true, and_self]

theorem State.isActive_congr {s t : State} (h : t.start = s.start) : t.isActive = s.isActive := by
  rw [State.isActive, State.isActive, h]

theorem State.hunting_bank (s : State) (k : Bank) : s.hunting.bank k = s.bank k := State.bank_congr rfl rfl k

/-! ## A DEPART heard -/

theorem exec_depart {s : State} {src lo stop : Byte} (hr : s.worksAs .rack = true) (hh : s.hears src = true)
    (h1 : 1 ≤ stop.toNat) (h32 : stop.toNat ≤ 32) :
    exec (.depart src [lo, src, stop]) s = .next (s.hunting.departStop (word lo src) stop.toNat).endEvent := by
  have harr : s.arrives .depart src [lo, src, stop] = _ := State.arrives_rack hh rfl nofun
  rw [(State.handOver_rack (s := s.hunting) hr src _).2.2.2] at harr
  have htake : s.hunting.takeDepart src [lo, src, stop] = s.hunting.departStop (word lo src) stop.toNat :=
    if_pos ⟨hiByte_word lo src, decide_eq_true ⟨h1, h32⟩⟩
  rw [htake] at harr
  exact congrArg _ harr

/-- Settles O36: every bank at the stop is settled in its turn, and dealing with one leaves the other. -/
theorem departSettlesLanes : Obligations.DepartSettlesLanes := by
  intro s src lo stop k hr hh hk h1 h32 hacts run
  have hacts' : s.hunting.departureActs k run = true := by rw [State.departureActs, State.hunting_bank]; exact hacts
  have hstop : s.hunting.prof.stopOf k = stop.toNat := hk
  have hleft := State.departStop_leftBy hacts'
  rw [hstop] at hleft
  obtain ⟨hvisit, hrec, hdep, hlane⟩ := hleft
  refine ⟨_, exec_depart hr hh h1 h32, ?_, ?_, ?_, fun l hl hp ho => ?_, fun l ho => ?_, fun ha hroom ⟨l, hl, hp, ho⟩ => ?_,
    fun l => ?_, fun l hl => ?_, ?_, ?_, ?_, ?_⟩
  · rw [State.endEvent_bank]; exact hvisit
  · rw [State.endEvent_bank]; exact hdep
  · rw [State.endEvent_bank]; exact hrec
  · have hcore := (State.endEvent_core _ l).trans (hlane l hl hp ho)
    obtain ⟨hd, -, -, hsb, -⟩ := LaneRec.of_core hcore
    obtain ⟨hcall, -, honRun, hreq, hdel, hshort, -⟩ := DeliveryView.mk.inj hd
    exact ⟨hcall, honRun, hreq, hdel, hshort, hsb⟩
  · exact (LaneRec.of_core ((State.endEvent_core _ l).trans
      (State.departStop_core_of_not_promised (s := s.hunting) ho _))).1
  · have howed : s.hunting.owedLanes k run ≠ [] := List.ne_nil_of_mem (State.mem_owedLanes.mpr ⟨hl, hp, ho⟩)
    have h := State.departStop_receipt hacts' howed ha (of_decide_eq_true hroom)
    rw [hstop] at h
    simpa [run, bytes2_word, byte_of_toNat] using h
  · rw [(State.endEvent_lane _ l).1]
    exact (LaneRec.of_goods ((s.hunting.departStop_goods run stop.toNat).lane l)).2.2
  · rw [State.endEvent_steady, (State.departStop_other (s := s.hunting) hl run).lane l rfl]
    rfl
  · simp [State.hunting]
  · simp [State.hunting]
  · simp [State.hunting]
  · simp [State.hunting]

/-! ## The lanes at an ARRIVE (R128 to R130) -/

/-- A lane with another run's business settled (R128). -/
def LaneRec.clearedFor (record : Option RunId) (run : RunId) (r : LaneRec) : LaneRec :=
  if ∃ other, record = some other ∧ other ≠ run ∧ r.present = true ∧ r.promisedOn other = true then
    r.settledShort (record.getD run)
  else r

/-- A lane on the run that has arrived (R129). -/
def LaneRec.arrivedAs (run : RunId) (r : LaneRec) : LaneRec :=
  if r.present = false then r
  else if r.call = .manifested ∧ r.onRun = some run then r.becomeDue run r.requested r.delivered false
  else if r.claimsOn run = true then r.becomeDue run r.requested 0 true
  else r

/-- The outstanding bins of a lane that a revisit of the run takes up (R130). -/
def LaneRec.revisitBins (run : RunId) (r : LaneRec) : Option Nat :=
  r.short.bind fun x => if r.present && x.1 == run && (r.call == .calling || r.call.claims) then some x.2 else none

/-- A lane at a revisit (R130). -/
def LaneRec.revisitedAs (run : RunId) (r : LaneRec) : LaneRec :=
  match r.revisitBins run with
  | some out => r.becomeDue run out 0 false
  | none => r

/-- A lane of a bank that takes an ARRIVE (R128 to R130). -/
def LaneRec.atArrival (record : Option RunId) (run : RunId) (revisit : Bool) (r : LaneRec) : LaneRec :=
  if revisit then ((r.clearedFor record run).arrivedAs run).revisitedAs run else (r.clearedFor record run).arrivedAs run

theorem LaneRec.coreMap.of_core {f : LaneRec → LaneRec} (h : ∀ r : LaneRec, (f r.core).core = (f r).core) :
    LaneRec.coreMap f := fun r r' hr => by rw [← h r, ← h r', hr]

theorem LaneRec.arrivedAs_coreMap (run : RunId) : LaneRec.coreMap (LaneRec.arrivedAs run) := .of_core fun r => by
  simp only [LaneRec.arrivedAs, apply_ite LaneRec.core]
  rfl

theorem LaneRec.revisitedAs_coreMap (run : RunId) : LaneRec.coreMap (LaneRec.revisitedAs run) := .of_core fun r => by
  have h : r.core.revisitBins run = r.revisitBins run := rfl
  simp only [LaneRec.revisitedAs, h]
  split <;> rfl

theorem State.joinItems_lane (s : State) (l m : LaneIx) : (s.joinItems l).lane m = s.lane m := State.lane_congr (by simp) m

theorem State.arriveLane_core (run : RunId) (s : State) (l m : LaneIx) :
    ((s.arriveLane run l).lane m).core = if m = l then ((s.lane l).arrivedAs run).core else (s.lane m).core := by
  have hstand : (s.lane m).core = if m = l then (s.lane l).core else (s.lane m).core := by
    split
    next h => rw [h]
    · rfl
  have hrelease : ∀ j, (s.releaseClaim l).lane j = s.lane j := State.lane_congr (s.releaseClaim_lanes l)
  unfold State.arriveLane
  dsimp only
  cases hp : (s.lane l).present
  · rw [LaneRec.arrivedAs, if_pos hp]
    exact hstand
  · rw [LaneRec.arrivedAs, if_neg (show ¬(!true) = true by simp), if_neg (show ¬(s.lane l).present = false by simp [hp])]
    by_cases hman : (s.lane l).call = .manifested ∧ (s.lane l).onRun = some run
    · rw [if_pos hman, if_pos hman, State.joinItems_lane, State.moveLane_core]
    · rw [if_neg hman, if_neg hman]
      by_cases hclaim : (s.lane l).claimsOn run = true
      · rw [if_pos hclaim, if_pos hclaim, State.joinItems_lane, State.moveLane_core, hrelease, hrelease]
      · rw [if_neg hclaim, if_neg hclaim]
        exact hstand

/-- A revisit by the bins that it takes up. -/
theorem State.revisitLane_eq (run : RunId) (s : State) (l : LaneIx) :
    s.revisitLane run l =
      match (s.lane l).revisitBins run with
      | some out => ((s.releaseClaim l).moveLane l (LaneRec.becomeDue run out 0 false)).joinItems l
      | none => s := by
  unfold State.revisitLane LaneRec.revisitBins
  dsimp only
  generalize (s.lane l).short = short
  rcases short with _ | ⟨id, out⟩
  · rfl
  · dsimp only [Option.bind_some]
    generalize ((s.lane l).present && id == run && ((s.lane l).call == .calling || (s.lane l).call.claims)) = takes
    cases takes <;> rfl

theorem State.revisitLane_core (run : RunId) (s : State) (l m : LaneIx) :
    ((s.revisitLane run l).lane m).core = if m = l then ((s.lane l).revisitedAs run).core else (s.lane m).core := by
  have hrelease : ∀ j, (s.releaseClaim l).lane j = s.lane j := State.lane_congr (s.releaseClaim_lanes l)
  rw [State.revisitLane_eq, LaneRec.revisitedAs]
  rcases (s.lane l).revisitBins run with _ | out
  · dsimp only
    split
    next h => rw [h]
    · rfl
  · dsimp only
    rw [State.joinItems_lane, State.moveLane_core, hrelease, hrelease]

theorem State.clearedFor_core (s : State) (k : Bank) (run : RunId) {m : LaneIx} (hm : bankOf m = k) :
    ((s.clearedFor k run).lane m).core = ((s.lane m).clearedFor (s.bank k).recordRun run).core := by
  unfold State.clearedFor LaneRec.clearedFor
  rcases (s.bank k).recordRun with _ | other
  · simp
  · dsimp only
    by_cases ho : other = run
    · rw [if_pos ho, if_neg (by simp [ho])]
    · rw [if_neg ho, State.settleBank_core]
      simp [hm, ho, apply_ite LaneRec.core]

theorem bankLanes_nodup (k : Bank) : (bankLanes k).Nodup := (List.nodup_finRange _).filter _

theorem mem_bankLanes {k : Bank} {l : LaneIx} : l ∈ bankLanes k ↔ bankOf l = k := by simp [bankLanes, allLanes]

theorem State.arriveLane_confined (run : RunId) (s : State) (l : LaneIx) : s.confined (bankOf l) (s.arriveLane run l) := by
  unfold State.arriveLane
  dsimp only
  split
  · exact .refl s
  · split
    · exact (s.moveLane_confined ..).trans (State.joinItems_confined ..)
    · split
      · exact (s.releaseClaim_confined ..).trans ((State.moveLane_confined ..).trans (State.joinItems_confined ..))
      · exact .refl s

theorem State.revisitLane_confined (run : RunId) (s : State) (l : LaneIx) : s.confined (bankOf l) (s.revisitLane run l) := by
  rw [State.revisitLane_eq]
  split
  · exact (s.releaseClaim_confined ..).trans ((State.moveLane_confined ..).trans (State.joinItems_confined ..))
  · exact .refl s

theorem State.lanesArrived_confined (s : State) (k : Bank) (run : RunId) (revisit : Bool) :
    s.confined k (s.lanesArrived k run revisit) := by
  have harrive : s.confined k ((bankLanes k).foldl (State.arriveLane run) s) :=
    .foldl (fun t l hl => hl ▸ State.arriveLane_confined run t l) (fun _ hl => mem_bankLanes.mp hl) s
  unfold State.lanesArrived
  dsimp only
  split
  · exact harrive.trans (.foldl (fun t l hl => hl ▸ State.revisitLane_confined run t l) (fun _ hl => mem_bankLanes.mp hl) _)
  · exact harrive

theorem State.clearedFor_confined (s : State) (k : Bank) (run : RunId) : s.confined k (s.clearedFor k run) := by
  unfold State.clearedFor
  split
  · split
    · exact .refl s
    · exact s.settleBank_confined ..
  · exact .refl s

theorem State.arriveBank_confined (run : RunId) (revisit : Bool) (s : State) (k : Bank) :
    s.confined k (s.arriveBank run revisit k) := by
  rw [State.arriveBank_eq]
  exact (s.clearedFor_confined k run).trans ((State.modBank_confined ..).trans
    ((State.lanesArrived_confined ..).trans (State.trigger_confined ..)))

theorem State.arrivedLanes_runs (run : RunId) (ls : List LaneIx) (s : State) :
    (ls.foldl (State.arriveLane run) s).runs = s.runs :=
  foldl_keeps (g := State.runs) (fun t l => (t.arriveLane_confined run l).runs) ls s

theorem State.lanesArrived_core (s : State) (k : Bank) (run : RunId) (revisit : Bool) {m : LaneIx} (hm : bankOf m = k) :
    ((s.lanesArrived k run revisit).lane m).core =
      (if revisit && (s.runRec run).isSome then ((s.lane m).arrivedAs run).revisitedAs run
        else (s.lane m).arrivedAs run).core := by
  have hmem := mem_bankLanes.mpr hm
  have harrive := foldl_core (LaneRec.arrivedAs_coreMap run) (State.arriveLane_core run) (bankLanes_nodup k) s m
  rw [if_pos hmem] at harrive
  have hrun : ((bankLanes k).foldl (State.arriveLane run) s).runRec run = s.runRec run := by
    rw [State.runRec, State.arrivedLanes_runs, State.runRec]
  unfold State.lanesArrived
  dsimp only
  rw [hrun]
  split
  · rw [foldl_core (LaneRec.revisitedAs_coreMap run) (State.revisitLane_core run) (bankLanes_nodup k), if_pos hmem]
    exact LaneRec.revisitedAs_coreMap run _ _ harrive
  · exact harrive

/-- What an ARRIVE makes of a lane of a bank at its stop. -/
theorem State.arriveBank_core (run : RunId) (revisit : Bool) (s : State) (k : Bank) {m : LaneIx} (hm : bankOf m = k) :
    ((s.arriveBank run revisit k).lane m).core =
      ((s.lane m).atArrival (s.bank k).recordRun run (revisit && (s.runRec run).isSome)).core := by
  have hruns : ((s.clearedFor k run).visitOpened k run revisit).runRec run = s.runRec run := by
    have h : ((s.clearedFor k run).visitOpened k run revisit).runs = s.runs :=
      (State.modBank_runs ..).trans (s.clearedFor_confined k run).runs
    rw [State.runRec, State.runRec, h]
  have hlane : ((s.clearedFor k run).visitOpened k run revisit).lane m = (s.clearedFor k run).lane m :=
    State.lane_congr (State.modBank_lanes ..) m
  rw [State.arriveBank_eq, State.trigger_core, State.lanesArrived_core _ k run revisit hm, hruns, hlane,
    LaneRec.atArrival]
  have hcleared := s.clearedFor_core k run hm
  have harrived := LaneRec.arrivedAs_coreMap run _ _ hcleared
  split
  · exact LaneRec.revisitedAs_coreMap run _ _ harrived
  · exact harrived

/-! ## The bank at an ARRIVE (R127, R128) -/

/-- The fields of a bank record that an ARRIVE sets. -/
def BankRec.opened (b : BankRec) : Option RunId × Option RunId × Bool := (b.visit, b.recordRun, b.revisit)

theorem State.moveLane_opened (s : State) (l : LaneIx) (f : LaneRec → LaneRec) (k : Bank) :
    ((s.moveLane l f).bank k).opened = (s.bank k).opened :=
  have h := s.moveLane_bank l f k
  (congrArg BankRec.opened h :)

theorem State.joinItems_opened (s : State) (l : LaneIx) (k : Bank) :
    ((s.joinItems l).bank k).opened = (s.bank k).opened := by
  rw [State.joinItems, State.bank_modBank]
  split
  next h => rw [h]; rfl
  · rfl

theorem State.releaseClaim_bank (s : State) (l : LaneIx) (k : Bank) : (s.releaseClaim l).bank k = s.bank k := by
  unfold State.releaseClaim
  split
  · rw [State.ask_bank]
    exact State.bank_congr rfl rfl k
  · rfl

theorem State.arriveLane_opened (run : RunId) (s : State) (l : LaneIx) (k : Bank) :
    ((s.arriveLane run l).bank k).opened = (s.bank k).opened := by
  unfold State.arriveLane
  dsimp only
  split
  · rfl
  · split
    · rw [State.joinItems_opened, State.moveLane_opened]
    · split
      · rw [State.joinItems_opened, State.moveLane_opened, State.releaseClaim_bank]
      · rfl

theorem State.revisitLane_opened (run : RunId) (s : State) (l : LaneIx) (k : Bank) :
    ((s.revisitLane run l).bank k).opened = (s.bank k).opened := by
  rw [State.revisitLane_eq]
  split
  · rw [State.joinItems_opened, State.moveLane_opened, State.releaseClaim_bank]
  · rfl

theorem State.lanesArrived_opened (s : State) (k : Bank) (run : RunId) (revisit : Bool) (j : Bank) :
    ((s.lanesArrived k run revisit).bank j).opened = (s.bank j).opened := by
  have harrive := foldl_keeps (g := fun t : State => (t.bank j).opened) (fun t l => t.arriveLane_opened run l j)
    (bankLanes k) s
  unfold State.lanesArrived
  dsimp only
  split
  · exact (foldl_keeps (g := fun t : State => (t.bank j).opened) (fun t l => t.revisitLane_opened run l j) _ _).trans harrive
  · exact harrive

theorem State.arriveBank_bank (run : RunId) (revisit : Bool) (s : State) (k : Bank) :
    ((s.arriveBank run revisit k).bank k).opened = (some run, some run, revisit) ∧
      ((s.arriveBank run revisit k).bank k).faceOpen = true := by
  rw [State.arriveBank_eq, State.trigger_bank, if_pos rfl]
  refine ⟨(State.lanesArrived_opened ..).trans ?_, rfl⟩
  rw [State.visitOpened, State.bank_modBank, if_pos rfl]
  rfl

/-! ## Own entries at a revisit (R82, R130) -/

theorem State.releaseClaim_own {s : State} {l : LaneIx} (h : (s.lane l).call.claims = true) :
    ∀ e ∈ (s.releaseClaim l).book.entries, ¬(e.own = true ∧ e.lane = l) := by
  rw [State.releaseClaim, if_pos h]
  intro e he
  have hkept := (List.mem_filter.mp he).2
  rintro ⟨ho, hl⟩
  simp [ho, hl] at hkept

theorem LaneRec.revisitBins_of_core {r r' : LaneRec} (h : r.core = r'.core) (run : RunId) :
    r.revisitBins run = r'.revisitBins run := (congrArg (fun x => LaneRec.revisitBins run x) h :)

/-- A lane with a claim that a revisit takes up has no own entry after it. -/
theorem revisitLanes_own {run : RunId} {ls : List LaneIx} (hnd : ls.Nodup) {l : LaneIx} (hl : l ∈ ls) (s : State) {out : Nat}
    (hout : (s.lane l).revisitBins run = some out) (hc : (s.lane l).call.claims = true) :
    ∀ e ∈ (ls.foldl (State.revisitLane run) s).book.entries, ¬(e.own = true ∧ e.lane = l) := by
  have hshrink : ∀ (js : List LaneIx) (t : State), ∀ e ∈ (js.foldl (State.revisitLane run) t).book.entries,
      e ∈ t.book.entries := by
    intro js
    induction js with
    | nil => exact fun _ _ he => he
    | cons j js ih => exact fun t e he => (t.revisitLane_confined run j).entries e (ih _ e he)
  induction ls generalizing s with
  | nil => cases hl
  | cons j js ih =>
    obtain ⟨hj, hjs⟩ := List.nodup_cons.mp hnd
    rcases List.mem_cons.mp hl with rfl | hl'
    · refine fun e he => State.releaseClaim_own hc e ?_
      have hstep := hshrink js _ e he
      rw [State.revisitLane_eq, hout] at hstep
      exact (State.moveLane_confined ..).entries e ((State.joinItems_confined ..).entries e hstep)
    · have hcore := State.revisitLane_core run s j l
      rw [if_neg (fun e : l = j => hj (e ▸ hl'))] at hcore
      exact ih hjs hl' _ ((LaneRec.revisitBins_of_core hcore run).trans hout)
        ((congrArg (fun r => r.call.claims) hcore).trans hc)

/-! ## A lane at an ARRIVE, by what it was (R128 to R130) -/

/-- A lane that is not promised on another run is not settled. -/
theorem LaneRec.clearedFor_of_free {r : LaneRec} {run : RunId} (h : ∀ other, other ≠ run → r.promisedOn other = false)
    (record : Option RunId) : r.clearedFor record run = r := by
  rw [LaneRec.clearedFor, if_neg]
  rintro ⟨other, -, hne, -, ho⟩
  rw [h other hne] at ho
  cases ho

theorem LaneRec.revisitedAs_of_short_none {r : LaneRec} (h : r.short = none) (run : RunId) : r.revisitedAs run = r := by
  rw [LaneRec.revisitedAs, LaneRec.revisitBins, h]
  rfl

/-- A lane that has become DUE at the arrival has no short record left to revisit. -/
theorem LaneRec.atArrival_of_arrived {r : LaneRec} {record : Option RunId} {run : RunId} {q d : Nat} {p : Bool}
    (hc : r.clearedFor record run = r) (ha : r.arrivedAs run = r.becomeDue run q d p) (revisit : Bool) :
    r.atArrival record run revisit = r.becomeDue run q d p := by
  have hshort : LaneRec.revisitedAs run (r.becomeDue run q d p) = r.becomeDue run q d p :=
    LaneRec.revisitedAs_of_short_none rfl run
  rw [LaneRec.atArrival, hc, ha, hshort, ite_self]

theorem LaneRec.atArrival_manifested {r : LaneRec} {run : RunId} (hp : r.present = true) (hc : r.call = .manifested)
    (ho : r.onRun = some run) (record : Option RunId) (revisit : Bool) :
    r.atArrival record run revisit = r.becomeDue run r.requested r.delivered false := by
  refine LaneRec.atArrival_of_arrived (LaneRec.clearedFor_of_free (fun other hne => ?_) record) ?_ revisit
  · simp [LaneRec.promisedOn, ho, hne.symm]
  · rw [LaneRec.arrivedAs, if_neg (by simp [hp]), if_pos ⟨hc, ho⟩]

theorem LaneRec.not_promised_of_claimsOn {r : LaneRec} {run : RunId} (h : r.claimsOn run = true) :
    r.call.promised = false := by
  have hc := (Bool.and_eq_true_iff.mp h).1
  revert hc
  cases r.call <;> simp [CallState.claims, CallState.promised]

theorem LaneRec.not_promisedOn {r : LaneRec} (h : r.call.promised = false) (run : RunId) : r.promisedOn run = false := by
  simp [LaneRec.promisedOn, h]

theorem LaneRec.atArrival_claims {r : LaneRec} {run : RunId} (hp : r.present = true) (hc : r.claimsOn run = true)
    (record : Option RunId) (revisit : Bool) :
    r.atArrival record run revisit = r.becomeDue run r.requested 0 true := by
  have hfree := LaneRec.not_promised_of_claimsOn hc
  refine LaneRec.atArrival_of_arrived (LaneRec.clearedFor_of_free (fun other _ => LaneRec.not_promisedOn hfree other) record)
    ?_ revisit
  rw [LaneRec.arrivedAs, if_neg (by simp [hp]), if_neg (fun h => by rw [h.1] at hfree; cases hfree), if_pos hc]

theorem LaneRec.atArrival_other {r : LaneRec} {run other : RunId} (hp : r.present = true) (hne : other ≠ run)
    (ho : r.promisedOn other = true) (revisit : Bool) :
    r.atArrival (some other) run revisit = r.settledShort other := by
  have hcleared : r.clearedFor (some other) run = r.settledShort other := if_pos ⟨other, rfl, hne, hp, ho⟩
  have harrived : (r.settledShort other).arrivedAs run = r.settledShort other := by
    rw [LaneRec.arrivedAs, if_neg (by simp [LaneRec.settledShort, hp]), if_neg (by simp [LaneRec.settledShort]),
      if_neg (by simp [LaneRec.settledShort, LaneRec.claimsOn])]
  have hrevisit : (r.settledShort other).revisitedAs run = r.settledShort other := by
    simp [LaneRec.revisitedAs, LaneRec.revisitBins, LaneRec.settledShort, hne]
  rw [LaneRec.atArrival, hcleared, harrived, hrevisit, ite_self]

theorem LaneRec.arrivedAs_free {r : LaneRec} {run : RunId} (hf : r.call.promised = false) (hc : r.claimsOn run = false) :
    r.arrivedAs run = r := by
  rw [LaneRec.arrivedAs, if_neg (c := r.call = _ ∧ _) (fun h => by rw [h.1] at hf; cases hf),
    if_neg (c := r.claimsOn run = true) (by simp [hc]), ite_self]

theorem LaneRec.clearedFor_free {r : LaneRec} (hf : r.call.promised = false) (record : Option RunId) (run : RunId) :
    r.clearedFor record run = r := LaneRec.clearedFor_of_free (fun other _ => LaneRec.not_promisedOn hf other) record

/-- A lane with neither a promise nor a claim on the run stands until a revisit. -/
theorem LaneRec.atArrival_free {r : LaneRec} {run : RunId} (hf : r.call.promised = false) (hc : r.claimsOn run = false)
    (record : Option RunId) (revisit : Bool) :
    r.atArrival record run revisit = if revisit then r.revisitedAs run else r := by
  rw [LaneRec.atArrival, LaneRec.clearedFor_free hf, LaneRec.arrivedAs_free hf hc]

theorem LaneRec.revisitedAs_of_bins {r : LaneRec} {run : RunId} {out : Nat} (h : r.revisitBins run = some out) :
    r.revisitedAs run = r.becomeDue run out 0 false := by rw [LaneRec.revisitedAs, h]

/-- The own entry of a lane that a revisit takes up leaves the book. -/
theorem State.arriveBank_own {run : RunId} {s : State} {l : LaneIx} {out : Nat} (hlisted : (s.runRec run).isSome = true)
    (hout : (s.lane l).revisitBins run = some out) (hc : (s.lane l).call.claims = true)
    (hno : (s.lane l).claimsOn run = false) :
    ∀ e ∈ (s.arriveBank run true (bankOf l)).book.entries, ¬(e.own = true ∧ e.lane = l) := by
  have hf : (s.lane l).call.promised = false := by
    revert hc
    cases (s.lane l).call <;> simp [CallState.claims, CallState.promised]
  intro e he
  rw [State.arriveBank_eq] at he
  have hin := (State.trigger_confined _ (bankOf l)).entries e he
  have hruns : ((s.clearedFor (bankOf l) run).visitOpened (bankOf l) run true).runs = s.runs :=
    (State.modBank_runs ..).trans (s.clearedFor_confined (bankOf l) run).runs
  have hlane : ((s.clearedFor (bankOf l) run).visitOpened (bankOf l) run true).lane l = (s.clearedFor (bankOf l) run).lane l :=
    State.lane_congr (State.modBank_lanes ..) l
  generalize (s.clearedFor (bankOf l) run).visitOpened (bankOf l) run true = v at hin hruns hlane
  have hcore : (((bankLanes (bankOf l)).foldl (State.arriveLane run) v).lane l).core = (s.lane l).core := by
    rw [foldl_core (LaneRec.arrivedAs_coreMap run) (State.arriveLane_core run) (bankLanes_nodup _), hlane,
      if_pos (mem_bankLanes.mpr rfl), LaneRec.arrivedAs_coreMap run _ _ (s.clearedFor_core (bankOf l) run rfl),
      LaneRec.clearedFor_free hf, LaneRec.arrivedAs_free hf hno]
  have hrun : (((bankLanes (bankOf l)).foldl (State.arriveLane run) v).runRec run).isSome = true := by
    rw [State.runRec, State.arrivedLanes_runs, hruns]; exact hlisted
  have hrev : v.lanesArrived (bankOf l) run true =
      (bankLanes (bankOf l)).foldl (State.revisitLane run) ((bankLanes (bankOf l)).foldl (State.arriveLane run) v) :=
    if_pos (by rw [hrun]; rfl)
  rw [hrev] at hin
  exact revisitLanes_own (bankLanes_nodup _) (mem_bankLanes.mpr rfl) _ ((LaneRec.revisitBins_of_core hcore run).trans hout)
    ((congrArg (fun r => r.call.claims) hcore).trans hc) e hin

/-! ## An ARRIVE heard -/

theorem exec_arrive {s : State} {src lo stop flags : Byte} (hr : s.worksAs .rack = true) (hh : s.hears src = true)
    (h1 : 1 ≤ stop.toNat) (h32 : stop.toNat ≤ 32) :
    exec (.arrive src [lo, src, stop, flags]) s =
        .next (s.hunting.takeArrive src [lo, src, stop, flags]).endEvent ∧
      s.hunting.takeArrive src [lo, src, stop, flags] =
        (s.hunting.banksAt stop.toNat).foldl (State.arriveBank (word lo src) (flags.getLsbD 1)) s.hunting := by
  have harr : s.arrives .arrive src [lo, src, stop, flags] = _ := State.arrives_rack hh rfl nofun
  rw [(State.handOver_rack (s := s.hunting) hr src _).2.2.1] at harr
  exact ⟨congrArg _ harr, if_pos ⟨hiByte_word lo src, decide_eq_true ⟨h1, h32⟩⟩⟩

/-- Settles O35: every bank at the stop takes the ARRIVE in its turn, and each of its lanes by what it was. -/
theorem arriveOpensVisit : Obligations.ArriveOpensVisit := by
  intro s src lo stop flags k hr hh hk h1 h32 run
  obtain ⟨hexec, htake⟩ := exec_arrive (lo := lo) (flags := flags) hr hh h1 h32
  have hkat : k ∈ s.hunting.banksAt stop.toNat := State.mem_banksAt.mpr hk
  obtain ⟨u, hu, ht⟩ := foldl_bank (State.arriveBank_confined run (flags.getLsbD 1))
    (s.hunting.banksAt_nodup stop.toNat) hkat s.hunting
  rw [← htake] at ht
  obtain ⟨hopened, hface⟩ := u.arriveBank_bank run (flags.getLsbD 1) k
  have hbank : ((s.hunting.takeArrive src [lo, src, stop, flags]).endEvent).bank k =
      (u.arriveBank run (flags.getLsbD 1) k).bank k := by rw [State.endEvent_bank, ht.bank]
  have hlane : ∀ l, bankOf l = k → (((s.hunting.takeArrive src [lo, src, stop, flags]).endEvent).lane l).core =
      ((s.lane l).atArrival (s.bank k).recordRun run (flags.getLsbD 1 && (s.runRec run).isSome)).core := fun l hl => by
    rw [State.endEvent_core, ht.lane l hl, State.arriveBank_core _ _ _ _ hl, hu.lane l hl, hu.bank, State.hunting_bank,
      State.runRec, hu.runs]
    rfl
  refine ⟨_, hexec, ?_, ?_, ?_, by rw [hbank, hface], fun l hl hp => ⟨fun hc ho => ?_, fun hc => ?_, fun other hrec hne ho => ?_,
    fun out hf hlisted hshort hc hno => ?_, fun hf hc => ?_⟩, fun l => ?_, fun l hl => ?_, ?_, ?_, ?_, ?_, ?_, ?_⟩
  · rw [hbank]; exact congrArg Prod.fst hopened
  · rw [hbank]; exact congrArg (fun x => x.2.1) hopened
  · rw [hbank]; exact congrArg (fun x => x.2.2) hopened
  · have h := hlane l hl
    rw [LaneRec.atArrival_manifested hp hc ho] at h
    obtain ⟨hcall, -, honRun, hreq, hdel, -, -, hprov⟩ := DeliveryView.mk.inj (LaneRec.of_core h).1
    exact ⟨hcall, honRun, hreq, hdel, hprov⟩
  · have h := hlane l hl
    rw [LaneRec.atArrival_claims hp hc] at h
    obtain ⟨hcall, hclaim, honRun, hreq, hdel, -, -, hprov⟩ := DeliveryView.mk.inj (LaneRec.of_core h).1
    exact ⟨hcall, honRun, hclaim, hreq, hdel, hprov⟩
  · have h := hlane l hl
    rw [hrec, LaneRec.atArrival_other hp hne ho] at h
    obtain ⟨hd, -, -, hsb, -⟩ := LaneRec.of_core h
    obtain ⟨hcall, -, honRun, hreq, hdel, hshort, -⟩ := DeliveryView.mk.inj hd
    exact ⟨hcall, honRun, hreq, hdel, hshort, hsb⟩
  · have hfree : (s.lane l).call.promised = false := by rcases hc with hc | hc | hc <;> rw [hc] <;> rfl
    have hbins : (s.lane l).revisitBins run = some out := by
      rcases hc with hc | hc | hc <;> simp [LaneRec.revisitBins, hshort, hp, hc, CallState.claims]
    have h := hlane l hl
    rw [LaneRec.atArrival_free hfree hno, hf, hlisted, Bool.and_self, if_pos rfl, LaneRec.revisitedAs_of_bins hbins] at h
    obtain ⟨hcall, hclaim, honRun, hreq, hdel, hsh, hlate, hprov⟩ := DeliveryView.mk.inj (LaneRec.of_core h).1
    refine ⟨hcall, honRun, hclaim, hreq, hdel, hprov, hsh, fun hnc => ?_⟩
    have hclaims : (s.lane l).call.claims = true := by
      rcases hc with hc | hc | hc
      · exact absurd hc hnc
      · rw [hc]; rfl
      · rw [hc]; rfl
    refine ⟨hlate.trans (by simp [LaneRec.becomeDue, hclaims]), fun e he => ?_⟩
    rw [(State.endEvent_book _).1] at he
    have hin := ht.entries e he
    subst hl
    have hul := hu.lane l rfl
    rw [hf] at hin
    exact State.arriveBank_own (by rw [State.runRec, hu.runs]; exact hlisted) (by rw [hul]; exact hbins)
      (by rw [hul]; exact hclaims) (by rw [hul]; exact hno) e hin
  · have hfree : (s.lane l).call.promised = false := by rcases hc with hc | hc <;> rw [hc] <;> rfl
    have hno : (s.lane l).claimsOn run = false := by rcases hc with hc | hc <;> simp [LaneRec.claimsOn, hc, CallState.claims]
    have h := hlane l hl
    rw [LaneRec.atArrival_free hfree hno, hf] at h
    exact (LaneRec.of_core h).1
  · rw [(State.endEvent_lane _ l).1]
    exact (LaneRec.of_goods ((s.hunting.takeArrive_goods ..).lane l)).2.2
  · have hother : bankOf l ∉ s.hunting.banksAt stop.toNat := fun h => hl (State.mem_banksAt.mp h)
    rw [State.endEvent_steady, htake, (foldl_agreesOn (State.arriveBank_confined _ _) hother s.hunting).lane l rfl]
    rfl
  · simp [State.hunting]
  · simp [State.hunting]
  · simp [State.hunting]
  · simp [State.hunting]
  · simp [State.hunting]
  · simp [State.hunting]

end Sys2Proof.Machine
end

section
/-! PROOFS. How a run leaves a rack and how a manifest wait ends (R61, R64, R65, R70). -/

namespace Sys2Proof.Machine

/-! ## The run list by run id -/

theorem State.runRec_modRun (s : State) (run id : RunId) {f : RunRec → RunRec} (hf : ∀ x, x.id = run → (f x).id = run) :
    (s.modRun run f).runRec id = (s.runRec id).map fun x => if x.id = run then f x else x := by
  have hid : ∀ x : RunRec, (if x.id = run then f x else x).id = x.id := fun x => by
    split
    next h => rw [hf x h, h]
    · rfl
  simp only [State.runRec, State.modRun, List.find?_map]
  congr 2
  funext x
  exact congrArg (· == id) (hid x)

theorem State.runRec_modRun_same {s : State} {run : RunId} {r : RunRec} (h : s.runRec run = some r)
    {f : RunRec → RunRec} (hf : ∀ x, x.id = run → (f x).id = run) : (s.modRun run f).runRec run = some (f r) := by
  rw [State.runRec_modRun _ _ _ hf, h, Option.map_some, if_pos (State.runRec_some h).2]

theorem State.runRec_modRun_other (s : State) {run id : RunId} (hne : id ≠ run) {f : RunRec → RunRec}
    (hf : ∀ x, x.id = run → (f x).id = run) : (s.modRun run f).runRec id = s.runRec id := by
  rw [State.runRec_modRun _ _ _ hf]
  rcases h : s.runRec id with _ | r
  · rfl
  · rw [Option.map_some, if_neg (by rw [(State.runRec_some h).2]; exact hne)]

theorem State.runRec_congr {s t : State} (h : t.runs = s.runs) (run : RunId) : t.runRec run = s.runRec run := by
  rw [State.runRec, State.runRec, h]

/-! ## Both banks settled for a run (R62, R64) -/

theorem State.settleRun_core (s : State) (run : RunId) (m : LaneIx) :
    ((s.settleRun run).lane m).core =
      (if (s.lane m).present = true ∧ (s.lane m).promisedOn run = true then (s.lane m).settledShort run
        else s.lane m).core := by
  rw [apply_ite LaneRec.core]
  cases hb : bankOf m
  · have hne : bankOf m ≠ .b := by rw [hb]; nofun
    rw [State.settleRun, (State.settleBank_confined _ .b run).lane m hne, State.settleBank_core]
    simp [hb]
  · have hne : bankOf m ≠ .a := by rw [hb]; nofun
    rw [State.settleRun, State.settleBank_core, (State.settleBank_confined _ .a run).lane m hne]
    simp [hb]

theorem State.settleRun_bank (s : State) (run : RunId) (k : Bank) :
    (s.bank k).settledFor run ((s.settleRun run).bank k) := by
  cases k
  · rw [State.settleRun, (State.settleBank_confined _ .b run).bank .a nofun]
    exact s.settleBank_settledFor .a run
  · rw [State.settleRun, ← (s.settleBank_confined .a run).bank .b nofun]
    exact State.settleBank_settledFor _ .b run

/-! ## Claims fall (R64, R70) -/

/-- The claim of a lane on the run falls. -/
def LaneRec.claimDropped (run : RunId) (r : LaneRec) : LaneRec := if r.claimsOn run then r.fallBack else r

/-- A lane when the manifest of the run is settled (R70). -/
def LaneRec.unnamed (run : RunId) (r : LaneRec) : LaneRec :=
  if r.call = .due ∧ r.onRun = some run ∧ r.provisional then r.unconfirmed else r.claimDropped run

theorem LaneRec.claimDropped_coreMap (run : RunId) : LaneRec.coreMap (LaneRec.claimDropped run) := .of_core fun r => by
  simp only [LaneRec.claimDropped, apply_ite LaneRec.core]
  rfl

theorem LaneRec.unnamed_coreMap (run : RunId) : LaneRec.coreMap (LaneRec.unnamed run) := .of_core fun r => by
  simp only [LaneRec.unnamed, LaneRec.claimDropped, apply_ite LaneRec.core]
  rfl

theorem State.dropClaim_core (run : RunId) (s : State) (l m : LaneIx) :
    ((s.dropClaim run l).lane m).core = if m = l then ((s.lane l).claimDropped run).core else (s.lane m).core := by
  have hrelease : ∀ j, (s.releaseClaim l).lane j = s.lane j := State.lane_congr (s.releaseClaim_lanes l)
  unfold State.dropClaim LaneRec.claimDropped
  cases (s.lane l).claimsOn run
  · simp only [Bool.false_eq_true, if_false]
    split
    next h => rw [h]
    · rfl
  · simp only [if_true]
    rw [State.moveLane_core, hrelease, hrelease]

theorem State.fallBackLane_core (run : RunId) (s : State) (l m : LaneIx) :
    ((s.fallBackLane run l).lane m).core = if m = l then ((s.lane l).unnamed run).core else (s.lane m).core := by
  unfold State.fallBackLane LaneRec.unnamed
  dsimp only
  by_cases h : (s.lane l).call = .due ∧ (s.lane l).onRun = some run ∧ (s.lane l).provisional = true
  · rw [if_pos h, if_pos h, State.lane_congr (State.ask_lanes _), State.moveLane_core]
  · rw [if_neg h, if_neg h, State.dropClaim_core]

theorem allLanes_nodup : allLanes.Nodup := List.nodup_finRange _

theorem mem_allLanes (l : LaneIx) : l ∈ allLanes := List.mem_finRange l

theorem LaneRec.not_claimsOn_of_calling {r : LaneRec} (h : r.call = .calling) (run : RunId) : r.claimsOn run = false := by
  simp [LaneRec.claimsOn, h, CallState.claims]

theorem LaneRec.claimDropped_none (run : RunId) (r : LaneRec) : (r.claimDropped run).claimsOn run = false := by
  unfold LaneRec.claimDropped
  split
  · exact LaneRec.not_claimsOn_of_calling rfl run
  next h => simpa using h

theorem LaneRec.claimDropped_of_not {run : RunId} {r : LaneRec} (h : r.claimsOn run = false) : r.claimDropped run = r :=
  if_neg (by simp [h])

/-- No lane is left with a claim on a run whose manifest is settled, or provisionally DUE on it. -/
theorem LaneRec.unnamed_none (run : RunId) (r : LaneRec) :
    (r.unnamed run).claimsOn run = false ∧
      ¬((r.unnamed run).call = .due ∧ (r.unnamed run).onRun = some run ∧ (r.unnamed run).provisional = true) := by
  unfold LaneRec.unnamed
  split
  · exact ⟨LaneRec.not_claimsOn_of_calling rfl run, fun h => nomatch h.1⟩
  next hdue =>
    refine ⟨r.claimDropped_none run, ?_⟩
    unfold LaneRec.claimDropped
    split
    · exact fun h => nomatch h.1
    · exact hdue

/-! ## A run removed (R64) -/

/-- A lane when the run leaves (R64). -/
def LaneRec.runLeft (run : RunId) (r : LaneRec) : LaneRec :=
  (if r.present = true ∧ r.promisedOn run = true then r.settledShort run else r).claimDropped run

theorem State.removeRun_core (s : State) (run : RunId) (m : LaneIx) :
    ((s.removeRun run).lane m).core = ((s.lane m).runLeft run).core := by
  have hlanes : (s.removeRun run).lane m = (s.claimsFallen run).lane m := by
    rw [State.removeRun_eq]
    exact State.lane_congr (by simp [State.runGone]) m
  rw [hlanes, State.claimsFallen, foldl_core (LaneRec.claimDropped_coreMap run) (State.dropClaim_core run) allLanes_nodup,
    if_pos (mem_allLanes m)]
  exact LaneRec.claimDropped_coreMap run _ _ (s.settleRun_core run m)

theorem State.dropClaim_visit (run : RunId) (s : State) (l : LaneIx) (k : Bank) :
    ((s.dropClaim run l).bank k).visit = (s.bank k).visit := by
  unfold State.dropClaim
  split
  · rw [(State.moveLane_visit ..).1, State.releaseClaim_bank]
  · rfl

theorem State.removeRun_visit (s : State) (run : RunId) (k : Bank) : ((s.removeRun run).bank k).visit ≠ some run := by
  have hbank : (s.removeRun run).bank k = (s.claimsFallen run).bank k := by
    rw [State.removeRun_eq]
    exact State.bank_congr (by simp [State.runGone]) (by simp [State.runGone]) k
  have hfold := foldl_keeps (g := fun t : State => (t.bank k).visit) (fun t l => t.dropClaim_visit run l k) allLanes
    (s.settleRun run)
  rw [hbank, State.claimsFallen, hfold]
  exact (s.settleRun_bank run k).visit_ne

theorem LaneRec.runLeft_claims {run : RunId} {r : LaneRec} (h : r.claimsOn run = true) : r.runLeft run = r.fallBack := by
  have hno := LaneRec.not_promisedOn (LaneRec.not_promised_of_claimsOn h) run
  rw [LaneRec.runLeft, if_neg (by simp [hno]), LaneRec.claimDropped, if_pos h]

theorem LaneRec.runLeft_promised {run : RunId} {r : LaneRec} (hp : r.present = true) (h : r.promisedOn run = true) :
    r.runLeft run = r.settledShort run := by
  rw [LaneRec.runLeft, if_pos ⟨hp, h⟩, LaneRec.claimDropped_of_not (LaneRec.not_claimsOn_of_calling rfl run)]

theorem LaneRec.runLeft_none (run : RunId) (r : LaneRec) :
    (r.runLeft run).claimsOn run = false ∧
      ((r.runLeft run).present = true → (r.runLeft run).promisedOn run = false) := by
  refine ⟨LaneRec.claimDropped_none run _, ?_⟩
  by_cases hc : r.claimsOn run = true
  · rw [LaneRec.runLeft_claims hc]
    exact fun _ => LaneRec.not_promisedOn rfl run
  · by_cases hp : r.present = true ∧ r.promisedOn run = true
    · rw [LaneRec.runLeft_promised hp.1 hp.2]
      exact fun _ => LaneRec.not_promisedOn rfl run
    · rw [LaneRec.runLeft, if_neg hp, LaneRec.claimDropped_of_not (by simpa using hc)]
      exact fun h => by simpa [h] using hp

/-! ## Events that remove a run -/

/-- A station a run has left: what stands of it. -/
structure State.goneFrom (run : RunId) (s t : State) : Prop where
  runs : t.runs = s.runs.filter fun x => x.id != run
  lane : ∀ l, (t.lane l).core = ((s.lane l).runLeft run).core
  visit : ∀ k, (t.bank k).visit ≠ some run
  cnt : t.cnt = s.cnt
  line : t.line = s.line
  start : t.start = s.start
  prof : t.prof = s.prof
  stock : ∀ l, (t.lane l).stock = (s.lane l).stock

theorem State.removeRun_goneFrom (s : State) (run : RunId) : s.goneFrom run (s.removeRun run).endEvent := by
  refine ⟨?_, fun l => ?_, fun k => ?_, ?_, ?_, ?_, ?_, fun l => ?_⟩
  · rw [show (s.removeRun run).endEvent.runs = (s.removeRun run).runs by simp, State.removeRun_runs]
  · rw [State.endEvent_core, State.removeRun_core]
  · rw [State.endEvent_bank]; exact s.removeRun_visit run k
  · simp
  · simp
  · simp
  · simp
  · rw [(State.endEvent_lane _ l).1]
    exact (LaneRec.of_goods ((s.removeRun_goods run).lane l)).2.2

theorem State.goneFrom.of_hunting {run : RunId} {s t : State} (h : s.hunting.goneFrom run t) : s.goneFrom run t :=
  ⟨h.runs, h.lane, h.visit, h.cnt, h.line, h.start, h.prof, h.stock⟩

theorem exec_runNotice {s : State} {src : Byte} {p : List Byte} (hr : s.worksAs .rack = true) (hh : s.hears src = true)
    (hshape : shapeFits .run p = true) : exec (.runNotice src p) s = .next (s.hunting.takeRun src p).endEvent := by
  have harr : s.arrives .run src p = _ := State.arrives_rack hh hshape nofun
  rw [(State.handOver_rack (s := s.hunting) hr src p).1] at harr
  exact congrArg _ harr

/-- A listed run heard CLOSED or without an own stop is removed. -/
theorem State.takeRun_removes {s : State} {src : Byte} {p : List Byte} {n : RunNotice} (hn : readRun p = some n)
    (htrain : trainOf n.id = src) (hlisted : (s.runRec n.id).isSome = true)
    (hleave : n.state = .closed ∨ s.foreign n = true) : s.takeRun src p = s.removeRun n.id := by
  obtain ⟨old, hold⟩ := Option.isSome_iff_exists.mp hlisted
  simp only [State.takeRun, hn, if_neg (not_not.mpr htrain), hold]
  split
  · rfl
  next hf =>
    rw [hleave.resolve_right hf]

theorem State.ageRun_removes {s : State} {run : RunId} {r : RunRec} (h : s.runRec run = some r)
    (hdue : s.due (some (r.lastHeard + 3 * s.prof.tRefresh)) = true) : s.ageRun run = s.removeRun run := by
  simp only [State.ageRun, h]
  exact if_pos hdue

/-! ## The end of a manifest wait (R61, R70) -/

theorem State.waitExpiry_settles {s : State} {run : RunId} {r : RunRec} {d : Nat} (h : s.runRec run = some r)
    (hwait : r.wait = .running d) (hdue : s.due (some d) = true) (hset : r.settled = false) :
    s.waitExpiry run = (s.modRun run fun x => { x with wait := .expired }).manifestSettled run := by
  simp only [State.waitExpiry, h, hwait]
  rw [if_pos hdue, hset]
  rfl

theorem State.manifestSettled_core (s : State) (run : RunId) (m : LaneIx) :
    ((s.manifestSettled run).lane m).core = ((s.lane m).unnamed run).core := by
  rw [State.manifestSettled, State.lane_congr (State.ask_lanes _),
    foldl_core (LaneRec.unnamed_coreMap run) (State.fallBackLane_core run) allLanes_nodup, if_pos (mem_allLanes m)]
  rfl

theorem LaneRec.unnamed_claims {run : RunId} {r : LaneRec} (h : r.claimsOn run = true) : r.unnamed run = r.fallBack := by
  have hno := LaneRec.not_promised_of_claimsOn h
  rw [LaneRec.unnamed, if_neg (fun hd => by rw [hd.1] at hno; cases hno), LaneRec.claimDropped, if_pos h]

/-- Settles O27: a run is removed in one way, and the end of the wait settles its manifest. -/
theorem runLeavesWithItsClaims : Obligations.RunLeavesWithItsClaims := by
  refine ⟨?_, fun s run r d hr hrec hwait hdue hset => ?_⟩
  · intro s run hr gone
    have hgone : ∀ t : State, s.goneFrom run t → gone t := fun t h => by
      refine ⟨h.runs, fun l => ?_, fun l hc => ?_, fun l hp ho => ?_, h.visit .a, h.visit .b, h.stock, h.cnt, h.line, h.start,
        h.prof⟩
      · obtain ⟨hclaims, hpromised⟩ := LaneRec.runLeft_none run (s.lane l)
        rw [LaneRec.claimsOn_of_core (h.lane l), LaneRec.promisedOn_of_core (h.lane l), (LaneRec.of_core (h.lane l)).2.1]
        exact ⟨hclaims, hpromised⟩
      · have hl := h.lane l
        rw [LaneRec.runLeft_claims hc] at hl
        obtain ⟨hcall, hclaim, -, hreq, -, -, hlate, -⟩ := DeliveryView.mk.inj (LaneRec.of_core hl).1
        exact ⟨hcall, hclaim, hreq, hlate⟩
      · have hl := h.lane l
        rw [LaneRec.runLeft_promised hp ho] at hl
        obtain ⟨hcall, -, -, -, -, hshort, -⟩ := DeliveryView.mk.inj (LaneRec.of_core hl).1
        exact ⟨hcall, hshort⟩
    refine ⟨fun src p n hh hshape hn hid htrain hlisted hleave => ?_, fun r hrec hdue => ?_⟩
    · have hexec := exec_runNotice hr hh hshape
      rw [State.takeRun_removes (s := s.hunting) hn (hid ▸ htrain) (hid ▸ hlisted) hleave, hid] at hexec
      exact ⟨_, hexec, hgone _ (s.hunting.removeRun_goneFrom run).of_hunting, by simp [State.hunting]⟩
    · have hexec : exec (.runAgeingExpiry run) s = .next (s.ageRun run).endEvent := congrArg _ (if_pos hr)
      rw [State.ageRun_removes hrec hdue] at hexec
      exact ⟨_, hexec, hgone _ (s.removeRun_goneFrom run), by simp⟩
  · have hexec : exec (.manifestWaitExpiry run) s = .next (s.waitExpiry run).endEvent := congrArg _ (if_pos hr)
    rw [State.waitExpiry_settles hrec hwait hdue hset] at hexec
    have hcore : ∀ l, ((((s.modRun run fun x => { x with wait := .expired }).manifestSettled run).endEvent).lane l).core =
        ((s.lane l).unnamed run).core := fun l => by rw [State.endEvent_core, State.manifestSettled_core]; rfl
    have hruns : (((s.modRun run fun x => { x with wait := .expired }).manifestSettled run).endEvent).runs =
        ((s.modRun run fun x => { x with wait := .expired }).modRun run fun x => { x with settled := true }).runs := by
      rw [← State.manifestSettled_runs]; simp
    refine ⟨_, hexec, ?_, fun id hne => ?_, fun l => ?_, fun l hc => ?_, fun l => ?_, ?_, ?_, ?_, ?_⟩
    · have hexpired := State.runRec_modRun_same (f := fun x => { x with wait := .expired }) hrec fun _ h => h
      have hsettled := State.runRec_modRun_same (f := fun x => { x with settled := true }) hexpired fun _ h => h
      exact (State.runRec_congr hruns run).trans hsettled
    · have hexpired := State.runRec_modRun_other s (f := fun x => { x with wait := .expired }) hne fun _ h => h
      have hsettled := State.runRec_modRun_other (s.modRun run fun x => { x with wait := .expired })
        (f := fun x => { x with settled := true }) hne fun _ h => h
      exact (State.runRec_congr hruns id).trans (hsettled.trans hexpired)
    · obtain ⟨hclaims, hdue⟩ := LaneRec.unnamed_none run (s.lane l)
      rw [LaneRec.claimsOn_of_core (hcore l)]
      obtain ⟨hcall, -, honRun, -, -, -, -, hprov⟩ := DeliveryView.mk.inj (LaneRec.of_core (hcore l)).1
      rw [hcall, honRun, hprov]
      exact ⟨hclaims, hdue⟩
    · have hl := hcore l
      rw [LaneRec.unnamed_claims hc] at hl
      exact (DeliveryView.mk.inj (LaneRec.of_core hl).1).1
    · rw [(State.endEvent_lane _ l).1]
      exact (LaneRec.of_goods ((State.manifestSettled_goods _ run).lane l)).2.2
    · simp
    · simp
    · simp
    · simp

end Sys2Proof.Machine
end

section
/-! PROOFS. A MANIFEST part heard by a rack (R66 to R70). -/

namespace Sys2Proof.Machine

/-! ## One manifest entry (R67 to R69) -/

theorem State.promiseLane_core (s : State) (run : RunId) (l : LaneIx) (bins : Nat) :
    ((s.promiseLane run l bins).lane l).core =
      ((s.lane l).manifested run bins ((s.bank (bankOf l)).visit == some run)).core := by
  have hrelease : ∀ j, (s.releaseClaim l).lane j = s.lane j := State.lane_congr (s.releaseClaim_lanes l)
  unfold State.promiseLane
  dsimp only
  split
  · rw [State.joinItems_lane, State.moveLane_core, if_pos rfl, hrelease]
  · rw [State.moveLane_core, if_pos rfl, hrelease]

/-- The bins confirmed, and the lane complete where it has them all (R68, R133). -/
def LaneRec.confirmedAs (bins : Nat) (r : LaneRec) : LaneRec :=
  if (r.confirmed bins).delivered = bins then (r.confirmed bins).completed else r.confirmed bins

theorem State.reported_lane (s : State) (l m : LaneIx) : (s.reported l).lane m = s.lane m :=
  State.lane_congr (s.reported_frame l).1 m

theorem State.confirmLane_core {s : State} {l : LaneIx} (h : (s.lane l).call.promised = true) (bins : Nat) :
    ((s.confirmLane l bins).lane l).core = ((s.lane l).confirmedAs bins).core := by
  have hlane : ((s.modLane l (LaneRec.confirmed bins)).followItem l).lane l = (s.lane l).confirmed bins := by
    rw [State.lane_congr (t := State.followItem _ l) (s := s.modLane l (LaneRec.confirmed bins)) (by simp)]
    exact State.lane_modLane_same ..
  have hpromised : ((s.lane l).confirmed bins).call.promised = true := h
  have hreq : ((s.lane l).confirmed bins).requested = bins := rfl
  rw [State.confirmLane, State.completeIfDone, hlane, hpromised, Bool.true_and, hreq, LaneRec.confirmedAs]
  by_cases hdone : ((s.lane l).confirmed bins).delivered = bins
  · rw [if_pos hdone, if_pos (beq_iff_eq.mpr hdone), State.complete_eq, State.forecastLane_core, State.moveLane_core,
      if_pos rfl, State.reported_lane, hlane]
  · rw [if_neg hdone, if_neg (fun hd => hdone (beq_iff_eq.mp hd)), hlane]

theorem LaneRec.confirmedAs_short {bins : Nat} {r : LaneRec} (h : r.delivered < bins) :
    r.confirmedAs bins = r.confirmed bins := if_neg (by simp only [LaneRec.confirmed]; omega)

theorem LaneRec.confirmedAs_short_delivery {bins : Nat} {r : LaneRec} (h : r.delivered < bins) :
    (r.confirmedAs bins).delivery = { r.delivery with requested := bins, provisional := false } := by
  have hmin : (r.confirmed bins).delivered = r.delivered := Nat.min_eq_left h.le
  rw [LaneRec.confirmedAs_short h, LaneRec.delivery, hmin]
  rfl

theorem LaneRec.confirmedAs_done {bins : Nat} {r : LaneRec} (h : bins ≤ r.delivered) :
    r.confirmedAs bins = (r.confirmed bins).completed := if_pos (by simp only [LaneRec.confirmed]; omega)

theorem LaneRec.confirmedAs_surplus (bins : Nat) (r : LaneRec) :
    (r.confirmedAs bins).surplus = min (r.surplus + (r.delivered - bins)) 65535 := by
  unfold LaneRec.confirmedAs
  split <;> rfl

theorem State.applyEntry_cases {s : State} {run : RunId} {e : PartEntry} {l : LaneIx} (hl : s.entryLane e = some l) :
    ((s.lane l).call.promised = false → s.applyEntry run e = s.promiseLane run l e.bins) ∧
      ((s.lane l).call.promised = true → (s.lane l).onRun = some run → s.applyEntry run e = s.confirmLane l e.bins) ∧
      ((s.lane l).call.promised = true → (s.lane l).onRun ≠ some run →
        s.applyEntry run e = { s with cnt.double := bump16 s.cnt.double }) := by
  simp only [State.applyEntry, hl]
  exact ⟨fun h => if_pos (by simp [h]), fun h ho => by rw [if_neg (by simp [h]), if_pos ho],
    fun h ho => by rw [if_neg (by simp [h]), if_neg ho]⟩

/-! ## The part (R66, R70) -/

/-- A lane that the part's end leaves: neither a claim on the run nor provisionally DUE on it. -/
def LaneRec.namedOn (run : RunId) (r : LaneRec) : Prop :=
  r.claimsOn run = false ∧ (r.onRun = some run → r.provisional = false)

theorem LaneRec.unnamed_of_named {run : RunId} {r : LaneRec} (h : r.namedOn run) : r.unnamed run = r := by
  rw [LaneRec.unnamed, if_neg, LaneRec.claimDropped_of_not h.1]
  rintro ⟨-, ho, hp⟩
  rw [h.2 ho] at hp
  cases hp

theorem State.applyPart_core (s : State) (old : RunRec) (p : ManifestPart) {m : LaneIx} {r : LaneRec}
    (h : ((s.partApplied old p).lane m).core = r.core) (hn : r.namedOn p.id) :
    ((s.applyPart old p).lane m).core = r.core := by
  have hmod : (((s.partApplied old p).modRun p.id fun r => { r with wait := .stopped }).lane m).core = r.core := h
  rw [State.applyPart_eq]
  split
  · dsimp only
    split
    · exact hmod
    · rw [State.manifestSettled_core, LaneRec.unnamed_coreMap p.id _ _ hmod, LaneRec.unnamed_of_named hn]
  · exact h

theorem State.applyPart_cnt (s : State) (old : RunRec) (p : ManifestPart) :
    (s.applyPart old p).cnt = (s.partApplied old p).cnt := by
  rw [State.applyPart_eq]
  split
  · dsimp only
    split <;> simp
  · rfl

/-- The record that a part is heard for (R61, R66). -/
def State.recordHeard (s : State) (old : RunRec) (p : ManifestPart) (r : RunRec) : RunRec :=
  { r with partCount := some p.count, mask := old.mask ||| BitVec.ofNat 4 (2 ^ p.index)
           state := if old.state = .planning then .loading else r.state
           wait := if old.state = .planning then s.waitFromNow else r.wait }

theorem State.partApplied_runs (s : State) (old : RunRec) (p : ManifestPart) :
    (s.partApplied old p).runs = (s.modRun p.id (s.recordHeard old p)).runs := by
  rw [State.partApplied, (State.applyEntry_foldl_frame ..).2.2.2.2.2.1]
  show State.runs (if old.state = .planning then (s.modRun p.id (s.recordHeard old p)).ask
    else s.modRun p.id (s.recordHeard old p)) = _
  split <;> rfl

/-- The record that a part is heard for takes its count and its bit. -/
theorem State.applyPart_record {s : State} {old : RunRec} {p : ManifestPart} (h : s.runRec p.id = some old) :
    ∃ new, (s.applyPart old p).runRec p.id = some new ∧ new.partCount = some p.count ∧
      new.mask = old.mask ||| BitVec.ofNat 4 (2 ^ p.index) := by
  have hparts := (State.runRec_congr (s.partApplied_runs old p) p.id).trans
    (State.runRec_modRun_same (f := s.recordHeard old p) h fun _ h => h)
  have hstopped := State.runRec_modRun_same (f := fun r => { r with wait := .stopped }) hparts fun _ h => h
  have hsettled := State.runRec_modRun_same (f := fun r => { r with settled := true }) hstopped fun _ h => h
  rw [State.applyPart_eq]
  split
  · dsimp only
    split
    · exact ⟨_, hstopped, rfl, rfl⟩
    · exact ⟨_, (State.runRec_congr (State.manifestSettled_runs _ _) p.id).trans hsettled, rfl, rfl⟩
  · exact ⟨_, hparts, rfl, rfl⟩

/-- A part with a new index and one entry for an own lane. -/
theorem State.partApplied_one {s : State} {old : RunRec} {p : ManifestPart} {e : PartEntry} {l : LaneIx}
    (he : p.entries = [e]) (hl : s.entryLane e = some l) :
    ∃ t : State, s.partApplied old p = t.applyEntry p.id e ∧ t.entryLane e = some l ∧ t.lane l = s.lane l ∧
      t.bank (bankOf l) = s.bank (bankOf l) ∧ t.cnt = s.cnt := by
  refine ⟨s.partHeard old p, by rw [State.partApplied, he]; rfl, ?_⟩
  unfold State.partHeard
  dsimp only
  split
  · exact ⟨hl, rfl, State.bank_congr rfl rfl _, rfl⟩
  · exact ⟨hl, rfl, State.bank_congr rfl rfl _, rfl⟩

/-- The part of one entry, by the call state of the lane that it names. -/
theorem State.applyPart_one {s : State} {old : RunRec} {p : ManifestPart} {e : PartEntry} {l : LaneIx}
    (he : p.entries = [e]) (hl : s.entryLane e = some l) :
    ((s.lane l).call.promised = false →
        ((s.applyPart old p).lane l).core =
          ((s.lane l).manifested p.id e.bins ((s.bank (bankOf l)).visit == some p.id)).core ∧
        (s.applyPart old p).cnt = s.cnt) ∧
      ((s.lane l).call.promised = true → (s.lane l).onRun = some p.id →
        ((s.applyPart old p).lane l).core = ((s.lane l).confirmedAs e.bins).core ∧ (s.applyPart old p).cnt = s.cnt) ∧
      ((s.lane l).call.promised = true → (s.lane l).onRun ≠ some p.id →
        ((s.applyPart old p).lane l).core = (s.lane l).core ∧
        (s.applyPart old p).cnt = { s.cnt with double := bump16 s.cnt.double }) := by
  obtain ⟨t, ht, htl, hlane, hbank, hcnt⟩ := State.partApplied_one (old := old) he hl
  obtain ⟨hfree, hsame, hother⟩ := State.applyEntry_cases (run := p.id) htl
  rw [hlane] at hfree hsame hother
  rw [State.applyPart_cnt, ht, ← hcnt]
  refine ⟨fun h => ⟨?_, ?_⟩, fun h ho => ⟨?_, ?_⟩, fun h ho => ⟨?_, ?_⟩⟩
  · refine s.applyPart_core old p ?_ ?_
    · rw [ht, hfree h, State.promiseLane_core, hlane, hbank]
    · refine ⟨?_, fun _ => rfl⟩
      rw [LaneRec.claimsOn]
      cases ((s.bank (bankOf l)).visit == some p.id) <;> rfl
  · rw [hfree h]; simp
  · refine s.applyPart_core old p ?_ ?_
    · rw [ht, hsame h ho, State.confirmLane_core (by rw [hlane, h]), hlane]
    · rw [LaneRec.confirmedAs]
      split
      · exact ⟨rfl, fun _ => rfl⟩
      · refine ⟨?_, fun _ => rfl⟩
        have hnc := (CallState.free_of_promised h).1
        show ((s.lane l).call.claims && _) = false
        rw [hnc, Bool.false_and]
  · rw [hsame h ho]; simp
  · refine s.applyPart_core old p ?_ ⟨?_, fun ho' => absurd ho' ho⟩
    · rw [ht, hother h ho, ← hlane]; rfl
    · rw [LaneRec.claimsOn, (CallState.free_of_promised h).1, Bool.false_and]
  · rw [hother h ho]

/-! ## The frame -/

theorem State.ownByte_toNat (s : State) : s.ownByte.toNat = s.own := by
  rw [State.ownByte, State.own, BitVec.toNat_setWidth, Nat.mod_eq_of_lt]
  exact lt_trans s.start.own.isLt (by norm_num)

theorem State.entryLane_own {s : State} {l : LaneIx} {lane stop bins : Byte} (hlane : lane.toNat = l.val)
    (hp : (s.lane l).present = true) (hstop : s.prof.stopOf (bankOf l) = stop.toNat) (h1 : 1 ≤ bins.toNat)
    (h4 : bins.toNat ≤ 4) : s.entryLane ⟨s.ownByte.toNat, lane.toNat, stop.toNat, bins.toNat⟩ = some l := by
  have hlt : lane.toNat < 16 := by rw [hlane]; exact l.isLt
  have hl : (⟨lane.toNat, hlt⟩ : LaneIx) = l := Fin.ext hlane
  rw [State.entryLane, dif_pos hlt]
  dsimp only
  rw [hl]
  exact if_pos ⟨s.ownByte_toNat, hp, hstop, h1, h4⟩

theorem exec_manifestPart {s : State} {src : Byte} {p : List Byte} (hr : s.worksAs .rack = true) (hh : s.hears src = true)
    (hshape : shapeFits .manifest p = true) :
    exec (.manifestPart src p) s = .next (s.hunting.takeManifest src p).endEvent := by
  have harr : s.arrives .manifest src p = _ := State.arrives_rack hh hshape nofun
  rw [(State.handOver_rack (s := s.hunting) hr src p).2.1] at harr
  exact congrArg _ harr

/-- A part with a new index, from the run's train, is applied. -/
theorem State.takeManifest_applies {s : State} {src : Byte} {p : List Byte} {part : ManifestPart} {old : RunRec}
    (hp : readPart p = some part) (htrain : trainOf part.id = src) (hold : s.runRec part.id = some old)
    (hi : part.index < part.count) (hcount : old.partCount = none ∨ old.partCount = some part.count)
    (hnew : old.mask.getLsbD part.index = false) : s.takeManifest src p = s.applyPart old part := by
  simp only [State.takeManifest, hp, if_neg (not_not.mpr htrain), hold]
  rw [if_neg, if_neg (by simp [hnew])]
  rintro (h | ⟨hsome, hne⟩)
  · omega
  · rcases hcount with hc | hc
    · rw [hc] at hsome; cases hsome
    · exact hne hc

/-- Settles O28: the one entry acts by the call state of its lane, and a settled manifest leaves a named lane. -/
theorem manifestPartPromisesLane : Obligations.ManifestPartPromisesLane := by
  intro s src r0 r1 ic lane stop bins old l hr hh hr1 hold hlane hp hstop h1 h4 hi hc4 hcount hnew
  subst hr1
  let part : ManifestPart := ⟨word r0 r1, ic.toNat / 16, ic.toNat % 16,
    [⟨s.ownByte.toNat, lane.toNat, stop.toNat, bins.toNat⟩]⟩
  have hshape : shapeFits .manifest [r0, r1, ic, 1, s.ownByte, lane, stop, bins] = true := by
    simp [shapeFits]
    omega
  have hexec := exec_manifestPart hr hh hshape
  rw [State.takeManifest_applies (s := s.hunting) (part := part) rfl (hiByte_word r0 r1) hold hi hcount hnew] at hexec
  have hlane := State.entryLane_own (s := s.hunting) hlane hp hstop h1 h4
  obtain ⟨hfree, hsame, hother⟩ := State.applyPart_one (s := s.hunting) (old := old) (p := part) rfl hlane
  obtain ⟨new, hrec, hpc, hmask⟩ := State.applyPart_record (s := s.hunting) (p := part) hold
  have hruns : (s.hunting.applyPart old part).endEvent.runs = (s.hunting.applyPart old part).runs := by simp
  have hcnt : (s.hunting.applyPart old part).endEvent.cnt = (s.hunting.applyPart old part).cnt := by simp
  have hcore := (s.hunting.applyPart old part).endEvent_core l
  refine ⟨_, hexec, ⟨new, (State.runRec_congr hruns _).trans hrec, hpc, hmask⟩, fun h => ⟨?_, ?_⟩,
    fun h ho => ⟨?_, ?_, fun hlt => ?_, fun hle => ?_⟩, fun h ho => ⟨?_, ?_⟩, fun m => ?_, ?_, ?_, ?_, ?_⟩
  · refine (LaneRec.of_core (hcore.trans (hfree h).1)).1.trans ?_
    simp [LaneRec.delivery, LaneRec.manifested, part, State.hunting_bank]
  · exact hcnt.trans (hfree h).2
  · exact hcnt.trans (hsame h ho).2
  · exact (LaneRec.of_core (hcore.trans (hsame h ho).1)).2.2.1.trans (LaneRec.confirmedAs_surplus ..)
  · exact (LaneRec.of_core (hcore.trans (hsame h ho).1)).1.trans (LaneRec.confirmedAs_short_delivery hlt)
  · exact (LaneRec.of_core (hcore.trans (hsame h ho).1)).1.trans
      (congrArg LaneRec.delivery (LaneRec.confirmedAs_done hle))
  · exact (LaneRec.of_core (hcore.trans (hother h ho).1)).1
  · exact hcnt.trans (hother h ho).2
  · rw [(State.endEvent_lane _ m).1]
    exact (LaneRec.of_goods ((State.applyPart_goods s.hunting old part).lane m)).2.2
  · simp [State.hunting]
  · simp [State.hunting]
  · simp [State.hunting]
  · simp [State.hunting]

end Sys2Proof.Machine
end

section
/-! PROOFS. A RUN notice heard by a rack (R59 to R63). -/

namespace Sys2Proof.Machine

/-! ## The record that leaves a full list (R59) -/

theorem leavesBefore_iff (n : LineCount) (a b : RunRec) :
    leavesBefore n a b = true ↔ match a.etaOffset n, b.etaOffset n with
      | none, some _ => True
      | some _, none => False
      | none, none => b.id.toNat < a.id.toNat
      | some x, some y => y < x ∨ (x = y ∧ b.id.toNat < a.id.toNat) := by
  unfold leavesBefore
  rcases a.etaOffset n with _ | x <;> rcases b.etaOffset n with _ | y <;> simp

theorem leavesBefore_trans {n : LineCount} {a b c : RunRec} (hab : leavesBefore n a b = true)
    (hbc : leavesBefore n b c = true) : leavesBefore n a c = true := by
  rw [leavesBefore_iff] at *
  generalize a.etaOffset n = x at *
  generalize b.etaOffset n = y at *
  generalize c.etaOffset n = z at *
  rcases x with _ | x <;> rcases y with _ | y <;> rcases z with _ | z <;> simp only [] at hab hbc ⊢ <;> omega

theorem leavesBefore_irrefl (n : LineCount) (a : RunRec) : leavesBefore n a a = false := by
  rw [Bool.eq_false_iff, ne_eq, leavesBefore_iff]
  rcases a.etaOffset n with _ | x <;> simp

/-- The record kept of two (R59). -/
def keepLast (n : LineCount) (best : Option RunRec) (r : RunRec) : Option RunRec :=
  match best with
  | none => some r
  | some x => if leavesBefore n r x then some r else some x

theorem State.evictee_eq (s : State) :
    s.evictee = (s.runs.filter fun r => !s.referenced r.id).foldl (keepLast s.line.n) none := rfl

theorem keepLast_isSome (n : LineCount) (rs : List RunRec) (best : Option RunRec) (h : rs ≠ [] ∨ best.isSome = true) :
    (rs.foldl (keepLast n) best).isSome = true := by
  induction rs generalizing best with
  | nil => exact h.resolve_left (· rfl)
  | cons r rs ih =>
    refine ih _ (.inr ?_)
    unfold keepLast
    split
    · rfl
    · split <;> rfl

/-- Of the records gone through none leaves before the one kept. -/
theorem keepLast_last (n : LineCount) (rs : List RunRec) {out : RunRec} (h : rs.foldl (keepLast n) none = some out) :
    ∀ x ∈ rs, leavesBefore n x out = false := by
  induction rs using List.reverseRecOn generalizing out with
  | nil => exact nofun
  | append_singleton rs r ih =>
    rw [List.foldl_append, List.foldl_cons, List.foldl_nil] at h
    rcases hbest : rs.foldl (keepLast n) none with _ | x
    · rw [hbest] at h
      cases h
      have hnil : rs = [] := by
        by_contra hne
        have := keepLast_isSome n rs none (.inl hne)
        rw [hbest] at this
        cases this
      subst hnil
      simp [leavesBefore_irrefl]
    · rw [hbest, keepLast] at h
      split at h
      next hlt =>
        cases h
        refine List.forall_mem_append.mpr ⟨fun y hy => ?_, by simp [leavesBefore_irrefl]⟩
        rw [Bool.eq_false_iff]
        exact fun hy' => Bool.eq_false_iff.mp (ih hbest y hy) (leavesBefore_trans hy' hlt)
      next hge =>
        cases h
        exact List.forall_mem_append.mpr ⟨ih hbest, by simpa using hge⟩

theorem State.evictee_of_unreferenced {s : State} (h : ∃ x ∈ s.runs, s.referenced x.id = false) :
    ∃ out, s.evictee = some out ∧ out ∈ s.runs ∧ s.referenced out.id = false ∧
      ∀ x ∈ s.runs, s.referenced x.id = false → leavesBefore s.line.n x out = false := by
  obtain ⟨x, hx, hr⟩ := h
  have hne : (s.runs.filter fun r => !s.referenced r.id) ≠ [] := List.ne_nil_of_mem (List.mem_filter.mpr ⟨hx, by simp [hr]⟩)
  obtain ⟨out, hout⟩ := Option.isSome_iff_exists.mp (keepLast_isSome s.line.n _ none (.inl hne))
  obtain ⟨hmem, href⟩ := State.evictee_mem (s := s) hout
  exact ⟨out, hout, hmem, href, fun y hy hyr => keepLast_last s.line.n _ hout y (List.mem_filter.mpr ⟨hy, by simp [hyr]⟩)⟩

theorem State.evictee_none {s : State} (h : ∀ x ∈ s.runs, s.referenced x.id = true) : s.evictee = none := by
  rw [State.evictee_eq, List.filter_eq_nil_iff.mpr fun x hx => by simp [h x hx]]
  rfl

theorem State.referenced_iff (s : State) (id : RunId) :
    s.referenced id = true ↔ (∃ l, (s.lane l).claimsOn id = true ∨ (s.lane l).promisedOn id = true) ∨
      s.bankA.visit = some id ∨ s.bankB.visit = some id := by
  simp [State.referenced, allLanes, or_assoc]

/-! ## Departures from stop after stop (R63, R138) -/

theorem State.departStop_visit_ne {s : State} {run : RunId} {k : Bank} (h : (s.bank k).visit ≠ some run) (stop : Nat) :
    ((s.departStop run stop).bank k).visit ≠ some run := by
  rw [(s.departStop_cells run stop k 0).2.1]
  generalize s.banksAt stop = ks
  induction ks generalizing s with
  | nil => exact h
  | cons j js ih =>
    refine ih ?_
    by_cases hj : k = j
    · subst hj
      unfold State.bankDeparted
      split
      · exact (s.settleDeparted_leftBy k run).visit
      · exact h
    · rw [(s.bankDeparted_confined run j).bank k hj]
      exact h

/-- After a departure from its stop the bank has nothing open with the run, where it had not before or the departure acts. -/
theorem State.departStop_left {s : State} {run : RunId} {k : Bank}
    (h : s.departureActs k run = true ∨ (s.bank k).visit ≠ some run ∧ (s.bank k).recordRun ≠ some run) :
    ((s.departStop run (s.prof.stopOf k)).bank k).visit ≠ some run ∧
      ((s.departStop run (s.prof.stopOf k)).bank k).recordRun ≠ some run ∧
      ((s.departStop run (s.prof.stopOf k)).bank k).lastDeparted = some run := by
  by_cases hacts : s.departureActs k run = true
  · obtain ⟨hv, hr, hd, -⟩ := State.departStop_leftBy hacts
    exact ⟨hv, hr, hd⟩
  · obtain ⟨hv, hr⟩ := h.resolve_left hacts
    obtain ⟨u, hu, ht⟩ := foldl_bank (State.bankDeparted_confined run) (s.banksAt_nodup (s.prof.stopOf k))
      (State.mem_banksAt.mpr rfl) s
    rw [State.bankDeparted, if_neg (by rw [hu.departureActs run]; exact hacts)] at ht
    have hbank : (s.departStop run (s.prof.stopOf k)).bank k = s.bank k := by
      rw [(s.departStop_cells run _ k 0).2.1, ht.bank, hu.bank]
    rw [hbank]
    refine ⟨hv, hr, ?_⟩
    rw [State.departureActs, Bool.or_eq_true, not_or] at hacts
    simpa using hacts.2

/-- Departures from a list of stops, one after the other. -/
def State.departStops (run : RunId) (s : State) (stops : List Nat) : State :=
  stops.foldl (fun w stop => w.departStop run stop) s

theorem State.departStops_visit_ne {s : State} {run : RunId} {k : Bank} (h : (s.bank k).visit ≠ some run)
    (stops : List Nat) : ((s.departStops run stops).bank k).visit ≠ some run := by
  induction stops generalizing s with
  | nil => exact h
  | cons stop stops ih => exact ih (State.departStop_visit_ne h stop)

theorem State.departStops_core_of_not_promised {s : State} {run : RunId} {m : LaneIx}
    (h : (s.lane m).promisedOn run = false) (stops : List Nat) :
    ((s.departStops run stops).lane m).core = (s.lane m).core := by
  induction stops generalizing s with
  | nil => rfl
  | cons stop stops ih =>
    have hstep := State.departStop_core_of_not_promised h stop
    exact (ih ((LaneRec.promisedOn_of_core hstep run).trans h)).trans hstep

theorem State.departStops_other {s : State} {stops : List Nat} {k : Bank} (h : s.prof.stopOf k ∉ stops) (run : RunId) :
    s.agreesOn k (s.departStops run stops) := by
  induction stops generalizing s with
  | nil => exact .refl k s
  | cons stop stops ih =>
    rw [List.mem_cons, not_or] at h
    have hstep := State.departStop_other h.1 run
    exact hstep.trans (ih (by rw [hstep.prof]; exact h.2))

theorem State.departStops_offers (s : State) (run : RunId) (stops : List Nat) :
    s.Offers (ofKind .receipt) stops.length (s.departStops run stops) :=
  .foldl (fun t stop => t.departStop_offers run stop) stops s

/-- The departure from the stop of a bank among others: only it concerns the bank. -/
theorem State.departStops_at {s : State} {stops : List Nat} {k : Bank} (hnd : stops.Nodup) (hk : s.prof.stopOf k ∈ stops)
    (run : RunId) :
    ∃ u : State, s.agreesOn k u ∧ (u.departStop run (s.prof.stopOf k)).agreesOn k (s.departStops run stops) ∧
      u.start = s.start ∧ u.air.txq.length + 1 ≤ s.air.txq.length + stops.length ∧
      ∃ m, (u.departStop run (s.prof.stopOf k)).Offers (ofKind .receipt) m (s.departStops run stops) := by
  obtain ⟨before, behind, rfl⟩ := List.append_of_mem hk
  have hbefore : s.prof.stopOf k ∉ before := fun h =>
    (List.disjoint_of_nodup_append hnd) h (List.mem_cons_self ..)
  have hbehind : s.prof.stopOf k ∉ behind := (List.nodup_cons.mp (List.nodup_append.mp hnd).2.1).1
  have hu := State.departStops_other hbefore run
  have hoffers := s.departStops_offers run before
  have hsplit : s.departStops run (before ++ s.prof.stopOf k :: behind) =
      ((s.departStops run before).departStop run (s.prof.stopOf k)).departStops run behind := by
    rw [State.departStops, List.foldl_append]; rfl
  rw [hsplit]
  refine ⟨s.departStops run before, hu, State.departStops_other ?_ run, hoffers.start_eq, ?_, _,
    State.departStops_offers ..⟩
  · have hprof : ((s.departStops run before).departStop run (s.prof.stopOf k)).prof = s.prof := by
      rw [(State.departStop_frame ..).2.1, hu.prof]
    rw [hprof]; exact hbehind
  · have := hoffers.length_le
    simp only [List.length_append, List.length_cons]
    omega

/-- A RECEIPT stays in the queue, or another one of the same run and stop takes its place. -/
theorem State.Offers.receipt_mem {s t : State} {m : Nat} (h : s.Offers (ofKind .receipt) m t) {head : List Byte}
    (hx : ∃ f ∈ s.air.txq, f.kind = .receipt ∧ f.payload.take 3 = head) :
    ∃ f ∈ t.air.txq, f.kind = .receipt ∧ f.payload.take 3 = head := by
  obtain ⟨f, hf, hkind, hhead⟩ := hx
  rcases h.mem_of_mem hf with hmem | ⟨g, hg, hgk, hkey⟩
  · exact ⟨f, hmem, hkind, hhead⟩
  · have hgkind : g.kind = .receipt := hgk
    refine ⟨g, hg, hgkind, ?_⟩
    have hpay := congrArg Prod.snd hkey
    simp only [TxFrame.key, hgkind, hkind] at hpay
    rw [hpay, hhead]

/-! ## A listed run's notice (R60 to R63) -/

/-- The state whose lanes and banks a replacement finds: the run's business is settled first at a return to PLANNING. -/
def State.regressed (s : State) (old : RunRec) (n : RunNotice) (st : RunState) : State :=
  if old.state ≠ .planning ∧ st = .planning then s.settleRun n.id else s

theorem State.renewed_cells (s : State) (old : RunRec) (n : RunNotice) (st : RunState) :
    (s.renewed old n st).lanes = (s.regressed old n st).lanes ∧ (s.renewed old n st).bankA = (s.regressed old n st).bankA ∧
      (s.renewed old n st).bankB = (s.regressed old n st).bankB ∧ (s.renewed old n st).air = s.air ∧
      (s.renewed old n st).start = s.start ∧ (s.renewed old n st).prof = s.prof := by
  have hbase : (s.regressed old n st).air = s.air ∧ (s.regressed old n st).start = s.start ∧
      (s.regressed old n st).prof = s.prof := by
    unfold State.regressed
    split
    · exact ⟨by simp, by simp, by simp⟩
    · exact ⟨rfl, rfl, rfl⟩
  obtain ⟨hair, hstart, hprof⟩ := hbase
  rw [← hair, ← hstart, ← hprof]
  unfold State.renewed
  dsimp only
  split <;> exact ⟨rfl, rfl, rfl, rfl, rfl, rfl⟩

theorem State.replaceRun_record {s : State} {old : RunRec} {n : RunNotice} (h : s.runRec n.id = some old) (st : RunState) :
    (s.replaceRun old n st).runRec n.id = some (s.replaced old n st) ∧
      ∀ id, id ≠ n.id → (s.replaceRun old n st).runRec id = s.runRec id := by
  have hruns : (s.replaceRun old n st).runs = (s.modRun n.id fun _ => s.replaced old n st).runs := s.replaceRun_runs ..
  have hid : ∀ x : RunRec, x.id = n.id → (s.replaced old n st).id = n.id := fun _ _ =>
    (s.replaced_id ..).trans (State.runRec_some h).2
  exact ⟨(State.runRec_congr hruns _).trans (State.runRec_modRun_same h hid),
    fun id hne => (State.runRec_congr hruns _).trans (State.runRec_modRun_other s hne hid)⟩

/-- The record of a replacement, by how PLANNING changes (R60 to R62). -/
theorem State.replaced_fields (s : State) (old : RunRec) (n : RunNotice) (st : RunState) :
    (s.replaced old n st).state = st ∧ (s.replaced old n st).caps = n.caps.clamp ∧
      (s.replaced old n st).stopA = s.entryAt n .a ∧ (s.replaced old n st).stopB = s.entryAt n .b ∧
      (s.replaced old n st).lastHeard = s.start.clock := by
  unfold State.replaced
  dsimp only
  split
  · exact ⟨rfl, rfl, rfl, rfl, rfl⟩
  · split <;> exact ⟨rfl, rfl, rfl, rfl, rfl⟩

theorem State.replaced_reception (s : State) (old : RunRec) (n : RunNotice) (st : RunState) :
    (old.state ≠ .planning → st = .planning →
        (s.replaced old n st).mask = 0 ∧ (s.replaced old n st).partCount = none ∧
          (s.replaced old n st).wait = .stopped ∧ (s.replaced old n st).settled = false) ∧
      (old.state = .planning → st ≠ .planning → (s.replaced old n st).wait = s.waitFromNow) ∧
      ((old.state = .planning ↔ st = .planning) →
        (s.replaced old n st).mask = old.mask ∧ (s.replaced old n st).partCount = old.partCount ∧
          (s.replaced old n st).wait = old.wait ∧ (s.replaced old n st).settled = old.settled) := by
  unfold State.replaced
  refine ⟨fun ho hs => ?_, fun ho hs => ?_, fun h => ?_⟩
  · rw [if_pos ⟨ho, hs⟩]; exact ⟨rfl, rfl, rfl, rfl⟩
  · rw [if_neg (fun h => h.1 ho), if_pos ⟨ho, hs⟩]
  · rw [if_neg (fun hc => hc.1 (h.mpr hc.2)), if_neg (fun hc => hc.2 (h.mp hc.1))]
    exact ⟨rfl, rfl, rfl, rfl⟩

theorem State.servedStops_nodup (s : State) (old new : RunRec) : (s.servedStops old new).Nodup := List.nodup_dedup _

theorem State.servedStops_length (s : State) (old new : RunRec) : (s.servedStops old new).length ≤ 2 := by
  refine (List.dedup_sublist _).length_le.trans ?_
  rw [List.length_append]
  have hone : ∀ (c : Bool) (x : Nat), (if c then [x] else []).length ≤ 1 := fun c x => by cases c <;> simp
  exact Nat.add_le_add (hone ..) (hone ..)

/-- The stop of a bank whose own stop entry is newly served. -/
theorem State.mem_servedStops {s : State} {old new : RunRec} {k : Bank} {x y : StopEntry} (hx : old.stopOf k = some x)
    (hxs : x.served = false) (hy : new.stopOf k = some y) (hys : y.served = true) :
    s.prof.stopOf k ∈ s.servedStops old new := by
  rw [State.servedStops, List.mem_dedup, List.mem_append]
  cases k
  · have hnew : newlyServed old.stopA new.stopA = true := by
      rw [show old.stopA = some x from hx, show new.stopA = some y from hy]
      simp [newlyServed, hxs, hys]
    exact .inl (by rw [hnew]; simp [Profile.stopOf])
  · have hnew : newlyServed old.stopB new.stopB = true := by
      rw [show old.stopB = some x from hx, show new.stopB = some y from hy]
      simp [newlyServed, hxs, hys]
    exact .inr (by rw [hnew]; simp [Profile.stopOf])

/-- A return to PLANNING leaves no visit and no promise on the run (R62). -/
theorem State.replaceRun_regression {s : State} {old : RunRec} {n : RunNotice} {st : RunState}
    (ho : old.state ≠ .planning) (hs : st = .planning) :
    (∀ k, ((s.replaceRun old n st).bank k).visit ≠ some n.id) ∧
      ∀ l, (s.lane l).present = true → (s.lane l).promisedOn n.id = true →
        ((s.replaceRun old n st).lane l).core = ((s.lane l).settledShort n.id).core := by
  have hbase : s.regressed old n st = s.settleRun n.id := if_pos ⟨ho, hs⟩
  obtain ⟨hlanes, hA, hB, -⟩ := s.renewed_cells old n st
  rw [hbase] at hlanes hA hB
  refine ⟨fun k => State.departStops_visit_ne (s := s.renewed old n st) ?_ _, fun l hp hpr => ?_⟩
  · rw [State.bank_congr hA hB]; exact (s.settleRun_bank n.id k).visit_ne
  · have hcore : ((s.renewed old n st).lane l).core = ((s.lane l).settledShort n.id).core := by
      rw [State.lane_congr hlanes, State.settleRun_core, if_pos ⟨hp, hpr⟩]
    exact (State.departStops_core_of_not_promised ((LaneRec.promisedOn_of_core hcore _).trans
      (LaneRec.not_promisedOn rfl _)) _).trans hcore

/-- A newly served stop settles its bank where the departure acts (R63). -/
theorem State.replaceRun_served {s : State} {old : RunRec} {n : RunNotice} {st : RunState} {k : Bank} {x y : StopEntry}
    (hx : old.stopOf k = some x) (hxs : x.served = false) (hy : s.entryAt n k = some y) (hys : y.served = true)
    (hacts : s.departureActs k n.id = true) :
    ((s.replaceRun old n st).bank k).visit ≠ some n.id ∧ ((s.replaceRun old n st).bank k).recordRun ≠ some n.id ∧
      ((s.replaceRun old n st).bank k).lastDeparted = some n.id ∧
      (∀ l, bankOf l = k → (s.lane l).present = true → (s.lane l).promisedOn n.id = true →
        ((s.replaceRun old n st).lane l).core = ((s.lane l).settledShort n.id).core) ∧
      (s.isActive = true → s.air.txq.length + 2 ≤ 8 → (old.state = .planning ∨ st ≠ .planning) →
        (∃ l, bankOf l = k ∧ (s.lane l).present = true ∧ (s.lane l).promisedOn n.id = true) →
        ∃ f ∈ (s.replaceRun old n st).air.txq, f.kind = .receipt ∧
          f.payload.take 3 = bytes2 n.id ++ [byte (s.prof.stopOf k)]) := by
  obtain ⟨hlanes, hA, hB, hair, hstart, hprof⟩ := s.renewed_cells old n st
  have hmem : s.prof.stopOf k ∈ s.servedStops old (s.replaced old n st) := by
    refine State.mem_servedStops hx hxs ?_ hys
    cases k
    · exact (s.replaced_fields old n st).2.2.1.trans hy
    · exact (s.replaced_fields old n st).2.2.2.1.trans hy
  rw [← hprof] at hmem
  obtain ⟨u, hu, ht, hustart, hlen, m, hoffers⟩ := State.departStops_at (s.servedStops_nodup old (s.replaced old n st)) hmem n.id
  rw [← hu.prof] at ht hoffers
  have hubank : u.bank k = (s.regressed old n st).bank k := hu.bank.trans (State.bank_congr hA hB k)
  have hulane : ∀ l, bankOf l = k → u.lane l = (s.regressed old n st).lane l := fun l hl =>
    (hu.lane l hl).trans (State.lane_congr hlanes l)
  have hleft : u.departureActs k n.id = true ∨ (u.bank k).visit ≠ some n.id ∧ (u.bank k).recordRun ≠ some n.id := by
    by_cases hreg : old.state ≠ .planning ∧ st = .planning
    · rw [hubank, State.regressed, if_pos hreg]
      exact .inr ⟨(s.settleRun_bank n.id k).visit_ne, (s.settleRun_bank n.id k).recordRun⟩
    · rw [State.departureActs, hubank, State.regressed, if_neg hreg]
      exact .inl hacts
  obtain ⟨hv, hr, hd⟩ := State.departStop_left hleft
  refine ⟨?_, ?_, ?_, fun l hl hp ho => ?_, fun ha hroom hno ⟨l, hl, hp, ho⟩ => ?_⟩
  · rw [State.replaceRun_eq]; exact (congrArg BankRec.visit ht.bank).trans_ne hv
  · rw [State.replaceRun_eq]; exact (congrArg BankRec.recordRun ht.bank).trans_ne hr
  · rw [State.replaceRun_eq]; exact (congrArg BankRec.lastDeparted ht.bank).trans hd
  · by_cases hreg : old.state ≠ .planning ∧ st = .planning
    · exact (State.replaceRun_regression hreg.1 hreg.2).2 l hp ho
    · have hsame : ∀ m, bankOf m = k → u.lane m = s.lane m := fun m hm => by
        rw [hulane m hm, State.regressed, if_neg hreg]
      have hacts' : u.departureActs k n.id = true := by
        rw [State.departureActs, hubank, State.regressed, if_neg hreg]; exact hacts
      rw [State.replaceRun_eq]
      rw [← hsame l hl] at hp ho ⊢
      exact (congrArg LaneRec.core (ht.lane l hl)).trans ((State.departStop_leftBy hacts').lane l hl hp ho)
  · have hreg : ¬(old.state ≠ .planning ∧ st = .planning) := fun h => hno.elim h.1 (fun hs => hs h.2)
    have hsame : u.lane l = s.lane l := by rw [hulane l hl, State.regressed, if_neg hreg]
    have hacts' : u.departureActs k n.id = true := by
      rw [State.departureActs, hubank, State.regressed, if_neg hreg]; exact hacts
    have howed : u.owedLanes k n.id ≠ [] :=
      List.ne_nil_of_mem (State.mem_owedLanes.mpr ⟨hl, by rw [hsame, hp], by rw [hsame, ho]⟩)
    have hstops := s.servedStops_length old (s.replaced old n st)
    have hfree : u.air.txq.length < 8 := by rw [hair] at hlen; omega
    have hactive : u.isActive = true := by rw [State.isActive_congr (hustart.trans hstart), ha]
    have hreceipt := hoffers.receipt_mem (State.departStop_receipt hacts' howed hactive hfree)
    rwa [hu.prof, hprof] at hreceipt

/-- The rank of R59 between the record that leaves and one that stays. -/
theorem leavesBefore_false_iff (n : LineCount) (x out : RunRec) (h : leavesBefore n x out = false) :
    match out.etaOffset n, x.etaOffset n with
      | none, none => x.id.toNat ≤ out.id.toNat
      | none, some _ => True
      | some _, none => False
      | some a, some b => b < a ∨ (a = b ∧ x.id.toNat ≤ out.id.toNat) := by
  rw [Bool.eq_false_iff, ne_eq, leavesBefore_iff] at h
  generalize out.etaOffset n = a at *
  generalize x.etaOffset n = b at *
  rcases a with _ | a <;> rcases b with _ | b <;> dsimp only at h ⊢
  · omega
  · exact h trivial
  · omega

/-! ## The notice -/

theorem State.foreign_false {s : State} {n : RunNotice}
    (h : (s.entryAt n .a).isSome = true ∨ (s.entryAt n .b).isSome = true) : s.foreign n = false := by
  rw [State.foreign]
  rcases h with h | h
  · rw [← Option.not_isSome, h]; rfl
  · rw [← Option.not_isSome (s.entryAt n .b), h]; exact Bool.and_false _

theorem State.takeRun_held {s : State} {src : Byte} {p : List Byte} {n : RunNotice} {st : RunState}
    (hn : readRun p = some n) (htrain : trainOf n.id = src) (hst : n.state = .heldAs st)
    (hown : (s.entryAt n .a).isSome = true ∨ (s.entryAt n .b).isSome = true) :
    (s.runRec n.id = none → s.takeRun src p = s.insertRun n st) ∧
      ∀ old, s.runRec n.id = some old → s.takeRun src p = s.replaceRun old n st := by
  have hf := State.foreign_false hown
  refine ⟨fun h => ?_, fun old h => ?_⟩
  · simp only [State.takeRun, hn, if_neg (not_not.mpr htrain), h, hf, hst]
    rfl
  · simp only [State.takeRun, hn, if_neg (not_not.mpr htrain), h, hf, hst]
    rfl

/-- An unknown run with a place in the list, in place of another, or without one (R59). -/
theorem State.insertRun_cases (s : State) (n : RunNotice) (st : RunState) :
    (s.runs.length < 6 → (s.insertRun n st).runs = s.runs ++ [s.newRecord n st] ∧ (s.insertRun n st).cnt = s.cnt) ∧
      (6 ≤ s.runs.length → s.evictee = none →
        (s.insertRun n st).runs = s.runs ∧
          (s.insertRun n st).cnt = { s.cnt with rundrop := bump16 s.cnt.rundrop }) ∧
      (∀ out, 6 ≤ s.runs.length → s.evictee = some out →
        (s.insertRun n st).runs = (s.runs.filter fun x => x.id != out.id) ++ [s.newRecord n st] ∧
          (s.insertRun n st).cnt = s.cnt) := by
  unfold State.insertRun
  refine ⟨fun h => ?_, fun h he => ?_, fun out h he => ?_⟩
  · rw [if_pos h]; exact ⟨rfl, rfl⟩
  · rw [if_neg (Nat.not_lt.mpr h), he]; exact ⟨rfl, rfl⟩
  · rw [if_neg (Nat.not_lt.mpr h), he]; exact ⟨rfl, rfl⟩

/-- Settles O26: an unknown run is inserted or dropped, a listed one replaced, with its newly served stops settled. -/
theorem runNoticeUpdatesRunList : Obligations.RunNoticeUpdatesRunList := by
  intro s src p n st hr hh hshape hn htrain hst hown wait fresh eta used
  have hexec := exec_runNotice hr hh hshape
  obtain ⟨hnew, hold⟩ := State.takeRun_held (s := s.hunting) hn htrain hst hown
  obtain ⟨hroom, hdrop, hevict⟩ := s.hunting.insertRun_cases n st
  have hruns : (s.hunting.takeRun src p).endEvent.runs = (s.hunting.takeRun src p).runs := by simp
  have hcnt : (s.hunting.takeRun src p).endEvent.cnt = (s.hunting.takeRun src p).cnt := by simp
  have hused : ∀ x : RunRec, used x ↔ s.hunting.referenced x.id = true := fun x => (s.hunting.referenced_iff x.id).symm
  have hunused : ∀ x : RunRec, ¬used x ↔ s.hunting.referenced x.id = false := fun x => by
    rw [hused, Bool.not_eq_true]
  refine ⟨_, hexec, fun h hlen => ?_, fun h hlen hall => ?_, fun h hlen hsome => ?_, fun old h => ?_, fun l => ?_, ?_, ?_, ?_,
    ?_, ?_⟩
  · rw [hruns, hcnt, hnew h]
    exact hroom hlen
  · rw [hruns, hcnt, hnew h]
    exact hdrop hlen (State.evictee_none fun x hx => (hused x).mp (hall x hx))
  · obtain ⟨x, hx, hxu⟩ := hsome
    obtain ⟨out, hout, hmem, href, hlast⟩ := State.evictee_of_unreferenced (s := s.hunting) ⟨x, hx, (hunused x).mp hxu⟩
    refine ⟨out, hmem, (hunused out).mpr href, fun y hy hyu => ?_, ?_⟩
    · exact leavesBefore_false_iff s.line.n y out (hlast y hy ((hunused y).mp hyu))
    · rw [hruns, hcnt, hnew h]
      exact hevict out hlen hout
  · have htake := hold old h
    have hbank : ∀ k, ((s.hunting.takeRun src p).endEvent).bank k = (s.hunting.replaceRun old n st).bank k := fun k => by
      rw [State.endEvent_bank, htake]
    have hcore : ∀ l, (((s.hunting.takeRun src p).endEvent).lane l).core =
        ((s.hunting.replaceRun old n st).lane l).core := fun l => by rw [State.endEvent_core, htake]
    have htxq : ((s.hunting.takeRun src p).endEvent).air.txq = (s.hunting.replaceRun old n st).air.txq := by
      rw [htake]; simp
    obtain ⟨hrec, hothers⟩ := State.replaceRun_record (s := s.hunting) h st
    obtain ⟨hstate, hcaps, hstopA, hstopB, hheard⟩ := s.hunting.replaced_fields old n st
    obtain ⟨hback, hleave, hsame⟩ := s.hunting.replaced_reception old n st
    refine ⟨s.hunting.replaced old n st, ?_, ?_, hstate, hcaps, hstopA, hstopB, hheard, fun ho hs => ?_, hleave, hsame,
      fun id hne => ?_, fun k x y hx hxs hy hys hacts => ?_⟩
    · rw [State.runRec_congr hruns, htake]; exact hrec
    · exact (s.hunting.replaced_id ..).trans (State.runRec_some h).2
    · obtain ⟨hmask, hcount, hwait, hset⟩ := hback ho hs
      obtain ⟨hvisit, hlanes⟩ := State.replaceRun_regression (s := s.hunting) (n := n) ho hs
      refine ⟨hmask, hcount, hwait, hset, ?_, ?_, fun l hp hpr => ?_⟩
      · exact (congrArg BankRec.visit (hbank .a)).trans_ne (hvisit .a)
      · exact (congrArg BankRec.visit (hbank .b)).trans_ne (hvisit .b)
      · obtain ⟨hcall, -, -, -, -, hshort, -⟩ :=
          DeliveryView.mk.inj (LaneRec.of_core ((hcore l).trans (hlanes l hp hpr))).1
        exact ⟨hcall, hshort⟩
    · rw [State.runRec_congr hruns, htake]; exact hothers id hne
    · have hacts' : s.hunting.departureActs k n.id = true := by
        rw [State.departureActs, State.hunting_bank]; exact hacts
      obtain ⟨hv, hrr, hd, hlanes, hreceipt⟩ := State.replaceRun_served (s := s.hunting) (st := st) hx hxs hy hys hacts'
      rw [hbank, htxq]
      refine ⟨hv, hrr, hd, fun l hl hp hpr => ?_, hreceipt⟩
      obtain ⟨hcall, -, honRun, hreq, hdel, hshort, -⟩ :=
        DeliveryView.mk.inj (LaneRec.of_core ((hcore l).trans (hlanes l hl hp hpr))).1
      exact ⟨hcall, honRun, hreq, hdel, hshort⟩
  · rw [(State.endEvent_lane _ l).1]
    exact (LaneRec.of_goods ((s.hunting.takeRun_goods src p).lane l)).2.2
  · simp [State.hunting]
  · simp [State.hunting]
  · simp [State.hunting]
  · simp [State.hunting]
  · simp [State.hunting]

end Sys2Proof.Machine
end

section
/-! PROOFS. RECEIPTs at a train, and their timer (R141 to R144). -/

namespace Sys2Proof.Machine

/-! ## The first match replaced -/

/-- The first match replaced by one that matches too is found in its place. -/
theorem find_replaceFirst {α : Type} {p : α → Bool} {x y : α} {xs : List α} (h : xs.find? p = some y) (hx : p x = true) :
    (replaceFirst p x xs).find? p = some x := by
  induction xs with
  | nil => cases h
  | cons z zs ih =>
    rw [replaceFirst]
    split
    · rw [List.find?_cons_of_pos hx]
    next hz =>
      rw [List.find?_cons_of_neg hz] at h
      rw [List.find?_cons_of_neg hz, ih h]

/-! ## The stop log (R142) -/

theorem LogEntry.hear_answers (e : LogEntry) (src : Nat) (run : RunId) (stop : Nat) :
    (e.hear src).answers run stop = e.answers run stop := by
  unfold LogEntry.hear
  split <;> rfl

theorem LogEntry.hear_heard {e : LogEntry} {src : Nat} (h : e.expected.contains src = true) :
    (e.hear src).heard.contains src = true := by
  rw [LogEntry.hear, if_pos h]
  simpa using h

/-- The newest departed entry of the run and stop has heard an expected source. -/
theorem hearLog_heard {log : List LogEntry} {run : RunId} {stop src : Nat} {x : LogEntry}
    (hx : (log.reverse.find? fun y => y.answers run stop) = some x) (he : x.expected.contains src = true) :
    ∃ y, ((hearLog log run stop src).reverse.find? fun y => y.answers run stop) = some y ∧ y.heard.contains src = true := by
  have hanswers : x.answers run stop = true := by simpa using List.find?_some hx
  refine ⟨x.hear src, ?_, LogEntry.hear_heard he⟩
  rw [hearLog, hx]
  dsimp only
  rw [List.reverse_reverse]
  exact find_replaceFirst hx ((x.hear_answers src run stop).trans hanswers)

/-! ## A RECEIPT item (R143) -/

/-- An item that matches an entry not DONE replaces it, with a notice where bins are missing. -/
theorem State.applyReceiptItem_of_match {s : State} {src stop : Nat} {i : ReceiptItem} {e : ManifestEntry}
    (he : (s.planner.manifest.find? fun x => x.matches src stop i) = some e) (hd : e.status ≠ .done) :
    (s.applyReceiptItem src stop i).planner =
        { s.planner with manifest := replaceFirst (fun x => x.matches src stop i) (e.receipted i) s.planner.manifest } ∧
      (s.applyReceiptItem src stop i).panel =
        (if e.bins ≤ sat8 (i.delivered + (e.bins - i.requested)) then s.panel
          else s.panel.raise s.start.clock .short src i.lane) := by
  have hshort : (e.receipted i).status = .short ↔ ¬e.bins ≤ sat8 (i.delivered + (e.bins - i.requested)) := by
    simp only [ManifestEntry.receipted]
    split <;> simp [*]
  simp only [State.applyReceiptItem, he, if_neg hd, hshort]
  split
  · exact ⟨rfl, rfl⟩
  next h => exact ⟨rfl, (if_pos (not_not.mp h)).symm⟩

/-! ## The RECEIPT -/

theorem exec_receipt {s : State} {src : Byte} {p : List Byte} (hr : s.worksAs .train = true) (hh : s.hears src = true)
    (hshape : shapeFits .receipt p = true) : exec (.receipt src p) s = .next (s.hunting.takeReceipt src p).endEvent := by
  have harr := State.arrives_of_hears (k := .receipt) hh hshape (State.not_waits_of_kind nofun)
  have hf := State.not_fault_of_working (State.working_of_worksAs hr)
  have hrole : (s.hunting.start.role == .train) = true := beq_iff_eq.mpr (State.role_of_worksAs hr)
  have hhand : s.hunting.handOver ⟨.receipt, src, p⟩ = s.hunting.takeReceipt src p := by
    rw [State.handOver, if_neg (show ¬s.hunting.start.state = .fault from hf)]
    simp only [hrole, if_true]
  rw [hhand] at harr
  exact congrArg _ harr

/-- The state with the source of a RECEIPT heard in the stop log. -/
def State.logHeard (s : State) (run : RunId) (stop src : Nat) : State :=
  { s with planner.log := hearLog s.planner.log run stop src }

/-- A RECEIPT of one item for the current run. -/
theorem State.takeReceipt_one {s : State} {src lo stop lane del req : Byte} {r : Run} (h1 : 1 ≤ stop.toNat)
    (h31 : stop.toNat ≤ 31) (hcur : s.planner.current = some r) (hid : r.id = word lo s.ownByte) :
    s.takeReceipt src [lo, s.ownByte, stop, 1, lane, del, req] =
      (s.logHeard r.id stop.toNat src.toNat).applyReceiptItem src.toNat stop.toNat ⟨lane.toNat, del.toNat, req.toNat⟩ := by
  have htrain : trainOf (word lo s.ownByte) = s.ownByte ∧ 1 ≤ stop.toNat ∧ stop.toNat ≤ 31 := ⟨hiByte_word _ _, h1, h31⟩
  have hrun : (s.planner.current.any fun c => c.id == word lo s.ownByte) = true := by simp [hcur, hid]
  have hread : readReceipt [lo, s.ownByte, stop, 1, lane, del, req] =
      some ⟨word lo s.ownByte, stop.toNat, [⟨lane.toNat, del.toNat, req.toNat⟩]⟩ := rfl
  simp only [State.takeReceipt, hread, if_pos htrain, hrun, if_true, hid]
  rfl

/-! ## The receipt timer (R144) -/

theorem State.raise_foldl_eq (kind : NoticeKind) (lane : Nat) (xs : List Nat) (s : State) :
    xs.foldl (fun u x => u.raise kind x lane) s =
      { s with panel := xs.foldl (fun p x => p.raise s.start.clock kind x lane) s.panel } := by
  induction xs generalizing s with
  | nil => rfl
  | cons x xs ih => rw [List.foldl_cons, ih]; rfl

theorem State.receiptExpiry_of_due {s : State} {i : Nat} {e : LogEntry} {d : Nat} (he : s.planner.log[i]? = some e)
    (hrun : e.timer = .running d) (hdue : s.due (some d) = true) :
    s.receiptExpiry i =
      { s with
        planner.log := s.planner.log.set i { e with timer := .expired }
        panel := (e.expected.filter fun x => !e.heard.contains x).foldl
          (fun p x => p.raise s.start.clock .missing x e.stop) s.panel } := by
  simp only [State.receiptExpiry, he, hrun, if_pos hdue]
  exact State.raise_foldl_eq ..

/-- Settles O37: the item's entry and the log entry are each found again where they stood. -/
theorem receiptsAreHeardOrMissed : Obligations.ReceiptsAreHeardOrMissed := by
  refine ⟨?_, fun s i e d hr he hrun hdue => ?_⟩
  · intro s src lo stop lane del req r e hr hh h1 h31 hcur hid he hd total
    have hexec := exec_receipt (p := [lo, s.ownByte, stop, 1, lane, del, req]) hr hh rfl
    have htake : s.hunting.takeReceipt src [lo, s.ownByte, stop, 1, lane, del, req] = _ :=
      State.takeReceipt_one (s := s.hunting) h1 h31 hcur hid
    rw [htake] at hexec
    let i : ReceiptItem := ⟨lane.toNat, del.toNat, req.toNat⟩
    let t := s.hunting.logHeard r.id stop.toNat src.toNat
    have he' : (t.planner.manifest.find? fun x => x.matches src.toNat stop.toNat i) = some e := he
    obtain ⟨hplanner, hpanel⟩ := State.applyReceiptItem_of_match he' hd
    have hmatch : e.matches src.toNat stop.toNat i = true := by simpa using List.find?_some he'
    have hplanner' : (t.applyReceiptItem src.toNat stop.toNat i).endEvent.planner =
        { t.planner with manifest := replaceFirst (fun x => x.matches src.toNat stop.toNat i) (e.receipted i)
                                       t.planner.manifest } := by rw [← hplanner]; simp
    refine ⟨_, hexec, ?_, ?_, ?_, ?_, fun x hx hex => ?_, ?_, ?_, ?_, ?_, ?_, ?_, ?_, ?_⟩
    · rw [hplanner']
      exact find_replaceFirst he' hmatch
    · rw [hplanner']
      exact replaceFirst_length ..
    · exact (State.endEvent_frame _).2.2.2.2.2.2.2.2.2.2.1.trans hpanel
    · rw [hplanner']
      exact hearLog_length ..
    · rw [hplanner']
      exact hearLog_heard hx hex
    · rw [hplanner']; rfl
    · rw [hplanner']; rfl
    · rw [hplanner']; rfl
    all_goals simp [State.logHeard, State.hunting]
  · have hexec : exec (.receiptTimerExpiry i) s = .next (s.receiptExpiry i.val).endEvent := congrArg _ (if_pos hr)
    rw [State.receiptExpiry_of_due he hrun hdue] at hexec
    refine ⟨_, hexec, ?_, ?_, ?_, ?_, ?_, ?_, ?_⟩
    all_goals simp

end Sys2Proof.Machine
end

section
/-! PROOFS. The 20 ms sample of a pacer and of a rack (R2, R22 to R25, R153). -/

namespace Sys2Proof.Machine

/-! ## One input sampled -/

theorem Debounce.sample_fst {α : Type} [DecidableEq α] (d : Debounce α) (x : α) :
    (d.sample x).1 = if d.last = some x then ⟨some x, some x⟩ else ⟨some x, d.acc⟩ := by
  unfold Debounce.sample
  split <;> rfl

theorem Debounce.sample_still {α : Type} [DecidableEq α] {d : Debounce α} {x : α} (h : d.last ≠ some x) :
    d.sample x = (⟨some x, d.acc⟩, false) := if_neg h

theorem Debounce.sample_change {α : Type} [DecidableEq α] {x y : α} (h : y ≠ x) :
    (⟨some x, some y⟩ : Debounce α).sample x = (.accept x, true) := by
  simp [Debounce.sample, Debounce.accept, h]

theorem Debounce.rises_eq (d : Debounce Bool) (x : Bool) :
    d.rises x = (x && d.last == some true && d.acc == some false) := by
  obtain ⟨last, acc⟩ := d
  unfold Debounce.rises Debounce.sample
  cases x
  · simp
  · rcases last with _ | _ | _ <;> rcases acc with _ | _ | _ <;> rfl

/-! ## What a sensor event leaves of the other lanes -/

theorem LaneRec.core_of_unlit {r r' : LaneRec} (h : r.unlit = r'.unlit) : r.core = r'.core := by
  have hcore : { r.unlit.core with staged := .off } = { r'.unlit.core with staged := .off } := by rw [h]
  exact hcore

theorem State.modLane_core_ne (s : State) {l m : LaneIx} (h : m ≠ l) (f : LaneRec → LaneRec) :
    ((s.modLane l f).lane m).core = (s.lane m).core := by rw [State.lane_modLane, if_neg h]

theorem State.restage_core (s : State) (l m : LaneIx) : ((s.restage l).lane m).core = (s.lane m).core :=
  LaneRec.core_of_sansFace (s.restage_sansFace l m)

theorem State.markOverfill_core (s : State) (l m : LaneIx) : ((s.markOverfill l).lane m).core = (s.lane m).core := by
  unfold State.markOverfill
  split
  · rw [State.restage_core, State.lane_modLane]
    split
    next h => rw [h]; rfl
    · rfl
  · rfl

theorem State.takeRising_core_ne (s : State) {l m : LaneIx} (h : m ≠ l) (k : Sensor) :
    ((s.takeRising l k).lane m).core = (s.lane m).core := by
  cases k
  · show ((s.takeFeed l).lane m).core = _
    unfold State.takeFeed
    dsimp only
    rw [LaneRec.core_of_unlit (State.countFeed_unlit_ne _ h)]
    split
    · rw [State.markOverfill_core, State.modLane_core_ne _ h]
    · rw [State.forecastLane_core, State.modLane_core_ne _ h]
  · show ((s.takeEmpty l).lane m).core = _
    unfold State.takeEmpty
    split
    · exact State.modLane_core_ne s h fun r => { r with s := 0 }
    · rw [State.forecastLane_core, State.modLane_core_ne _ h]
  · show ((s.takeReserve l).lane m).core = _
    unfold State.takeReserve
    split
    · rw [State.forecastLane_core, State.modLane_core_ne _ h]
    · rfl

theorem State.takeChange_core_ne (s : State) {l m : LaneIx} (h : m ≠ l) (k : Sensor) (x : Bool) :
    ((s.takeChange l k x).lane m).core = (s.lane m).core := by
  have hclear : ((s.clearLatch l k).lane m).core = (s.lane m).core := State.modLane_core_ne s h _
  unfold State.takeChange
  split
  · cases x
    · exact hclear
    · exact (State.takeRising_core_ne _ h k).trans hclear
  · rfl

theorem State.sampleSensor_core_ne (sense : BitVec 48) {l m : LaneIx} (h : m ≠ l) (s : State) (k : Sensor) :
    ((s.sampleSensor sense l k).lane m).core = (s.lane m).core := by
  unfold State.sampleSensor
  dsimp only
  split
  · rw [State.event, State.endEvent_core, State.takeChange_core_ne _ h, State.modLane_core_ne _ h]
  · exact State.modLane_core_ne s h _

theorem State.sampleLane_core_ne (sense : BitVec 48) {l m : LaneIx} (h : m ≠ l) (s : State) :
    ((s.sampleLane sense l).lane m).core = (s.lane m).core :=
  foldl_keeps (g := fun t : State => (t.lane m).core) (fun t k => t.sampleSensor_core_ne sense h k) allSensors s

/-- Of all the lanes sampled a lane's own sample alone concerns it. -/
theorem sampleLanes_core (sense : BitVec 48) {ls : List LaneIx} (hnd : ls.Nodup) {l : LaneIx} (hl : l ∈ ls) (s : State) :
    ∃ u : State, (u.lane l).core = (s.lane l).core ∧
      ((ls.foldl (State.sampleLane sense) s).lane l).core = ((u.sampleLane sense l).lane l).core := by
  induction ls generalizing s with
  | nil => cases hl
  | cons j js ih =>
    obtain ⟨hj, hjs⟩ := List.nodup_cons.mp hnd
    rcases List.mem_cons.mp hl with rfl | hl'
    · refine ⟨s, rfl, ?_⟩
      have hrest : ∀ (is : List LaneIx) (t : State), l ∉ is →
          ((is.foldl (State.sampleLane sense) t).lane l).core = (t.lane l).core := by
        intro is
        induction is with
        | nil => exact fun _ _ => rfl
        | cons i is ihs =>
          intro t hi
          rw [List.mem_cons, not_or] at hi
          exact (ihs _ hi.2).trans (State.sampleLane_core_ne sense hi.1 t)
      exact hrest js _ hj
    · obtain ⟨u, hu, ht⟩ := ih hjs hl' (s.sampleLane sense j)
      exact ⟨u, hu.trans (State.sampleLane_core_ne sense (fun e : l = j => hj (e ▸ hl')) s), ht⟩

/-! ## What a sample does to its lane -/

/-- An input that does not read the last sample's level again takes the sample and nothing else. -/
theorem State.sampleSensor_still {s : State} {sense : BitVec 48} {l : LaneIx} {k : Sensor}
    (h : ((s.lane l).sensor k).level.last ≠ some (sense.getLsbD (senseBit l k))) :
    s.sampleSensor sense l k = s.modLane l fun r => r.setSensor k
      ⟨⟨some (sense.getLsbD (senseBit l k)), ((s.lane l).sensor k).level.acc⟩, ((s.lane l).sensor k).latch⟩ := by
  unfold State.sampleSensor
  dsimp only
  rw [Debounce.sample_still h]
  simp

/-- An accepted rise of an input of a present lane is its event. -/
theorem State.sampleSensor_rises {s : State} {sense : BitVec 48} {l : LaneIx} {k : Sensor}
    (hp : (s.lane l).present = true) (hx : sense.getLsbD (senseBit l k) = true)
    (h : ((s.lane l).sensor k).level = ⟨some true, some false⟩) :
    s.sampleSensor sense l k = ((s.sensed l k true).takeRising l k).endEvent := by
  have hacc : (s.modLane l fun r => r.setSensor k ⟨.accept true, true⟩) = s.acceptSensor l k true := rfl
  unfold State.sampleSensor
  dsimp only
  rw [h, hx, Debounce.sample_change (by decide)]
  simp only [Bool.or_true, if_true, hacc]
  rw [State.event, State.takeChange_acceptSensor s l k true true hp, if_pos rfl]

/-! ## The lane of a sensor event -/

theorem LaneRec.setSensor_sensor_ne (r : LaneRec) {k j : Sensor} (h : j ≠ k) (x : SensorIn) :
    (r.setSensor k x).sensor j = r.sensor j := by
  cases k <;> cases j <;> simp_all [LaneRec.setSensor, LaneRec.sensor]

theorem LaneRec.setSensor_keeps (r : LaneRec) (k : Sensor) (x : SensorIn) :
    (r.setSensor k x).stock = r.stock ∧ (r.setSensor k x).delivery = r.delivery ∧
      (r.setSensor k x).present = r.present ∧ (r.setSensor k x).cfg = r.cfg := by
  cases k <;> exact ⟨rfl, rfl, rfl, rfl⟩

/-- The sensor inputs of a lane and whether it is present. -/
def LaneRec.inputs (r : LaneRec) : Bool × SensorIn × SensorIn × SensorIn := (r.present, r.feedIn, r.emptyIn, r.reserveIn)

theorem LaneRec.inputs_of_core {r r' : LaneRec} (h : r.core = r'.core) : r.inputs = r'.inputs :=
  (congrArg LaneRec.inputs h :)

theorem LaneRec.of_inputs {r r' : LaneRec} (h : r.inputs = r'.inputs) :
    r.present = r'.present ∧ ∀ k, r.sensor k = r'.sensor k := by
  obtain ⟨hp, hf, he, hr⟩ : r.present = r'.present ∧ r.feedIn = r'.feedIn ∧ r.emptyIn = r'.emptyIn ∧
      r.reserveIn = r'.reserveIn := by simpa [LaneRec.inputs] using h
  refine ⟨hp, fun k => ?_⟩
  cases k
  · exact hf
  · exact he
  · exact hr

theorem LaneRec.fed_inputs (r : LaneRec) : r.fed.inputs = r.inputs := by
  unfold LaneRec.fed
  split <;> rfl

theorem State.countFeed_inputs (s : State) (l : LaneIx) : ((s.countFeed l).lane l).inputs = (s.lane l).inputs := by
  rcases hc : (s.lane l).call.promised
  · rw [State.countFeed_of_not_promised hc]
  · rw [State.countFeed_of_promised hc]
    have hcounted : (s.feedCounted l).lane l = (s.lane l).countedOne := by rw [State.feedCounted_lane, if_pos rfl]
    split
    · have hcore : (((s.feedCounted l).complete l).lane l).core = (s.lane l).countedOne.completed.core := by
        rw [State.complete_eq, State.forecastLane_core, State.moveLane_core, if_pos rfl, State.reported_lane, hcounted]
      exact (LaneRec.inputs_of_core hcore).trans rfl
    · rw [hcounted]; rfl

theorem State.takeRising_inputs (s : State) (l : LaneIx) (k : Sensor) :
    ((s.takeRising l k).lane l).inputs = (s.lane l).inputs := by
  cases k
  · show ((s.takeFeed l).lane l).inputs = _
    unfold State.takeFeed
    dsimp only
    rw [State.countFeed_inputs]
    have hfed : ((s.modLane l LaneRec.fed).lane l).inputs = (s.lane l).inputs := by
      rw [State.lane_modLane_same, LaneRec.fed_inputs]
    split
    · rw [LaneRec.inputs_of_core (State.markOverfill_core _ l l), hfed]
    · rw [LaneRec.inputs_of_core (State.forecastLane_core _ l l), hfed]
  · show ((s.takeEmpty l).lane l).inputs = _
    unfold State.takeEmpty
    split
    · exact (congrArg LaneRec.inputs (s.lane_modLane_same l fun r => { r with s := 0 })).trans rfl
    · rw [LaneRec.inputs_of_core (State.forecastLane_core _ l l), State.lane_modLane_same]
      rfl
  · show ((s.takeReserve l).lane l).inputs = _
    unfold State.takeReserve
    split
    · rw [LaneRec.inputs_of_core (State.forecastLane_core _ l l), State.lane_modLane_same]
      rfl
    · rfl

/-- The stock of a lane after each of its events. -/
theorem State.takeRising_stock (s : State) (l : LaneIx) :
    ((s.takeRising l .feed).lane l).stock = (s.lane l).fed.stock ∧
      ((s.lane l).b ≠ 0 → ((s.takeRising l .empty).lane l).stock = (s.lane l).emptied.stock) ∧
      (1 < (s.lane l).b → ((s.takeRising l .reserve).lane l).stock = (s.lane l).reserved.stock) := by
  refine ⟨(s.takeFeed_stock l).1, fun hb => ?_, fun hb => ?_⟩
  · have htake : s.takeRising l .empty = (s.modLane l LaneRec.emptied).forecastLane l := if_neg hb
    rw [htake, (LaneRec.of_core (State.forecastLane_core _ l l)).2.2.2.2, State.lane_modLane_same]
  · have htake : s.takeRising l .reserve = (s.modLane l LaneRec.reserved).forecastLane l := if_pos hb
    rw [htake, (LaneRec.of_core (State.forecastLane_core _ l l)).2.2.2.2, State.lane_modLane_same]

/-- What an input that stays leaves of its lane. -/
theorem State.sampleSensor_still_lane {s : State} {sense : BitVec 48} {l : LaneIx} {k : Sensor}
    (h : ((s.lane l).sensor k).level.last ≠ some (sense.getLsbD (senseBit l k))) :
    ((s.sampleSensor sense l k).lane l).stock = (s.lane l).stock ∧
      ((s.sampleSensor sense l k).lane l).delivery = (s.lane l).delivery ∧
      ((s.sampleSensor sense l k).lane l).present = (s.lane l).present ∧
      ((s.sampleSensor sense l k).lane l).cfg = (s.lane l).cfg ∧
      ∀ j, j ≠ k → ((s.sampleSensor sense l k).lane l).sensor j = (s.lane l).sensor j := by
  rw [State.sampleSensor_still h, State.lane_modLane_same]
  obtain ⟨hs, hd, hp, hc⟩ := (s.lane l).setSensor_keeps k
    ⟨⟨some (sense.getLsbD (senseBit l k)), ((s.lane l).sensor k).level.acc⟩, ((s.lane l).sensor k).latch⟩
  exact ⟨hs, hd, hp, hc, fun j hj => LaneRec.setSensor_sensor_ne _ hj _⟩

/-- What an accepted rise of an input leaves of its lane's others. -/
theorem State.sampleSensor_rises_sensor {s : State} {sense : BitVec 48} {l : LaneIx} {k : Sensor}
    (hp : (s.lane l).present = true) (hx : sense.getLsbD (senseBit l k) = true)
    (h : ((s.lane l).sensor k).level = ⟨some true, some false⟩) {j : Sensor} (hj : j ≠ k) :
    ((s.sampleSensor sense l k).lane l).sensor j = (s.lane l).sensor j := by
  have hinputs : ((s.sampleSensor sense l k).lane l).inputs = ((s.sensed l k true).lane l).inputs := by
    rw [State.sampleSensor_rises hp hx h, LaneRec.inputs_of_core (State.endEvent_core _ l), State.takeRising_inputs]
  rw [(LaneRec.of_inputs hinputs).2 j, State.sensed_lane_same, LaneRec.setSensor_sensor_ne _ hj]

/-- The stock of a lane after an accepted rise of an input. -/
theorem State.sampleSensor_rises_stock {s : State} {sense : BitVec 48} {l : LaneIx} {k : Sensor}
    (hp : (s.lane l).present = true) (hx : sense.getLsbD (senseBit l k) = true)
    (h : ((s.lane l).sensor k).level = ⟨some true, some false⟩) :
    ((s.sampleSensor sense l k).lane l).stock = (((s.sensed l k true).takeRising l k).lane l).stock := by
  rw [State.sampleSensor_rises hp hx h, (State.endEvent_lane _ l).1]

/-! ## The three inputs of a lane -/

theorem State.sampleLane_eq (sense : BitVec 48) (s : State) (l : LaneIx) :
    s.sampleLane sense l =
      ((s.sampleSensor sense l .feed).sampleSensor sense l .empty).sampleSensor sense l .reserve := rfl

/-- The input of a lane does not read the last sample's level again. -/
def LaneRec.stays (sense : BitVec 48) (l : LaneIx) (r : LaneRec) (k : Sensor) : Prop :=
  (r.sensor k).level.last ≠ some (sense.getLsbD (senseBit l k))

/-- The input of a lane reads high again after an accepted low. -/
def LaneRec.goesUp (sense : BitVec 48) (l : LaneIx) (r : LaneRec) (k : Sensor) : Prop :=
  sense.getLsbD (senseBit l k) = true ∧ (r.sensor k).level = ⟨some true, some false⟩

theorem State.sampleLane_still {s : State} {sense : BitVec 48} {l : LaneIx} (hf : (s.lane l).stays sense l .feed)
    (he : (s.lane l).stays sense l .empty) (hr : (s.lane l).stays sense l .reserve) :
    ((s.sampleLane sense l).lane l).stock = (s.lane l).stock ∧
      ((s.sampleLane sense l).lane l).delivery = (s.lane l).delivery := by
  obtain ⟨hs1, hd1, -, -, hk1⟩ := State.sampleSensor_still_lane hf
  obtain ⟨hs2, hd2, -, -, hk2⟩ := State.sampleSensor_still_lane (s := s.sampleSensor sense l .feed) (k := .empty)
    (by rw [hk1 .empty nofun]; exact he)
  obtain ⟨hs3, hd3, -⟩ := State.sampleSensor_still_lane (s := (s.sampleSensor sense l .feed).sampleSensor sense l .empty)
    (k := .reserve) (by rw [hk2 .reserve nofun, hk1 .reserve nofun]; exact hr)
  rw [State.sampleLane_eq, hs3, hd3, hs2, hd2, hs1, hd1]
  exact ⟨rfl, rfl⟩

theorem State.sampleLane_feed {s : State} {sense : BitVec 48} {l : LaneIx} (hp : (s.lane l).present = true)
    (hf : (s.lane l).goesUp sense l .feed) (he : (s.lane l).stays sense l .empty)
    (hr : (s.lane l).stays sense l .reserve) :
    ((s.sampleLane sense l).lane l).stock = ((s.sensed l .feed true).lane l).fed.stock := by
  have hk1 := fun (j : Sensor) (hj : j ≠ .feed) => State.sampleSensor_rises_sensor hp hf.1 hf.2 hj
  obtain ⟨hs2, -, -, -, hk2⟩ := State.sampleSensor_still_lane (s := s.sampleSensor sense l .feed) (k := .empty)
    (by rw [hk1 .empty nofun]; exact he)
  obtain ⟨hs3, -⟩ := State.sampleSensor_still_lane (s := (s.sampleSensor sense l .feed).sampleSensor sense l .empty)
    (k := .reserve) (by rw [hk2 .reserve nofun, hk1 .reserve nofun]; exact hr)
  rw [State.sampleLane_eq, hs3, hs2, State.sampleSensor_rises_stock hp hf.1 hf.2, (State.takeRising_stock _ l).1]

theorem State.sampleLane_empty {s : State} {sense : BitVec 48} {l : LaneIx} (hp : (s.lane l).present = true)
    (hf : (s.lane l).stays sense l .feed) (he : (s.lane l).goesUp sense l .empty)
    (hr : (s.lane l).stays sense l .reserve) (hb : (s.lane l).b ≠ 0) :
    ((s.sampleLane sense l).lane l).stock.b = (s.lane l).b - 1 ∧
      ((s.sampleLane sense l).lane l).stock.s = ((s.lane l).b - 1) * (s.lane l).cfg.q := by
  obtain ⟨hs1, -, hp1, hc1, hk1⟩ := State.sampleSensor_still_lane hf
  have hp1' := hp1.trans hp
  have he1 : ((s.sampleSensor sense l .feed).lane l).goesUp sense l .empty := ⟨he.1, by rw [hk1 .empty nofun]; exact he.2⟩
  have hk2 := fun (j : Sensor) (hj : j ≠ .empty) => State.sampleSensor_rises_sensor hp1' he1.1 he1.2 hj
  obtain ⟨hs3, -⟩ := State.sampleSensor_still_lane (s := (s.sampleSensor sense l .feed).sampleSensor sense l .empty)
    (k := .reserve) (by rw [hk2 .reserve nofun, hk1 .reserve nofun]; exact hr)
  have hb1 : ((s.sampleSensor sense l .feed).lane l).b = (s.lane l).b := (congrArg StockView.b hs1 :)
  have hcfg : (((s.sampleSensor sense l .feed).sensed l .empty true).lane l).cfg = (s.lane l).cfg := by
    rw [State.sensed_lane_same, (LaneRec.setSensor_keeps ..).2.2.2, hc1]
  rw [State.sampleLane_eq, hs3, State.sampleSensor_rises_stock hp1' he1.1 he1.2,
    (State.takeRising_stock _ l).2.1 (by rw [State.sensed_lane_b, hb1]; exact hb)]
  simp only [LaneRec.stock, LaneRec.emptied, State.sensed_lane_b, hb1, hcfg, and_self]

theorem State.sampleLane_reserve {s : State} {sense : BitVec 48} {l : LaneIx} (hp : (s.lane l).present = true)
    (hf : (s.lane l).stays sense l .feed) (he : (s.lane l).stays sense l .empty)
    (hr : (s.lane l).goesUp sense l .reserve) (hb : 1 < (s.lane l).b) :
    ((s.sampleLane sense l).lane l).stock.b = 1 ∧
      ((s.sampleLane sense l).lane l).stock.s = min (s.lane l).s (s.lane l).cfg.q := by
  obtain ⟨hs1, -, hp1, hc1, hk1⟩ := State.sampleSensor_still_lane hf
  obtain ⟨hs2, -, hp2, hc2, hk2⟩ := State.sampleSensor_still_lane (s := s.sampleSensor sense l .feed) (k := .empty)
    (by rw [hk1 .empty nofun]; exact he)
  have hp2' := (hp2.trans hp1).trans hp
  have hr2 : (((s.sampleSensor sense l .feed).sampleSensor sense l .empty).lane l).goesUp sense l .reserve :=
    ⟨hr.1, by rw [hk2 .reserve nofun, hk1 .reserve nofun]; exact hr.2⟩
  have hstock := hs2.trans hs1
  have hb2 : (((s.sampleSensor sense l .feed).sampleSensor sense l .empty).lane l).b = (s.lane l).b :=
    (congrArg StockView.b hstock :)
  have hs2' : (((s.sampleSensor sense l .feed).sampleSensor sense l .empty).lane l).s = (s.lane l).s :=
    (congrArg StockView.s hstock :)
  rw [State.sampleLane_eq, State.sampleSensor_rises_stock hp2' hr2.1 hr2.2,
    (State.takeRising_stock _ l).2.2 (by rw [State.sensed_lane_b, hb2]; exact hb), State.sensed_lane_same]
  have hkeep := ((((s.sampleSensor sense l .feed).sampleSensor sense l .empty).lane l)).setSensor_keeps .reserve
    ⟨.accept true, false⟩
  have hcfg := hkeep.2.2.2.trans (hc2.trans hc1)
  have hpar : _ = (s.lane l).s := (congrArg StockView.s hkeep.1 :).trans hs2'
  simp only [LaneRec.stock, LaneRec.reserved]
  exact ⟨trivial, by rw [hcfg]; exact congrArg (min · _) hpar⟩

/-! ## What sensor events leave of a bank (R153) -/

/-- A bank's presence input stands, and the face of a FRAME bank. -/
structure State.faceKept (k : Bank) (s t : State) : Prop where
  prof : t.prof = s.prof
  presence : (t.bank k).presence = (s.bank k).presence
  face : s.prof.isLocal k = false → (t.bank k).faceOpen = (s.bank k).faceOpen

theorem State.faceKept.refl (k : Bank) (s : State) : State.faceKept k s s := ⟨rfl, rfl, fun _ => rfl⟩

theorem State.faceKept.trans {k : Bank} {s t u : State} (h : s.faceKept k t) (h' : t.faceKept k u) : s.faceKept k u :=
  ⟨h'.prof.trans h.prof, h'.presence.trans h.presence, fun hl => (h'.face (by rw [h.prof]; exact hl)).trans (h.face hl)⟩

theorem State.faceKept.of_bank {k : Bank} {s t : State} (hp : t.prof = s.prof) (hb : t.bank k = s.bank k) :
    s.faceKept k t := ⟨hp, by rw [hb], fun _ => by rw [hb]⟩

theorem State.faceKept.foldl {α : Type} {k : Bank} {F : State → α → State} (hF : ∀ (s : State) a, s.faceKept k (F s a))
    (xs : List α) (s : State) : s.faceKept k (xs.foldl F s) := by
  induction xs generalizing s with
  | nil => exact .refl k s
  | cons x xs ih => exact (hF s x).trans (ih _)

theorem State.modLane_faceKept (s : State) (k : Bank) (l : LaneIx) (f : LaneRec → LaneRec) : s.faceKept k (s.modLane l f) :=
  .of_bank rfl (s.modLane_bank l f k)

theorem State.setLane_bank (s : State) (l : LaneIx) (r : LaneRec) (k : Bank) : (s.setLane l r).bank k = s.bank k :=
  State.bank_congr rfl rfl k

theorem State.restage_faceKept (s : State) (k : Bank) (l : LaneIx) : s.faceKept k (s.restage l) := by
  unfold State.restage
  dsimp only
  split
  · exact .refl k s
  · split
    · exact .of_bank rfl (s.setLane_bank ..)
    · split
      next hlocal =>
        refine ⟨by simp, ?_, fun hf => ?_⟩
        · rw [State.trigger_bank]
          split
          next hk => rw [State.setLane_bank, hk]
          · rw [State.setLane_bank]
        · rw [State.trigger_bank, if_neg, State.setLane_bank]
          rintro rfl
          simp [hf] at hlocal
      · exact .of_bank rfl (s.setLane_bank ..)

theorem State.ask_faceKept (s : State) (k : Bank) : s.faceKept k s.ask := .of_bank (by simp) (s.ask_bank k)

theorem State.moveLane_faceKept (s : State) (k : Bank) (l : LaneIx) (f : LaneRec → LaneRec) :
    s.faceKept k (s.moveLane l f) := by
  have h := (s.modLane_faceKept k l fun r => { f r with moved := true }).trans (State.restage_faceKept _ k l)
  unfold State.moveLane
  dsimp only
  split
  · exact h.trans (State.ask_faceKept _ k)
  · exact h

/-- A change of the records of a bank's visit and items. -/
theorem State.modBank_faceKept (s : State) (k j : Bank) {f : BankRec → BankRec}
    (hp : ∀ b, (f b).presence = b.presence) (hf : ∀ b, (f b).faceOpen = b.faceOpen) : s.faceKept k (s.modBank j f) := by
  refine ⟨by simp, ?_, fun _ => ?_⟩
  · rw [State.bank_modBank]
    split
    next h => rw [hp, h]
    · rfl
  · rw [State.bank_modBank]
    split
    next h => rw [hf, h]
    · rfl

theorem State.joinItems_faceKept (s : State) (k : Bank) (l : LaneIx) : s.faceKept k (s.joinItems l) :=
  s.modBank_faceKept k _ (fun _ => rfl) fun _ => rfl

theorem State.forecastLane_faceKept (s : State) (k : Bank) (l : LaneIx) : s.faceKept k (s.forecastLane l) :=
  .of_bank (by simp) (State.bank_congr (by simp) (by simp) k)

theorem State.complete_faceKept (s : State) (k : Bank) (l : LaneIx) : s.faceKept k (s.complete l) := by
  have hreported : s.faceKept k (s.reported l) := by
    rw [State.reported_eq]
    refine .trans (t := s.recorded (bankOf l) (s.lane l).onRun) ?_ ?_
    · unfold State.recorded
      split
      · exact s.modBank_faceKept k _ (fun _ => rfl) fun _ => rfl
      · exact .refl k s
    · unfold State.itemised
      split
      · exact State.joinItems_faceKept ..
      · exact .refl k _
  rw [State.complete_eq]
  exact hreported.trans ((State.moveLane_faceKept ..).trans (State.forecastLane_faceKept ..))

theorem State.countFeed_faceKept (s : State) (k : Bank) (l : LaneIx) : s.faceKept k (s.countFeed l) := by
  have hfollow : ∀ t : State, t.faceKept k (t.followItem l) := fun t => by
    unfold State.followItem
    dsimp only
    split
    · exact t.joinItems_faceKept k l
    · exact .refl k t
  unfold State.countFeed State.completeIfDone
  dsimp only
  split
  · have hcounted := (s.modLane_faceKept k l fun r => { r with delivered := r.delivered + 1 }).trans (hfollow _)
    split
    · exact hcounted.trans (State.complete_faceKept ..)
    · exact hcounted
  · exact .refl k s

theorem State.takeRising_faceKept (s : State) (k : Bank) (l : LaneIx) (j : Sensor) : s.faceKept k (s.takeRising l j) := by
  cases j
  · show s.faceKept k (s.takeFeed l)
    unfold State.takeFeed State.markOverfill
    dsimp only
    refine .trans ?_ (State.countFeed_faceKept _ k l)
    split
    · split
      · exact (s.modLane_faceKept ..).trans ((State.modLane_faceKept ..).trans (State.restage_faceKept ..))
      · exact s.modLane_faceKept ..
    · exact (s.modLane_faceKept ..).trans (State.forecastLane_faceKept ..)
  · show s.faceKept k (s.takeEmpty l)
    unfold State.takeEmpty
    split
    · exact (s.modLane_faceKept k l fun r => { r with s := 0 }).trans (.of_bank rfl (State.bank_congr rfl rfl k))
    · exact (s.modLane_faceKept ..).trans (State.forecastLane_faceKept ..)
  · show s.faceKept k (s.takeReserve l)
    unfold State.takeReserve
    split
    · exact (s.modLane_faceKept ..).trans (State.forecastLane_faceKept ..)
    · exact .refl k s

theorem State.endEvent_faceKept (s : State) (k : Bank) : s.faceKept k s.endEvent := .of_bank (by simp) (s.endEvent_bank k)

theorem State.sampleLanes_faceKept (sense : BitVec 48) (ls : List LaneIx) (s : State) (k : Bank) :
    s.faceKept k (ls.foldl (State.sampleLane sense) s) := by
  have hchange : ∀ (t : State) (l : LaneIx) (j : Sensor) (x : Bool), t.faceKept k (t.takeChange l j x) := fun t l j x => by
    have hclear : t.faceKept k (t.clearLatch l j) := t.modLane_faceKept ..
    unfold State.takeChange
    split
    · dsimp only
      split
      · exact hclear.trans (State.takeRising_faceKept ..)
      · exact hclear
    · exact .refl k t
  refine .foldl (fun t l => ?_) ls s
  refine .foldl (fun u j => ?_) allSensors t
  unfold State.sampleSensor
  dsimp only
  split
  · exact (u.modLane_faceKept ..).trans ((hchange ..).trans (State.endEvent_faceKept ..))
  · exact u.modLane_faceKept ..

/-! ## Presence inputs sampled (R153) -/

/-- A presence input sampled by itself. -/
def State.presenceSampled (s : State) (k : Bank) (x : Bool) : State :=
  s.modBank k fun b => { b with presence := ((s.bank k).presence.sample x).1 }

theorem State.samplePresence_eq (s : State) (k : Bank) (x : Bool) :
    s.samplePresence k x =
      if ((s.bank k).presence.sample x).2 then ((s.presenceSampled k x).presenceChange k x).endEvent
      else s.presenceSampled k x := rfl

theorem State.presenceSampled_bank (s : State) (k j : Bank) (x : Bool) :
    (s.presenceSampled k x).bank j =
      if j = k then { s.bank k with presence := ((s.bank k).presence.sample x).1 } else s.bank j := by
  rw [State.presenceSampled, State.bank_modBank]

theorem State.presenceChange_bank (s : State) (k j : Bank) (x : Bool) :
    (s.presenceChange k x).bank j =
      if j = k ∧ s.prof.isLocal k = true then { s.bank k with faceOpen := x } else s.bank j := by
  unfold State.presenceChange State.presenceUp State.presenceDown
  cases hl : s.prof.isLocal k <;> cases x
  · simp
  · simp
  · simp [State.closeFace_bank]
  · simp [State.trigger_bank]

/-- The bank of a presence input sampled, and the other. -/
theorem State.samplePresence_bank (s : State) (k j : Bank) (x : Bool) :
    (s.samplePresence k x).bank j =
      if j = k then
        { s.bank k with
          presence := ((s.bank k).presence.sample x).1
          faceOpen := if ((s.bank k).presence.sample x).2 && s.prof.isLocal k then x else (s.bank k).faceOpen }
      else s.bank j := by
  have hprof : (s.presenceSampled k x).prof = s.prof := by simp [State.presenceSampled]
  rw [State.samplePresence_eq]
  cases ((s.bank k).presence.sample x).2
  · rw [if_neg (by simp), State.presenceSampled_bank]
    simp
  · rw [if_pos rfl, State.endEvent_bank, State.presenceChange_bank, State.presenceSampled_bank, State.presenceSampled_bank,
      hprof]
    by_cases hj : j = k
    · cases s.prof.isLocal k <;> simp [hj]
    · simp [hj]

end Sys2Proof.Machine
end

section
/-! PROOFS. What a whole sample does in PACER and RACK role (R2, R3, R23 to R30, R153). -/

namespace Sys2Proof.Machine

/-! ## A pacer's sample (R2, R3) -/

/-- The LINE port sampled, before an accepted rise of TAKT is taken. -/
def State.lineSampled (s : State) (rp : BitVec 12) : State :=
  { s with pacer.variantIn := (s.pacer.variantIn.sample (rp.extractLsb' 0 6)).1,
           pacer.validIn := (s.pacer.validIn.sample (rp.getLsbD 6)).1,
           pacer.taktIn := (s.pacer.taktIn.sample (rp.getLsbD 7)).1 }

theorem State.sampleLine_eq (s : State) (rp : BitVec 12) :
    s.sampleLine rp =
      if s.pacer.taktIn.rises (rp.getLsbD 7) then (s.lineSampled rp).edge.endEvent else s.lineSampled rp := rfl

/-- A rise of TAKT is counted, and its input stands accepted. -/
theorem State.sampleLine_rise {s : State} {rp : BitVec 12} (hx : rp.getLsbD 7 = true)
    (hd : s.pacer.taktIn = ⟨some true, some false⟩) :
    (s.sampleLine rp).pacer.nLocal = s.pacer.nLocal + 1 ∧
      (s.sampleLine rp).pacer.taktIn = ⟨some true, some true⟩ := by
  have hrise : s.pacer.taktIn.rises (rp.getLsbD 7) = true := by
    rw [Debounce.rises_eq, hx, hd]
    rfl
  have htakt : (s.lineSampled rp).pacer.taktIn = ⟨some true, some true⟩ := by
    show (s.pacer.taktIn.sample (rp.getLsbD 7)).1 = _
    rw [Debounce.sample_fst, hx, hd, if_pos rfl]
  have hpacer := (s.lineSampled rp).edge_pacer
  rw [State.counted_pacer] at hpacer
  rw [State.sampleLine_eq, if_pos hrise]
  simp only [State.endEvent_frame, hpacer]
  exact ⟨rfl, htakt⟩

/-- Without one the count, the record and the queues stand. -/
theorem State.sampleLine_still {s : State} {rp : BitVec 12}
    (h : ¬(rp.getLsbD 7 = true ∧ s.pacer.taktIn.last = some true ∧ s.pacer.taktIn.acc = some false)) :
    s.sampleLine rp = s.lineSampled rp := by
  rw [State.sampleLine_eq, if_neg]
  simpa [Debounce.rises_eq, and_assoc] using h

/-! ## A rack's sample: its lanes (R23 to R30) -/

theorem State.presenceChange_core (s : State) (k : Bank) (x : Bool) (l : LaneIx) :
    ((s.presenceChange k x).lane l).core = (s.lane l).core := by
  unfold State.presenceChange State.presenceUp State.presenceDown
  split <;> split
  · exact s.trigger_core k l
  · rfl
  · exact s.closeFace_core k l
  · rfl

theorem State.samplePresence_core (s : State) (k : Bank) (x : Bool) (l : LaneIx) :
    ((s.samplePresence k x).lane l).core = (s.lane l).core := by
  have hsampled : ((s.presenceSampled k x).lane l).core = (s.lane l).core := by
    rw [State.presenceSampled, State.lane_congr (State.modBank_lanes ..)]
  rw [State.samplePresence_eq]
  split
  · rw [State.endEvent_core, State.presenceChange_core, hsampled]
  · exact hsampled

/-- The core of a lane after a sample is that of its own sample, on a record like its own. -/
theorem State.sampleRack_core (s : State) (pins : Pins) (l : LaneIx) :
    ∃ u : State, (u.lane l).core = (s.lane l).core ∧
      ((s.sampleRack pins).lane l).core = ((u.sampleLane pins.sense l).lane l).core := by
  obtain ⟨u, hu, ht⟩ := sampleLanes_core pins.sense allLanes_nodup (mem_allLanes l) s
  exact ⟨u, hu, by rw [State.sampleRack, State.samplePresence_core, State.samplePresence_core, ht]⟩

theorem LaneRec.stays_of_core {sense : BitVec 48} {l : LaneIx} {r r' : LaneRec} (h : r.core = r'.core) {k : Sensor}
    (hk : r'.stays sense l k) : r.stays sense l k := by
  unfold LaneRec.stays
  rw [(LaneRec.of_inputs (LaneRec.inputs_of_core h)).2 k]
  exact hk

theorem LaneRec.goesUp_of_core {sense : BitVec 48} {l : LaneIx} {r r' : LaneRec} (h : r.core = r'.core) {k : Sensor}
    (hk : r'.goesUp sense l k) : r.goesUp sense l k := by
  unfold LaneRec.goesUp
  rw [(LaneRec.of_inputs (LaneRec.inputs_of_core h)).2 k]
  exact hk

theorem LaneRec.fed_stock_b {r : LaneRec} (h : r.b < r.cfg.binsMax) : r.fed.stock.b = r.b + 1 := by
  simp [LaneRec.fed, LaneRec.stock, h]

theorem LaneRec.figures_of_core {r r' : LaneRec} (h : r.core = r'.core) :
    r.b = r'.b ∧ r.s = r'.s ∧ r.cfg = r'.cfg ∧ r.present = r'.present :=
  ⟨(congrArg LaneRec.b h :), (congrArg LaneRec.s h :), (congrArg LaneRec.cfg h :), (congrArg LaneRec.present h :)⟩

/-- What a sample of a present lane's sensors leaves of its stock. -/
theorem State.sampleRack_rises (s : State) (pins : Pins) {l : LaneIx} (hp : (s.lane l).present = true) :
    ((s.lane l).goesUp pins.sense l .feed → (s.lane l).stays pins.sense l .empty →
        (s.lane l).stays pins.sense l .reserve → (s.lane l).b < (s.lane l).cfg.binsMax →
        ((s.sampleRack pins).lane l).b = (s.lane l).b + 1) ∧
      ((s.lane l).stays pins.sense l .feed → (s.lane l).goesUp pins.sense l .empty →
        (s.lane l).stays pins.sense l .reserve → 0 < (s.lane l).b →
        ((s.sampleRack pins).lane l).b = (s.lane l).b - 1 ∧
          ((s.sampleRack pins).lane l).s = ((s.lane l).b - 1) * (s.lane l).cfg.q) ∧
      ((s.lane l).stays pins.sense l .feed → (s.lane l).stays pins.sense l .empty →
        (s.lane l).goesUp pins.sense l .reserve → 1 < (s.lane l).b →
        ((s.sampleRack pins).lane l).b = 1 ∧
          ((s.sampleRack pins).lane l).s = min (s.lane l).s (s.lane l).cfg.q) := by
  obtain ⟨u, hu, ht⟩ := s.sampleRack_core pins l
  obtain ⟨hb, hs, hcfg, hpresent⟩ := LaneRec.figures_of_core hu
  obtain ⟨htb, hts, -⟩ := LaneRec.figures_of_core ht
  have hpu := hpresent.trans hp
  rw [htb, hts, ← hb, ← hs, ← hcfg]
  refine ⟨fun hf he hr hroom => ?_, fun hf he hr hpos => ?_, fun hf he hr hpos => ?_⟩
  · have hstock := State.sampleLane_feed hpu (LaneRec.goesUp_of_core hu hf) (LaneRec.stays_of_core hu he)
      (LaneRec.stays_of_core hu hr)
    rw [State.sensed_lane_same] at hstock
    refine (congrArg StockView.b hstock :).trans ?_
    rw [LaneRec.fed_stock_b]
    · rfl
    · exact hroom
  · exact State.sampleLane_empty hpu (LaneRec.stays_of_core hu hf) (LaneRec.goesUp_of_core hu he)
      (LaneRec.stays_of_core hu hr) (by omega)
  · exact State.sampleLane_reserve hpu (LaneRec.stays_of_core hu hf) (LaneRec.stays_of_core hu he)
      (LaneRec.goesUp_of_core hu hr) hpos

theorem State.sampleRack_stays (s : State) (pins : Pins) {l : LaneIx} (h : ∀ k, (s.lane l).stays pins.sense l k) :
    ((s.sampleRack pins).lane l).stock = (s.lane l).stock ∧
      ((s.sampleRack pins).lane l).delivery = (s.lane l).delivery := by
  obtain ⟨u, hu, ht⟩ := s.sampleRack_core pins l
  obtain ⟨hstock, hdelivery⟩ := State.sampleLane_still (LaneRec.stays_of_core hu (h .feed))
    (LaneRec.stays_of_core hu (h .empty)) (LaneRec.stays_of_core hu (h .reserve))
  obtain ⟨hd, -, -, -, hs⟩ := LaneRec.of_core ht
  obtain ⟨hd', -, -, -, hs'⟩ := LaneRec.of_core hu
  exact ⟨hs.trans (hstock.trans hs'), hd.trans (hdelivery.trans hd')⟩

/-! ## A rack's sample: its presence inputs (R153) -/

/-- The level of a bank's presence input. -/
def presenceLevel (pins : Pins) : Bank → Bool
  | .a => pins.rp.getLsbD 0
  | .b => pins.rp.getLsbD 1

theorem State.samplePresence_prof (s : State) (k : Bank) (x : Bool) : (s.samplePresence k x).prof = s.prof := by
  simp

/-- A bank after a sample: its presence input takes its level, and a LOCAL bank's face the change. -/
theorem State.sampleRack_bank (s : State) (pins : Pins) (k : Bank) :
    ∃ u : State, s.faceKept k u ∧
      (s.sampleRack pins).bank k =
        { u.bank k with
          presence := ((u.bank k).presence.sample (presenceLevel pins k)).1
          faceOpen := if ((u.bank k).presence.sample (presenceLevel pins k)).2 && u.prof.isLocal k then presenceLevel pins k
            else (u.bank k).faceOpen } := by
  have hkept := State.sampleLanes_faceKept pins.sense allLanes s k
  unfold State.sampleRack
  generalize allLanes.foldl (State.sampleLane pins.sense) s = u at hkept ⊢
  refine ⟨u, hkept, ?_⟩
  cases k
  · rw [State.samplePresence_bank, if_neg nofun, State.samplePresence_bank, if_pos rfl]
    rfl
  · rw [State.samplePresence_bank, if_pos rfl, State.samplePresence_bank, if_neg nofun, State.samplePresence_prof]
    rfl

theorem Debounce.sample_snd_of_change {x y : Bool} (h : y ≠ x) :
    ((⟨some x, some y⟩ : Debounce Bool).sample x).2 = true := by rw [Debounce.sample_change h]

/-- A bank's presence input takes its level at the second equal sample; the change works a LOCAL bank's face alone. -/
theorem State.sampleRack_presence (s : State) (pins : Pins) (k : Bank) :
    ((s.sampleRack pins).bank k).presence = ((s.bank k).presence.sample (presenceLevel pins k)).1 ∧
      (((s.bank k).presence.sample (presenceLevel pins k)).2 = true → s.prof.isLocal k = true →
        ((s.sampleRack pins).bank k).faceOpen = presenceLevel pins k) ∧
      (s.prof.isLocal k = false → ((s.sampleRack pins).bank k).faceOpen = (s.bank k).faceOpen) := by
  obtain ⟨u, ⟨hprof, hpresence, hface⟩, hbank⟩ := s.sampleRack_bank pins k
  rw [hbank, hpresence, hprof]
  refine ⟨rfl, fun hchange hlocal => ?_, fun hframe => ?_⟩
  · simp [hchange, hlocal]
  · simp [hframe, hface hframe]

end Sys2Proof.Machine
end

section
/-! PROOFS. The 20 ms sample of a train and of every role (R22, R102). -/

namespace Sys2Proof.Machine

/-! ## The button inputs of a train -/

/-- The inputs of the strobe and the buttons. -/
structure Buttons where
  strobe : Debounce Bool
  load : Debounce Bool
  go : Debounce Bool
  hold : Debounce Bool
  ack : Debounce Bool

def State.buttons (s : State) : Buttons :=
  ⟨s.planner.strobeIn, s.planner.loadIn, s.planner.goIn, s.planner.holdIn, s.planner.ackIn⟩

/-- The state with these inputs of the strobe and the buttons. -/
def State.withButtons (s : State) (b : Buttons) : State :=
  { s with planner.strobeIn := b.strobe, planner.loadIn := b.load, planner.goIn := b.go, planner.holdIn := b.hold,
           planner.ackIn := b.ack }

/-- An effect that neither reads nor changes the inputs of the strobe and the buttons. -/
def State.blind (F : State → State) : Prop := ∀ s b, F (s.withButtons b) = (F s).withButtons b

theorem State.blind.buttons {F : State → State} (h : State.blind F) (s : State) : (F s).buttons = s.buttons :=
  (congrArg State.buttons (h s s.buttons) :)

/-! ## What the effects of a train share -/

section
variable (s : State) (b : Buttons)

theorem State.withButtons_ite (c : Prop) [Decidable c] (t : State) :
    (if c then s else t).withButtons b = if c then s.withButtons b else t.withButtons b := by
  split <;> rfl

@[simp] theorem State.withButtons_offer (f : TxFrame) : (s.withButtons b).offer f = (s.offer f).withButtons b := by
  have hdraw (t : State) : (t.withButtons b).drawHead = t.drawHead.withButtons b := by
    cases h : t.air.txq <;> simp [State.drawHead, State.withButtons, h]
  have hjoined : (if s.air.txq.isEmpty then
        ({ s.withButtons b with air.txq := s.air.txq ++ [f] } : State).drawHead
      else { s.withButtons b with air.txq := s.air.txq ++ [f] }) =
      (if s.air.txq.isEmpty then ({ s with air.txq := s.air.txq ++ [f] } : State).drawHead
        else { s with air.txq := s.air.txq ++ [f] }).withButtons b := by
    rw [State.withButtons_ite, ← hdraw]
    rfl
  have hplace : (s.withButtons b).place f = (s.place f).withButtons b := by
    unfold State.place
    rw [State.withButtons_ite, State.withButtons_ite, ← hjoined]
    rfl
  have haccepts : (s.withButtons b).accepts f.kind = s.accepts f.kind := by cases f.kind <;> rfl
  unfold State.offer
  rw [State.withButtons_ite, haccepts, hplace]

@[simp] theorem State.withButtons_raise (k : NoticeKind) (station lane : Nat) :
    (s.withButtons b).raise k station lane = (s.raise k station lane).withButtons b := rfl

theorem State.withButtons_foldl {α : Type} {F : State → α → State}
    (hF : ∀ (t : State) a, F (t.withButtons b) a = (F t a).withButtons b) (xs : List α) :
    xs.foldl F (s.withButtons b) = (xs.foldl F s).withButtons b := by
  induction xs generalizing s with
  | nil => rfl
  | cons x xs ih => rw [List.foldl_cons, List.foldl_cons, hF, ih]

@[simp] theorem State.withButtons_announce (r : Run) (closed : Bool) :
    (s.withButtons b).announce r closed = (s.announce r closed).withButtons b := by
  unfold State.announce
  rw [State.withButtons_ite, ← State.withButtons_offer]
  rfl

@[simp] theorem State.withButtons_announceSlot (slot : Option Run) :
    (s.withButtons b).announceSlot slot = (s.announceSlot slot).withButtons b := by
  cases slot
  · rfl
  · exact s.withButtons_announce b ..

@[simp] theorem State.withButtons_announceAll : (s.withButtons b).announceAll = s.announceAll.withButtons b := by
  have hcurrent : (s.withButtons b).planner.current = s.planner.current := rfl
  have hplanning (t : State) : (t.withButtons b).planner.planning = t.planner.planning := rfl
  simp only [State.announceAll, hcurrent, State.withButtons_announceSlot, hplanning]

@[simp] theorem State.withButtons_queueParts (r : Run) :
    (s.withButtons b).queueParts r = (s.queueParts r).withButtons b := by
  unfold State.queueParts
  rw [State.withButtons_ite, ← State.withButtons_foldl s b
    (F := fun t i => t.offer (manifestFrame r.id s.planner.manifest i)) fun t i => t.withButtons_offer b _]
  rfl

@[simp] theorem State.withButtons_raiseLate : (s.withButtons b).raiseLate = s.raiseLate.withButtons b := by
  unfold State.raiseLate
  exact s.withButtons_foldl b (fun t e => by rw [State.withButtons_ite]; rfl) _

@[simp] theorem State.withButtons_openRun : (s.withButtons b).openRun = s.openRun.withButtons b := by
  unfold State.openRun
  rw [State.withButtons_ite]
  rfl

theorem State.withButtons_startOp (cs : Option ClaimSet) :
    (s.withButtons b).startOp cs = (s.startOp cs).withButtons b := by
  have hcopies : (s.withButtons b).newCopies = s.newCopies := by 
    cases h : s.start.role <;> simp [State.newCopies, State.withButtons, h]
  unfold State.startOp
  rw [hcopies]
  rfl

@[simp] theorem State.withButtons_endEvent : (s.withButtons b).endEvent = s.endEvent.withButtons b := by
  have hrisk (t : State) : (t.withButtons b).refreshRisk = t.refreshRisk.withButtons b := rfl
  have htake : (s.withButtons b).takeRequests = s.takeRequests.withButtons b := by
    unfold State.takeRequests
    rw [State.withButtons_ite, State.withButtons_ite, ← State.withButtons_startOp]
    rfl
  rw [State.endEvent, State.endEvent, htake, hrisk]

/-! ## The presses and the strobe -/

theorem State.withButtons_lead : (s.withButtons b).planner.lead = s.planner.lead := rfl

theorem State.withButtons_loadLock (r : Run) : (s.withButtons b).loadLock r = (s.loadLock r).withButtons b := by
  unfold State.loadLock
  dsimp only
  rw [← State.withButtons_announce, ← State.withButtons_queueParts, ← State.withButtons_raiseLate]
  rfl

theorem State.withButtons_departPresent (r : Run) (next : RunState) :
    (s.withButtons b).departPresent r next = (s.departPresent r next).withButtons b := by
  unfold State.departPresent
  split
  · dsimp only
    rw [State.withButtons_offer, ← State.withButtons_announceAll]
    rfl
  · rfl

theorem State.withButtons_departSupermarket (r : Run) :
    (s.withButtons b).departSupermarket r = (s.departSupermarket r).withButtons b := by
  unfold State.departSupermarket
  rw [← State.withButtons_announceAll, ← State.withButtons_openRun]
  rfl

theorem State.withButtons_arriveAt (r : Run) (stop : Nat) (kind : VisitKind) (revisit : Bool) :
    (s.withButtons b).arriveAt r stop kind revisit = (s.arriveAt r stop kind revisit).withButtons b := by
  unfold State.arriveAt
  dsimp only
  rw [← State.withButtons_announceAll, ← State.withButtons_offer]
  rfl

theorem State.withButtons_closeRun (r : Run) : (s.withButtons b).closeRun r = (s.closeRun r).withButtons b := by
  unfold State.closeRun
  dsimp only
  rw [State.withButtons_announce, ← State.withButtons_announceAll, ← State.withButtons_openRun]
  rfl

theorem State.withButtons_strobeEnroute (r : Run) (stop : Nat) :
    (s.withButtons b).strobeEnroute r stop = (s.strobeEnroute r stop).withButtons b := by
  have hserved : (s.withButtons b).routeServed r stop = s.routeServed r stop := rfl
  have hout : (s.withButtons b).outstandingAt stop = s.outstandingAt stop := rfl
  unfold State.strobeEnroute
  rw [hserved, hout]
  split
  · exact s.withButtons_closeRun b r
  · rcases s.routeServed r stop with _ | _ | _
    · rfl
    · exact s.withButtons_arriveAt b ..
    · dsimp only
      rw [State.withButtons_ite, State.withButtons_arriveAt]
      rfl

theorem State.withButtons_strobeHeld (r : Run) (stop : Nat) :
    (s.withButtons b).strobeHeld r stop = (s.strobeHeld r stop).withButtons b := by
  unfold State.strobeHeld
  rw [State.withButtons_ite, ← State.withButtons_arriveAt]
  rfl

theorem State.withButtons_strobeAfterDeparture (stop : Nat) :
    (s.withButtons b).strobeAfterDeparture stop = (s.strobeAfterDeparture stop).withButtons b := by
  have hcurrent : (s.withButtons b).planner.current = s.planner.current := rfl
  unfold State.strobeAfterDeparture
  rw [hcurrent]
  cases s.planner.current with
  | none => rfl
  | some r => cases h : r.state <;> simp only [h, State.withButtons_strobeEnroute, State.withButtons_strobeHeld]

theorem State.withButtons_takeStrobe (stop : Nat) :
    (s.withButtons b).takeStrobe stop = (s.takeStrobe stop).withButtons b := by
  unfold State.takeStrobe
  rw [State.withButtons_lead]
  cases s.planner.lead with
  | none => rfl
  | some r =>
    cases h : r.state <;> simp only [h, State.withButtons_strobeEnroute, State.withButtons_strobeHeld,
      State.withButtons_departPresent, State.withButtons_strobeAfterDeparture]

end

theorem State.strobe_blind : State.blind State.strobe := fun s b => by
  have hcode : (s.withButtons b).stopCode = (s.stopCode.1, s.stopCode.2.withButtons b) := by
    have hstop : (s.withButtons b).planner.stopIn = s.planner.stopIn := rfl
    unfold State.stopCode
    rw [hstop]
    cases s.planner.stopIn.acc <;> rfl
  rw [State.strobe, State.strobe, hcode, State.withButtons_takeStrobe]

theorem State.pressLoad_blind : State.blind State.pressLoad := fun s b => by
  unfold State.pressLoad
  rw [State.withButtons_lead]
  cases s.planner.lead with
  | none => rfl
  | some r =>
    dsimp only
    rw [State.withButtons_ite, State.withButtons_loadLock]
    rfl

theorem State.pressGo_blind : State.blind State.pressGo := fun s b => by
  unfold State.pressGo
  rw [State.withButtons_lead]
  cases s.planner.lead with
  | none => rfl
  | some r =>
    cases h : r.state <;>
      simp only [h, State.withButtons_departSupermarket, State.withButtons_departPresent, State.refuse,
        State.withButtons_raise]

theorem State.pressHold_blind : State.blind State.pressHold := fun s b => by
  have hset : ∀ r : Run, (s.withButtons b).setCurrent r = (s.setCurrent r).withButtons b := fun _ => rfl
  have hstart : (s.withButtons b).start = s.start := rfl
  unfold State.pressHold
  rw [State.withButtons_lead]
  cases s.planner.lead with
  | none => rfl
  | some r =>
    cases h : r.state <;>
      simp only [h, hstart, hset, State.withButtons_announceAll, State.refuse, State.withButtons_raise]

theorem State.blind.event {F : State → State} (h : State.blind F) (s : State) (b : Buttons) :
    (s.withButtons b).event F = (s.event F).withButtons b := by
  rw [State.event, State.event, h, State.withButtons_endEvent]

theorem State.blind.buttons_event {F : State → State} (h : State.blind F) (s : State) : (s.event F).buttons = s.buttons :=
  State.blind.buttons (F := fun s => s.event F) h.event s

/-! ## A train's sample (R102) -/

/-- The inputs of the strobe and the buttons after a sample. -/
def Buttons.sampled (b : Buttons) (rp : BitVec 12) : Buttons :=
  ⟨(b.strobe.sample (rp.getLsbD 5)).1, (b.load.sample (rp.getLsbD 6)).1, (b.go.sample (rp.getLsbD 7)).1,
    (b.hold.sample (rp.getLsbD 8)).1, (b.ack.sample (rp.getLsbD 9)).1⟩

/-- These inputs taken, and an accepted rise of one of them with its effect. -/
def State.pressed (s : State) (b : Buttons) (rose : Bool) (F : State → State) : State :=
  if rose then (s.withButtons b).event F else s.withButtons b

theorem State.pressed_buttons {F : State → State} (h : State.blind F) (s : State) (b : Buttons) (rose : Bool) :
    (s.pressed b rose F).buttons = b := by
  unfold State.pressed
  split
  · exact h.buttons_event _
  · rfl

theorem State.sampleStrobe_eq (s : State) (x : Bool) : s.sampleStrobe x =
    s.pressed { s.buttons with strobe := (s.buttons.strobe.sample x).1 } (s.buttons.strobe.rises x) State.strobe := rfl

theorem State.sampleLoad_eq (s : State) (x : Bool) : s.sampleLoad x =
    s.pressed { s.buttons with load := (s.buttons.load.sample x).1 } (s.buttons.load.rises x) State.pressLoad := rfl

theorem State.sampleGo_eq (s : State) (x : Bool) : s.sampleGo x =
    s.pressed { s.buttons with go := (s.buttons.go.sample x).1 } (s.buttons.go.rises x) State.pressGo := rfl

theorem State.sampleHold_eq (s : State) (x : Bool) : s.sampleHold x =
    s.pressed { s.buttons with hold := (s.buttons.hold.sample x).1 } (s.buttons.hold.rises x) State.pressHold := rfl

theorem State.sampleAck_eq (s : State) (x : Bool) : s.sampleAck x =
    s.pressed { s.buttons with ack := (s.buttons.ack.sample x).1 } (s.buttons.ack.rises x) State.takeAck := rfl

/-- The rises of a train's sample: strobe, LOAD, GO, HOLD and ACK. -/
def Buttons.risen (b : Buttons) (rp : BitVec 12) : List Bool :=
  [b.strobe.rises (rp.getLsbD 5), b.load.rises (rp.getLsbD 6), b.go.rises (rp.getLsbD 7), b.hold.rises (rp.getLsbD 8),
    b.ack.rises (rp.getLsbD 9)]

theorem Buttons.rises_of_risen {b : Buttons} {rp : BitVec 12} {r1 r2 r3 r4 r5 : Bool}
    (h : b.risen rp = [r1, r2, r3, r4, r5]) :
    b.strobe.rises (rp.getLsbD 5) = r1 ∧ b.load.rises (rp.getLsbD 6) = r2 ∧ b.go.rises (rp.getLsbD 7) = r3 ∧
      b.hold.rises (rp.getLsbD 8) = r4 ∧ b.ack.rises (rp.getLsbD 9) = r5 := by
  simpa only [Buttons.risen, List.cons.injEq, and_true] using h

/-- A train's sample: its inputs are taken in turn, each rise as its effect. -/
theorem State.sampleTrain_eq (s : State) (rp : BitVec 12) :
    ∃ b1 b2 b3 b4 : Buttons, s.sampleTrain rp =
      (((((s.sampleStop rp).pressed b1 (s.buttons.strobe.rises (rp.getLsbD 5)) State.strobe).pressed b2
        (s.buttons.load.rises (rp.getLsbD 6)) State.pressLoad).pressed b3
        (s.buttons.go.rises (rp.getLsbD 7)) State.pressGo).pressed b4
        (s.buttons.hold.rises (rp.getLsbD 8)) State.pressHold).pressed (s.buttons.sampled rp)
        (s.buttons.ack.rises (rp.getLsbD 9)) State.takeAck := by
  have hstop : (s.sampleStop rp).buttons = s.buttons := rfl
  rw [State.sampleTrain, State.sampleAck_eq, State.sampleHold_eq, State.sampleGo_eq, State.sampleLoad_eq,
    State.sampleStrobe_eq]
  simp only [State.pressed_buttons State.strobe_blind, State.pressed_buttons State.pressLoad_blind,
    State.pressed_buttons State.pressGo_blind, State.pressed_buttons State.pressHold_blind, hstop]
  exact ⟨_, _, _, _, rfl⟩

theorem State.withButtons_withButtons (s : State) (b c : Buttons) : (s.withButtons b).withButtons c = s.withButtons c := rfl

/-- A sample at which one input alone rises is its effect on the state with all inputs taken. -/
theorem State.sampleTrain_risen (s : State) (rp : BitVec 12) {u : State}
    (hu : u = (s.sampleStop rp).withButtons (s.buttons.sampled rp)) :
    (s.buttons.risen rp = [false, false, false, false, false] → s.sampleTrain rp = u) ∧
      (s.buttons.risen rp = [true, false, false, false, false] → s.sampleTrain rp = u.event State.strobe) ∧
      (s.buttons.risen rp = [false, true, false, false, false] → s.sampleTrain rp = u.event State.pressLoad) ∧
      (s.buttons.risen rp = [false, false, true, false, false] → s.sampleTrain rp = u.event State.pressGo) ∧
      (s.buttons.risen rp = [false, false, false, true, false] → s.sampleTrain rp = u.event State.pressHold) ∧
      (s.buttons.risen rp = [false, false, false, false, true] → s.sampleTrain rp = u.event State.takeAck) := by
  obtain ⟨b1, b2, b3, b4, heq⟩ := s.sampleTrain_eq rp
  rw [heq, hu]
  refine ⟨?_, ?_, ?_, ?_, ?_, ?_⟩ <;> intro h <;> obtain ⟨h1, h2, h3, h4, h5⟩ := Buttons.rises_of_risen h <;>
    simp only [h1, h2, h3, h4, h5, State.pressed, if_true, Bool.false_eq_true, if_false, State.withButtons_withButtons,
      ← State.strobe_blind.event, ← State.pressLoad_blind.event, ← State.pressGo_blind.event,
      ← State.pressHold_blind.event]

/-! ## The commands on inputs accepted already -/

theorem Debounce.sample_of_rises {d : Debounce Bool} {x : Bool} (h : d.rises x = true) : (d.sample x).1 = .accept true := by
  rw [Debounce.rises_eq] at h
  obtain ⟨⟨rfl, hlast⟩, -⟩ : (x = true ∧ d.last = some true) ∧ d.acc = some false := by simpa using h
  rw [Debounce.sample_fst, if_pos hlast]
  rfl

section
variable {s : State} (hw : s.worksAs .train = true)
include hw

theorem exec_arrivalStrobe_accepted (h : s.planner.strobeIn = .accept true) :
    exec .arrivalStrobe s = .next (s.event State.strobe) := by
  have hsame : ({ s with planner.strobeIn := .accept true } : State) = s := by rw [← h]
  simp only [exec, execArrivalStrobe, hw, if_true, hsame]

theorem exec_loadPress_accepted (h : s.planner.loadIn = .accept true) :
    exec .loadPress s = .next (s.event State.pressLoad) := by
  have hsame : ({ s with planner.loadIn := .accept true } : State) = s := by rw [← h]
  simp only [exec, execLoadPress, hw, if_true, hsame]

theorem exec_goPress_accepted (h : s.planner.goIn = .accept true) :
    exec .goPress s = .next (s.event State.pressGo) := by
  have hsame : ({ s with planner.goIn := .accept true } : State) = s := by rw [← h]
  simp only [exec, execGoPress, hw, if_true, hsame]

theorem exec_holdPress_accepted (h : s.planner.holdIn = .accept true) :
    exec .holdPress s = .next (s.event State.pressHold) := by
  have hsame : ({ s with planner.holdIn := .accept true } : State) = s := by rw [← h]
  simp only [exec, execHoldPress, hw, if_true, hsame]

theorem exec_ack_accepted (h : s.planner.ackIn = .accept true) : exec .ack s = .next (s.event State.takeAck) := by
  have hsame : ({ s with planner.ackIn := .accept true } : State) = s := by rw [← h]
  simp only [exec, execAck, hw, if_true, hsame]

end

/-- A train's sample at which one input alone rises is that input's command on the state with all inputs taken. -/
theorem State.sampleTrain_command {s u : State} {rp : BitVec 12} (hw : s.worksAs .train = true)
    (hu : u = (s.sampleStop rp).withButtons (s.buttons.sampled rp)) :
    (s.buttons.risen rp = [false, false, false, false, false] → s.sampleTrain rp = u) ∧
      (s.buttons.risen rp = [true, false, false, false, false] → .next (s.sampleTrain rp) = exec .arrivalStrobe u) ∧
      (s.buttons.risen rp = [false, true, false, false, false] → .next (s.sampleTrain rp) = exec .loadPress u) ∧
      (s.buttons.risen rp = [false, false, true, false, false] → .next (s.sampleTrain rp) = exec .goPress u) ∧
      (s.buttons.risen rp = [false, false, false, true, false] → .next (s.sampleTrain rp) = exec .holdPress u) ∧
      (s.buttons.risen rp = [false, false, false, false, true] → .next (s.sampleTrain rp) = exec .ack u) := by
  obtain ⟨hnone, hstrobe, hload, hgo, hhold, hack⟩ := s.sampleTrain_risen rp hu
  have hwu : u.worksAs .train = true := by rw [hu]; exact hw
  refine ⟨hnone, fun h => ?_, fun h => ?_, fun h => ?_, fun h => ?_, fun h => ?_⟩ <;>
    obtain ⟨h1, h2, h3, h4, h5⟩ := Buttons.rises_of_risen h
  · rw [hstrobe h, exec_arrivalStrobe_accepted hwu (by rw [hu]; exact Debounce.sample_of_rises h1)]
  · rw [hload h, exec_loadPress_accepted hwu (by rw [hu]; exact Debounce.sample_of_rises h2)]
  · rw [hgo h, exec_goPress_accepted hwu (by rw [hu]; exact Debounce.sample_of_rises h3)]
  · rw [hhold h, exec_holdPress_accepted hwu (by rw [hu]; exact Debounce.sample_of_rises h4)]
  · rw [hack h, exec_ack_accepted hwu (by rw [hu]; exact Debounce.sample_of_rises h5)]

/-! ## The sample of every role -/

theorem exec_inputSample (s : State) (pins : Pins) : exec (.inputSample pins) s = .next (s.samplePins pins) := rfl

theorem State.samplePins_of_not_working {s : State} (h : s.working = false) (pins : Pins) : s.samplePins pins = s :=
  if_neg (by simp [h])

theorem State.samplePins_of_rack {s : State} (h : s.worksAs .rack = true) (pins : Pins) :
    s.samplePins pins = s.sampleRack pins := by
  rw [State.samplePins, if_pos (State.working_of_worksAs h), State.role_of_worksAs h]

theorem State.samplePins_of_train {s : State} (h : s.worksAs .train = true) (pins : Pins) :
    s.samplePins pins = s.sampleTrain pins.rp := by
  rw [State.samplePins, if_pos (State.working_of_worksAs h), State.role_of_worksAs h]

theorem State.samplePins_of_pacer {s : State} (h : s.worksAs .pacer = true) (pins : Pins) :
    s.samplePins pins = s.sampleLine pins.rp := by
  rw [State.samplePins, if_pos (State.working_of_worksAs h), State.role_of_worksAs h]

/-- Settles O60: each role's sample, input by input. -/
theorem inputSampleTakesAcceptedChanges : Obligations.InputSampleTakesAcceptedChanges := by
  intro s pins
  rw [exec_inputSample]
  refine ⟨fun h => ⟨?_, ?_⟩, fun h => ?_, fun h => ⟨_, rfl, ?_⟩, fun h => ⟨_, rfl, ?_⟩, fun h => ?_⟩
  · rw [State.samplePins_of_not_working h]
  · exact if_neg (by simp [h])
  · exact if_pos h
  · rw [State.samplePins_of_pacer h]
    refine ⟨State.sampleLine_rise, fun hstill => ?_⟩
    rw [State.sampleLine_still hstill]
    exact ⟨rfl, rfl, rfl, rfl⟩
  · rw [State.samplePins_of_rack h]
    refine ⟨fun l hp => s.sampleRack_rises pins hp, fun l hf he hr => s.sampleRack_stays pins fun k => ?_, fun k => ?_⟩
    · cases k
      · exact hf
      · exact he
      · exact hr
    · intro x p
      have hx : presenceLevel pins k = x := by cases k <;> rfl
      obtain ⟨hpresence, hlocal, hframe⟩ := s.sampleRack_presence pins k
      rw [hx] at hpresence hlocal
      refine ⟨by rw [hpresence, Debounce.sample_fst], fun hp hup hl => ?_, fun hp hdown hl => ?_, hframe⟩
      · rw [hlocal (by rw [show (s.bank k).presence = _ from hp, hup, Debounce.sample_change (by decide)]) hl, hup]
      · rw [hlocal (by rw [show (s.bank k).presence = _ from hp, hdown, Debounce.sample_change (by decide)]) hl, hdown]
  · intro q next rises stop u risen
    rw [State.samplePins_of_train h]
    have hu : u = (s.sampleStop pins.rp).withButtons (s.buttons.sampled pins.rp) := by
      simp only [u, next, stop, q, State.sampleStop, State.withButtons, Buttons.sampled, State.buttons,
        Debounce.sample_fst]
    have hrisen : risen = s.buttons.risen pins.rp := by
      simp only [risen, rises, Buttons.risen, Debounce.rises_eq]
      rfl
    rw [hrisen]
    obtain ⟨hnone, hcommands⟩ := State.sampleTrain_command h hu
    exact ⟨fun hr => congrArg Host.Outcome.next (hnone hr), hcommands⟩

end Sys2Proof.Machine
end
